-- ==== Sys2Proof/Word.lean ====
section
/-! DEFINITION. The byte, the one machine word of the cell port and the hall line. -/

namespace Sys2Proof

/-- A byte: a character of the scanner (R49), a byte of a hall line frame (R59) or of a cell port frame (R176). -/
abbrev Byte := BitVec 8

end Sys2Proof
end

