-- ==== Sys2Proof/Syntax.lean ====
section
/-! DEFINITION. The commands of the block: one constructor for each row of spec/opcode_table.json, with the operands its rules give it. -/

namespace Sys2Proof

/-- One character of GSCN as received (R49): its data bits, and whether its stop bit was at 1. -/
structure ScanChar where
  data : Byte
  stopHigh : Bool
  deriving DecidableEq, Repr

/-- The parameters of TIMING, at the widths of R181. -/
structure TimingParams where
  tolerance : BitVec 9
  gateDeglitch : BitVec 7
  confirmDeglitch : BitVec 7
  scanWindow : BitVec 12
  armLead : BitVec 19
  dwell : BitVec 11
  confirmWindow : BitVec 11
  jamTime : BitVec 14
  stopTime : BitVec 13
  placeDeglitch : BitVec 9
  deriving DecidableEq, Repr

/-- A command of the block: an event on a pin, on the hall line or of an interval, or a command of the cell port.
The parameters of the cell port's commands have the widths of R181. -/
inductive Instr where
  /-- power-on or the reset input -/
  | powerOnReset
  /-- R4: a rising edge of ENCP while ENCD is high -/
  | forwardPulse
  /-- R5: a rising edge of ENCP while ENCD is low -/
  | reversePulse
  /-- R7 to R12: a rising edge of IDX -/
  | indexMark
  /-- R14: the loop-stopped timer reaches the stop time -/
  | loopStopped
  /-- R44: a rise of GEYE -/
  | gateEyeRise
  /-- R44: a fall of GEYE -/
  | gateEyeFall
  /-- R45: the forward pulse that brings the gate deglitch count to its length in BLOCKING -/
  | gateEdgeAccepted
  /-- R44: the forward pulse that brings the gate deglitch count to its length in CLEARING -/
  | gateCleared
  /-- R47: the forward pulse that brings a scan age to the scan window -/
  | edgeExpired
  /-- R49: the characters that complete a scanner report, one after another -/
  | scannerReport (chars : List ScanChar)
  /-- R49: a gap of 2 ms after a character of an incomplete report -/
  | reportGapTimeout
  /-- R58: the recessive run reaches 12 bit times -/
  | lineFree
  /-- R62: the station begins an attempt -/
  | sendAttempt
  /-- R63: the arbitration key ends; the bytes that carried its bits, as read on the line -/
  | arbitrationEnd (read : List Byte)
  /-- R65: the check byte of a frame ends; its bytes as read on the line, and whether a start or stop bit was wrong -/
  | frameReceived (bytes : List Byte) (lengthError : Bool)
  /-- R66: the REFUSE slot ends; whether the line was dominant in the ACCEPT slot and in the REFUSE slot -/
  | frameEnd (accept refuse : Bool)
  /-- R68: the held own frame enters the receive queue -/
  | heldOwnFrameEnters
  /-- R79: the line has been dominant for more than 2 ms -/
  | lineStuck
  /-- R79: the first bit time of recessive level -/
  | lineStuckEnd
  /-- R74: the station handles the head of its receive queue -/
  | frameHandled
  /-- R132: the forward pulse that brings the dwell count to the dwell -/
  | dwellEnd
  /-- R135: the forward pulse that brings the window count to the confirm window without a confirm edge -/
  | windowClosedMissed
  /-- R133: a rise of CEYE -/
  | confirmEyeRise
  /-- R133: a fall of CEYE -/
  | confirmEyeFall
  /-- R133, R134: the forward pulse that brings the confirm deglitch count to its length in BLOCKING -/
  | confirmEdge
  /-- R133: the forward pulse that brings the confirm deglitch count to its length in CLEARING -/
  | confirmCleared
  /-- R139: the jam timer reaches the jam time -/
  | divertJam
  /-- R169: a rise of PRDYp -/
  | placeReadyRise (p : Fin 4)
  /-- R169: a fall of PRDYp -/
  | placeReadyFall (p : Fin 4)
  /-- R169: the timer of place p reaches the place-ready deglitch time -/
  | placeReadyTimer (p : Fin 4)
  /-- R172: the window timer reaches the upper bound -/
  | watchdogExpiry
  /-- R177: a fall of CPSEL -/
  | transactionStart
  /-- R178: a rise of CPSEL after a number of bits other than 128 -/
  | transactionIncomplete (bits : Nat)
  /-- R178: a whole transaction whose check byte does not match -/
  | checkError (frame : List Byte)
  /-- R178: a whole transaction whose command code is not in the table of R181 -/
  | unknownCommand (code : Byte)
  | nop
  | keepalive
  | clearFaults
  | armWatchdog
  | hallSize (slots : BitVec 10) (pitch : BitVec 11)
  | stationEntry (id : BitVec 4) (gate : BitVec 19) (divert : BitVec 19)
  | ownSetup (id : BitVec 4) (forms : BitVec 6) (staging : BitVec 4) (reserve : BitVec 4)
  | timing (t : TimingParams)
  | faultPolicy (scope : BitVec 1) (recovery : BitVec 1) (mode : BitVec 2) (lower : BitVec 10) (upper : BitVec 13)
  | go
  | withdraw
  | rejoin
  | restart
  | openPlan (place : BitVec 8) (orderRef : BitVec 32) (tierCount : BitVec 8)
  | addLine (tier : BitVec 8) (article : BitVec 24) (form : BitVec 8) (quantity : BitVec 8)
  | commitPlan
  | abandonPlan
  | cancelPallet (place : BitVec 8)
  | releasePallet (place : BitVec 8)
  | placed (arrival : BitVec 16)
  | removeCase (arrival : BitVec 16) (reason : BitVec 8)
  | acceptSuspect (arrival : BitVec 16)
  | readNotice
  | readPallet (place : BitVec 8)
  | readLine (place : BitVec 8) (tier : BitVec 8) (line : BitVec 8)
  /-- READ STAGING with mode 0 -/
  | readStagingByArrival (value : BitVec 16)
  /-- READ STAGING with mode 1 -/
  | readStagingByIndex (value : BitVec 16)
  /-- READ STAGING with mode 2 (SUMMARY) or a mode above 2, which R181 refuses -/
  | readStagingSummary (mode : BitVec 8)
  | readClaims (index : BitVec 8)
  | readView (slot : BitVec 16)
  | readRoster (id : BitVec 8)
  | readFaults
  | setCounter (counter : BitVec 8) (event : BitVec 8) (filterKind : BitVec 8) (filterValue : BitVec 8)
  | readCounter (counter : BitVec 8)
  /-- R58: another station drives the line dominant -/
  | startBitBegins
  /-- R49: a character arrives on GSCN -/
  | scannerCharacter (c : ScanChar)
  deriving DecidableEq, Repr

end Sys2Proof
end

