-- ==== Sys2Proof/Decode.lean ====
section
/-! DEFINITION. The decoders: of a word of the opcode table (no row gives bits), and of a command frame of the cell port (R176, R178, R181). -/

namespace Sys2Proof

/-- The command a word of the opcode table spells: no row of spec/opcode_table.json gives bits, so no word spells one. -/
def decodeTableWord (_nbits _w : Nat) : Option Instr := none

/-- The sum of the bytes, not yet reduced (R61, R176). -/
def byteSum (bytes : List Byte) : Nat := bytes.foldl (fun a b => a + b.toNat) 0

/-- The check byte: 255 minus the sum of the bytes before it, taken mod 256 (R49, R61, R176, R177). -/
def checkByte (bytes : List Byte) : Byte := BitVec.ofNat 8 (255 - byteSum bytes % 256)

/-- The number that the bytes form, the first byte the most significant. -/
def bytesToNat (bytes : List Byte) : Nat := bytes.foldl (fun a b => a * 256 + b.toNat) 0

/-- The field of `width` bits that begins `offset` bits below the most significant of `total` bits. -/
def bitField (total offset width n : Nat) : Nat := n / 2 ^ (total - offset - width) % 2 ^ width

/-- Whether a frame of sixteen bytes ends with its check byte (R176). -/
def commandCheckOk (frame : List Byte) : Bool := frame.drop 15 == [checkByte (frame.take 15)]

/-- The parameter of `w` bits at `offset` of bytes 1..14 of a command frame (R176). -/
def commandParam (frame : List Byte) (offset w : Nat) : BitVec w :=
  BitVec.ofNat w (bitField 112 offset w (bytesToNat ((frame.drop 1).take 14)))

/-- The parameters of TIMING, packed in the order of R181. -/
def decodeTiming (f : List Byte) : TimingParams where
  tolerance := commandParam f 0 9
  gateDeglitch := commandParam f 9 7
  confirmDeglitch := commandParam f 16 7
  scanWindow := commandParam f 23 12
  armLead := commandParam f 35 19
  dwell := commandParam f 54 11
  confirmWindow := commandParam f 65 11
  jamTime := commandParam f 76 14
  stopTime := commandParam f 90 13
  placeDeglitch := commandParam f 103 9

/-- READ STAGING by its mode (R181): BY ARRIVAL 0, BY INDEX 1, SUMMARY 2; a mode above 2 goes with the last row. -/
def decodeReadStaging (mode : Byte) (value : BitVec 16) : Instr :=
  if mode = 0 then .readStagingByArrival value
  else if mode = 1 then .readStagingByIndex value
  else .readStagingSummary mode

/-- The command of a command frame whose check byte matches (R181), none where the code is not in the table. -/
def decodeCommand (f : List Byte) : Option Instr :=
  match (f.headD 0).toNat with
  | 0 => some .nop
  | 1 => some .keepalive
  | 2 => some .clearFaults
  | 3 => some .armWatchdog
  | 16 => some (.hallSize (commandParam f 0 10) (commandParam f 10 11))
  | 17 => some (.stationEntry (commandParam f 0 4) (commandParam f 4 19) (commandParam f 23 19))
  | 18 => some (.ownSetup (commandParam f 0 4) (commandParam f 4 6) (commandParam f 10 4) (commandParam f 14 4))
  | 19 => some (.timing (decodeTiming f))
  | 20 => some (.faultPolicy (commandParam f 0 1) (commandParam f 1 1) (commandParam f 2 2) (commandParam f 4 10)
      (commandParam f 14 13))
  | 21 => some .go
  | 24 => some .withdraw
  | 25 => some .rejoin
  | 26 => some .restart
  | 32 => some (.openPlan (commandParam f 0 8) (commandParam f 8 32) (commandParam f 40 8))
  | 33 => some (.addLine (commandParam f 0 8) (commandParam f 8 24) (commandParam f 32 8) (commandParam f 40 8))
  | 34 => some .commitPlan
  | 35 => some .abandonPlan
  | 36 => some (.cancelPallet (commandParam f 0 8))
  | 37 => some (.releasePallet (commandParam f 0 8))
  | 48 => some (.placed (commandParam f 0 16))
  | 49 => some (.removeCase (commandParam f 0 16) (commandParam f 16 8))
  | 50 => some (.acceptSuspect (commandParam f 0 16))
  | 64 => some .readNotice
  | 65 => some (.readPallet (commandParam f 0 8))
  | 66 => some (.readLine (commandParam f 0 8) (commandParam f 8 8) (commandParam f 16 8))
  | 67 => some (decodeReadStaging (commandParam f 0 8) (commandParam f 8 16))
  | 68 => some (.readClaims (commandParam f 0 8))
  | 69 => some (.readView (commandParam f 0 16))
  | 70 => some (.readRoster (commandParam f 0 8))
  | 71 => some .readFaults
  | 80 => some (.setCounter (commandParam f 0 8) (commandParam f 8 8) (commandParam f 16 8) (commandParam f 24 8))
  | 81 => some (.readCounter (commandParam f 0 8))
  | _ => none

/-- The command that the bytes clocked in by one transaction stand for (R176, R178), total on any bytes. -/
def decodeCommandFrame (f : List Byte) : Instr :=
  if f.length ≠ 16 then .transactionIncomplete (8 * f.length)
  else if commandCheckOk f = false then .checkError f
  else (decodeCommand f).getD (.unknownCommand (f.headD 0))

/-- The byte of eight bits, the first the most significant (R176). -/
def bitsByte (bits : List Bool) : Byte := BitVec.ofNat 8 (bits.foldl (fun a b => 2 * a + b.toNat) 0)

/-- The bytes of a row of bits, each from its most significant bit; bits short of a byte are left out (R176). -/
def bitsToBytes : List Bool → List Byte
  | b0 :: b1 :: b2 :: b3 :: b4 :: b5 :: b6 :: b7 :: rest => bitsByte [b0, b1, b2, b3, b4, b5, b6, b7] :: bitsToBytes rest
  | _ => []

/-- The row that the end of a transaction stands for, by the bits clocked in it: whole at exactly 128 (R176, R178). -/
def decodeTransaction (bits : List Bool) : Instr :=
  if bits.length = 128 then decodeCommandFrame (bitsToBytes bits) else .transactionIncomplete bits.length

/-- The number of data bytes of a frame by its kind code (R59, R60); kinds 0 and 8..15 have three. -/
def frameDataLength (kind : Nat) : Nat :=
  match kind with
  | 4 => 4
  | 5 => 6
  | 7 => 2
  | _ => 3

/-- The kind of a frame: the first four data bits of its first byte (R59). -/
def frameKind (bytes : List Byte) : Nat := (bytes.headD 0).toNat / 16

end Sys2Proof
end

