-- ==== Sys2Proof/Config.lean ====
section
/-! DEFINITION. What the spec fixes once for every part (capacities and limits) and the one value it leaves open. -/

namespace Sys2Proof.Config

/-- Free value (log 6). R75 reports an unknown kind "with the frame's sender field", and R65 a whole frame
refused for want of room, but no rule says where a frame of kind 0 or 8..15 carries its sender: it is an
uninterpreted function of the frame's data bytes, one station ID 0..15. -/
opaque unknownKindSender : List Byte → Fin 16

/-- R70: the transmit queue holds at most 12 frames. -/
def txCapacity : Nat := 12
/-- R70: of them at most 5 are ANNOUNCE. -/
def announceCapacity : Nat := 5
/-- R74: the receive queue holds at most 8 frames. -/
def rxCapacity : Nat := 8
/-- R68: the eighth refused send abandons a frame. -/
def maxSends : Nat := 8
/-- R78: the eighth refused frame in a row raises RX_ERRORS. -/
def checkErrorLimit : Nat := 8
/-- R5: the eighth reverse pulse in a row raises LOOP_REVERSE. -/
def reverseLimit : Nat := 8
/-- R58: 12 bit times of recessive level make the line free. -/
def recessiveLimit : Nat := 12
/-- R46: the pending edge queue holds at most four pending edges. -/
def edgeCapacity : Nat := 4
/-- R49: a scanner report has six bytes. -/
def reportLength : Nat := 6
/-- R49: a gap of 2 ms ends an incomplete scanner report. -/
def reportGap : Nat := 2
/-- R79: a line dominant for more than 2 ms is stuck. -/
def stuckLimit : Nat := 2
/-- R103: at most 6 frame places are in use. -/
def framePlaceLimit : Nat := 6
/-- R186: the notice queue holds at most 32 notices. -/
def noticeCapacity : Nat := 32
/-- R22: a tier holds at most 16 lines. -/
def tierLines : Nat := 16
/-- R22: a plan holds at most 48 lines. -/
def planLines : Nat := 48
/-- R22: the four places together hold at most 128 lines. -/
def totalLines : Nat := 128
/-- R19: tiers 1..12. -/
def maxTiers : Nat := 12
/-- R188: a counter stays at 4,294,967,295. -/
def counterMax : Nat := 4294967295
/-- R152: a removal tally stays at 65535. -/
def tallyMax : Nat := 65535

end Sys2Proof.Config
end

