-- ==== Sys2Proof/Machine/State.lean ====
section
/-! DEFINITION. The state of the part as plain data, block by block as 00_scope.md 1.4 gives them, and its reset. -/

namespace Sys2Proof.Machine

/-- Nothing stops the part: the faults of R168 are state, and every row of the table has an effect or none. -/
inductive Fault : Type
  deriving DecidableEq, Repr

/-- Why a command has no meaning. -/
inductive Refusal where
  /-- raised by an arm of exec whose command has no meaning yet; safe: the model stops where the part goes on -/
  | notModelled (mnemonic : String)
  deriving DecidableEq, Repr

/-- A station ID, 0..15. -/
abbrev Station := Fin 16
/-- A pallet place, 0..3. -/
abbrev PlaceId := Fin 4

/-- The form codes of 00_scope.md 1.6. -/
inductive Form where
  | crate | tray | carton | keg | box | other
  deriving DecidableEq, Repr

/-- What a case is: its article, 0..16,777,215, and its form. -/
structure CaseId where
  article : Nat
  form : Form
  deriving DecidableEq, Repr

/-! ### Configuration (R2, R43, R128, R159, R172, R182) -/

/-- L and P as HALL SIZE gives them (R2). -/
structure HallSize where
  slots : Nat
  pitch : Nat
  deriving DecidableEq, Repr

/-- The gate position g and the divert position d of a station present in the hall table (R1, R182). -/
structure StationPos where
  gate : Nat
  divert : Nat
  deriving DecidableEq, Repr

/-- OWN SETUP (R182): own ID, supported forms, S and R. -/
structure OwnSetup where
  id : Station
  forms : BitVec 6
  staging : Nat
  reserve : Nat
  deriving DecidableEq, Repr

/-- TIMING (R182). -/
structure Timing where
  tolerance : Nat
  gateDeglitch : Nat
  confirmDeglitch : Nat
  scanWindow : Nat
  armLead : Nat
  dwell : Nat
  confirmWindow : Nat
  jamTime : Nat
  stopTime : Nat
  placeDeglitch : Nat
  deriving DecidableEq, Repr

inductive Scope where
  | place | cell
  deriving DecidableEq, Repr

inductive Recovery where
  | auto | latched
  deriving DecidableEq, Repr

inductive WatchdogMode where
  | off | warn | withdraw
  deriving DecidableEq, Repr

/-- FAULT POLICY (R159, R172). -/
structure Policy where
  scope : Scope
  recovery : Recovery
  mode : WatchdogMode
  lower : Nat
  upper : Nat
  deriving DecidableEq, Repr

/-- What the configuration commands have given since the last reset, absent where not given (R182). -/
structure Configuration where
  hallSize : Option HallSize
  hall : Vector (Option StationPos) 16
  own : Option OwnSetup
  timing : Option Timing
  policy : Option Policy
  deriving DecidableEq, Repr

/-! ### Input pins (00_scope.md 1.9) -/

/-- The levels of the inputs that hold a level between events. -/
structure Pins where
  gateEye : Bool
  confirmEye : Bool
  placeReady : Vector Bool 4
  deriving DecidableEq, Repr

/-! ### Loop Tracker (R3) -/

structure LoopTracker where
  counter : Nat
  aligned : Bool
  markAwaited : Bool
  reverseTally : Nat
  /-- the loop running flag: RUNNING is true, STOPPED false -/
  running : Bool
  /-- the loop-stopped timer: halted, or running at this many milliseconds -/
  stopTimer : Option Nat
  deriving DecidableEq, Repr

/-! ### Gate Unit (R42) -/

inductive GateDeglitch where
  | clear
  /-- candidate start value, candidate aligned mark, deglitch count -/
  | blocking (start : Nat) (aligned : Bool) (count : Nat)
  | blocked
  | clearing (count : Nat)
  deriving DecidableEq, Repr

structure PendingEdge where
  captured : Nat
  slot : Nat
  age : Nat
  lapped : Bool
  deriving DecidableEq, Repr

structure GateUnit where
  deglitch : GateDeglitch
  /-- pending edges, oldest first -/
  edges : List PendingEdge
  /-- the report receiver: idle when empty, else the characters of the report in progress, first first -/
  report : List ScanChar
  /-- milliseconds since the last character of the report in progress -/
  gap : Nat
  deriving DecidableEq, Repr

/-! ### Hall Line Controller (R57, R60, R74) -/

inductive LineState where
  | off | seeking | free | carrying
  deriving DecidableEq, Repr

inductive Urgency where
  | closing | current | ahead
  deriving DecidableEq, Repr

inductive ReleaseReason where
  | late | cancelled | withdrawn | fault | lost
  deriving DecidableEq, Repr

/-- A frame with its fields as the line carries them (R60). A frame of kind 0 or 8..15 is held by its data bytes. -/
inductive Frame where
  | taken (slot : Nat) (sender : Station) (place : PlaceId)
  | missed (slot : Nat) (sender : Station)
  | release (slot : Nat) (sender : Station) (reason : Nat)
  | claim (urgency : Nat) (distance : Nat) (sender : Station) (slot : Nat) (place : PlaceId)
  | announce (slot : Nat) (sender : Station) (article : Nat) (form : Nat)
  | join (sender : Station) (digest : Nat)
  | withdraw (sender : Station) (reason : Nat)
  | unknown (data : List Byte)
  deriving DecidableEq, Repr

/-- A frame offered to the transmit queue: its sender is the own ID, and a CLAIM's distance is computed at each
attempt (R62). -/
inductive OutFrame where
  | taken (slot : Nat) (place : PlaceId)
  | missed (slot : Nat)
  | release (slot : Nat) (reason : ReleaseReason)
  | claim (urgency : Urgency) (slot : Nat) (place : PlaceId)
  | announce (slot : Nat) (case : CaseId)
  | join (digest : Nat)
  | withdraw (reason : Nat)
  deriving DecidableEq, Repr

/-- A frame of the transmit queue (R57, R72). -/
structure TxFrame where
  frame : OutFrame
  /-- SENDING, else WAITING -/
  sending : Bool
  /-- in the attempt or send in progress -/
  inAttempt : Bool
  /-- its withdrawal was asked for while it was WAITING in an attempt (R72) -/
  withdrawAsked : Bool
  /-- a CLAIM whose entry an immediate withdrawal removed while it was WAITING in an attempt (R123) -/
  orphaned : Bool
  deriving DecidableEq, Repr

/-- A frame of the receive queue with its mark, own or heard (R74). -/
structure RxFrame where
  frame : Frame
  own : Bool
  deriving DecidableEq, Repr

/-- The attempt or send in progress (R62 to R66). -/
structure Attempt where
  /-- the frame being driven, with the distance of this attempt -/
  sent : Frame
  /-- the key has ended and this station goes on driving -/
  won : Bool
  /-- whether this station drives REFUSE against its own frame, once the check byte has ended (R66) -/
  ownRefuse : Option Bool
  deriving DecidableEq, Repr

inductive EndSlotAnswer where
  | accept | refuse
  deriving DecidableEq, Repr

structure HallLine where
  state : LineState
  recessiveRun : Nat
  stuck : Bool
  /-- the stuck timer (R57, R79): halted at recessive level, or running at this many milliseconds of dominant level -/
  stuckTimer : Option Nat
  /-- transmit queue in the order of taking; R69's order is computed from it -/
  tx : List TxFrame
  repeatCount : Nat
  /-- receive queue in line order -/
  rx : List RxFrame
  held : Option Frame
  checkErrors : Nat
  attempt : Option Attempt
  answer : Option EndSlotAnswer
  deriving DecidableEq, Repr

/-! ### Loop View (R81) -/

/-- An entry of the view. A case of `none` is UNKNOWN; a DISPUTED entry's case is always known (log 16). -/
inductive ViewEntry where
  | empty
  | free (case : Option CaseId) (announcer : Option Station)
  | claimed (case : Option CaseId) (announcer : Option Station) (claimant : Station) (place : PlaceId)
  | disputed (case : CaseId) (announcer : Option Station)
  deriving DecidableEq, Repr

/-! ### Plan Store (R19, R20) -/

inductive PlaceState where
  | empty | loading | building | suspended | complete | cancelling
  deriving DecidableEq, Repr

structure Line where
  case : CaseId
  quantity : Nat
  claimed : Nat
  staged : Nat
  placed : Nat
  deriving DecidableEq, Repr

structure Place where
  state : PlaceState
  orderRef : Option (BitVec 32)
  tierCount : Option Nat
  currentTier : Option Nat
  /-- the lines of tier 1, of tier 2, and so on: twelve lists from OPEN PLAN, none in EMPTY -/
  tiers : List (List Line)
  deriving DecidableEq, Repr

structure PlanStore where
  places : Vector Place 4
  buildOrder : List PlaceId
  /-- closed, or open for one place -/
  loader : Option PlaceId
  deriving DecidableEq, Repr

/-- A line named by its place, its tier 1..12 and its line number 1..16 (R20). -/
structure Target where
  place : PlaceId
  tier : Nat
  line : Nat
  deriving DecidableEq, Repr

/-! ### Contest Unit (R102, R103) -/

inductive ClaimState where
  | queued | sending | armed | committed | firing
  deriving DecidableEq, Repr

inductive PendingEnd where
  | lost | expired | cancelled | withdrawn
  deriving DecidableEq, Repr

structure Claim where
  slot : Nat
  target : Target
  urgency : Urgency
  state : ClaimState
  firePos : Option Nat
  pendingEnd : Option PendingEnd
  late : Bool
  suspect : Bool
  deriving DecidableEq, Repr

structure ContestUnit where
  /-- the claim table in the order of making; the fire order of R102 is computed from it (log 10) -/
  claims : List Claim
  /-- own CLAIM frames without an entry, each by its slot (R123) -/
  orphans : List Nat
  /-- the model's own: a reason to search was met inside the current event (log 8) -/
  searchDue : Bool
  deriving DecidableEq, Repr

/-! ### Divert Unit (R127) -/

inductive ConfirmDeglitch where
  | clear
  | blocking (count : Nat)
  | blocked
  | clearing (count : Nat)
  deriving DecidableEq, Repr

structure Fire where
  slot : Nat
  place : PlaceId
  dwell : Option Nat
  window : Option Nat
  deriving DecidableEq, Repr

structure DivertUnit where
  output : Bool
  fire : Option Fire
  deglitch : ConfirmDeglitch
  jamTimer : Option Nat
  jam : Bool
  deriving DecidableEq, Repr

/-! ### Staging Table (R143) -/

inductive RecordState where
  | waiting | placeable | suspect | orphan
  deriving DecidableEq, Repr

structure StagingRecord where
  arrival : Nat
  slot : Nat
  case : CaseId
  /-- absent in ORPHAN -/
  target : Option Target
  state : RecordState
  deriving DecidableEq, Repr

structure StagingTable where
  /-- in arrival order, oldest first -/
  records : List StagingRecord
  nextArrival : Nat
  damaged : Nat
  returned : Nat
  deriving DecidableEq, Repr

/-! ### Participation and Fault Unit (R159, R164, R168, R169, R172) -/

inductive Participation where
  | start | listening | active | withdrawn
  deriving DecidableEq, Repr

inductive RosterState where
  | absent | joined | withdrawn | mismatched
  deriving DecidableEq, Repr

structure RosterEntry where
  state : RosterState
  digest : Option Nat
  deriving DecidableEq, Repr

/-- The entries of the fault record (R168), one PLACE_NOT_READY for each place. -/
inductive FaultId where
  | cfgMismatch | indexSlip | loopReverse | divertJam | rxErrors | watchdog
  | placeNotReady (p : PlaceId)
  | lineStuck | frameAbandoned | noticeOverrun
  deriving DecidableEq, Repr

structure FaultEntry where
  indication : Bool
  shown : Bool
  condition : Bool
  deriving DecidableEq, Repr

inductive SlipCause where
  | early | late | missing
  deriving DecidableEq, Repr

inductive WatchState where
  | unwatched | ready | dropping | notReady | rising
  deriving DecidableEq, Repr

structure Watch where
  state : WatchState
  timer : Nat
  deriving DecidableEq, Repr

inductive WatchdogState where
  | off | running | stopped
  deriving DecidableEq, Repr

structure FaultUnit where
  state : Participation
  listeningMarks : Nat
  digest : Option Nat
  roster : Vector RosterEntry 16
  /-- in the order of R185: see FaultId.index -/
  faults : Vector FaultEntry 13
  slipCause : Option SlipCause
  watches : Vector Watch 4
  watchdog : WatchdogState
  watchdogTimer : Nat
  deriving DecidableEq, Repr

/-! ### Cell Port (R176, R177, R180, R187) -/

inductive Result where
  | none | done | frameError | checkError | unknownCommand | refusedState | refusedRange | refusedFull | busy
  | noSuch | notPlaceable | planInvalid | configInvalid
  deriving DecidableEq, Repr

/-- A response: its result code and its 11 data bytes, byte 4 the most significant (R177). -/
structure Response where
  result : Result
  data : BitVec 88
  deriving DecidableEq, Repr

inductive Notice where
  | caseStaged (arrival : Nat) (target : Target) (state : RecordState)
  | casePlaceable (arrival : Nat)
  | tierDone (place : PlaceId) (tier : Nat)
  | palletDone (place : PlaceId)
  | divertMissed (slot : Nat) (place : PlaceId)
  | caseOrphaned (arrival : Nat)
  | cancelDone (place : PlaceId)
  | faultRaised (code : Nat) (detail : Nat)
  | participation (state : Participation)
  | loopStopped
  | loopRunning
  deriving DecidableEq, Repr

/-- A transaction in progress (R176, R177). -/
structure Transaction where
  /-- the response frame being shifted out, fixed at the fall of CPSEL -/
  frame : List Byte
  /-- the bits taken from CPIN, first first -/
  received : List Bool
  /-- the number of bits driven on CPOUT -/
  driven : Nat
  deriving DecidableEq, Repr

structure CellPort where
  /-- the command decoder: idle, or a transaction in progress -/
  transaction : Option Transaction
  response : Response
  /-- oldest first -/
  notices : List Notice
  /-- ATTN, true while active (driven low) -/
  attn : Bool
  deriving DecidableEq, Repr

/-! ### Counter Unit (R188, R189) -/

inductive CounterEvent where
  | announceHeard | announceSent | announceDropped | claimSent | claimWon | claimLost | claimExpired | releaseSent
  | taken | missed | frameRefusedByMe | frameRepeated | noRead | scanStray | confirmStray | stranger | unknownKind
  | stagingOccupancy | claimOccupancy
  deriving DecidableEq, Repr

inductive Filter where
  | none
  | station (id : Station)
  | place (p : PlaceId)
  deriving DecidableEq, Repr

structure Counter where
  value : Nat
  event : Option CounterEvent
  filter : Filter
  deriving DecidableEq, Repr

/-! ### The whole part -/

structure State where
  config : Configuration
  pins : Pins
  loop : LoopTracker
  gate : GateUnit
  line : HallLine
  view : List ViewEntry
  plans : PlanStore
  contest : ContestUnit
  divert : DivertUnit
  staging : StagingTable
  part : FaultUnit
  port : CellPort
  counters : Vector Counter 4
  /-- the commands waiting, first in, first out -/
  pending : List Instr
  deriving DecidableEq, Repr

/-! ### Replacing one block -/

def State.setConfig (s : State) (x : Configuration) : State := { s with config := x }
def State.setPins (s : State) (x : Pins) : State := { s with pins := x }
def State.setLoop (s : State) (x : LoopTracker) : State := { s with loop := x }
def State.setGate (s : State) (x : GateUnit) : State := { s with gate := x }
def State.setLine (s : State) (x : HallLine) : State := { s with line := x }
def State.setView (s : State) (x : List ViewEntry) : State := { s with view := x }
def State.setPlans (s : State) (x : PlanStore) : State := { s with plans := x }
def State.setContest (s : State) (x : ContestUnit) : State := { s with contest := x }
def State.setDivert (s : State) (x : DivertUnit) : State := { s with divert := x }
def State.setStaging (s : State) (x : StagingTable) : State := { s with staging := x }
def State.setPart (s : State) (x : FaultUnit) : State := { s with part := x }
def State.setPort (s : State) (x : CellPort) : State := { s with port := x }
def State.setCounters (s : State) (x : Vector Counter 4) : State := { s with counters := x }
def State.setPending (s : State) (x : List Instr) : State := { s with pending := x }

/-! ### Reset (R2, R3, R19, R42, R57, R82, R102, R127, R143, R159, R177, R182, R186, R188) -/

def Configuration.reset : Configuration :=
  { hallSize := none, hall := Vector.replicate 16 none, own := none, timing := none, policy := none }

/-- The inputs are driven from outside; the reset state takes each low (log 5). -/
def Pins.reset : Pins := { gateEye := false, confirmEye := false, placeReady := Vector.replicate 4 false }

def LoopTracker.reset : LoopTracker :=
  { counter := 0, aligned := false, markAwaited := false, reverseTally := 0, running := true, stopTimer := none }

def GateUnit.reset : GateUnit := { deglitch := .clear, edges := [], report := [], gap := 0 }

def HallLine.reset : HallLine :=
  { state := .off, recessiveRun := 0, stuck := false, stuckTimer := none, tx := [], repeatCount := 0, rx := [],
    held := none, checkErrors := 0, attempt := none, answer := none }

def Place.empty : Place :=
  { state := .empty, orderRef := none, tierCount := none, currentTier := none, tiers := [] }

def PlanStore.reset : PlanStore := { places := Vector.replicate 4 Place.empty, buildOrder := [], loader := none }

def ContestUnit.reset : ContestUnit := { claims := [], orphans := [], searchDue := false }

def DivertUnit.reset : DivertUnit :=
  { output := false, fire := none, deglitch := .clear, jamTimer := none, jam := false }

def StagingTable.reset : StagingTable := { records := [], nextArrival := 0, damaged := 0, returned := 0 }

def FaultUnit.reset : FaultUnit :=
  { state := .start, listeningMarks := 0, digest := none,
    roster := Vector.replicate 16 { state := .absent, digest := none },
    faults := Vector.replicate 13 { indication := false, shown := false, condition := false },
    slipCause := none, watches := Vector.replicate 4 { state := .unwatched, timer := 0 },
    watchdog := .off, watchdogTimer := 0 }

def CellPort.reset : CellPort :=
  { transaction := none, response := { result := .none, data := 0 }, notices := [], attn := false }

def Counter.reset : Counter := { value := 0, event := none, filter := .none }

/-- The part right after power-on or the reset input. -/
def State.reset : State :=
  { config := Configuration.reset, pins := Pins.reset, loop := LoopTracker.reset, gate := GateUnit.reset,
    line := HallLine.reset, view := [], plans := PlanStore.reset, contest := ContestUnit.reset,
    divert := DivertUnit.reset, staging := StagingTable.reset, part := FaultUnit.reset, port := CellPort.reset,
    counters := Vector.replicate 4 Counter.reset, pending := [] }

end Sys2Proof.Machine
end

