-- ==== Sys2Proof/Machine/Operands.lean ====
section
/-! DEFINITION. Codes of the enumerations, packing of read data (R185), and the hall line's frames in bits and bytes (R59 to R61). -/

namespace Sys2Proof.Machine

/-! ### Codes -/

/-- The form codes of 00_scope.md 1.6. -/
def Form.code : Form → Nat
  | .crate => 0 | .tray => 1 | .carton => 2 | .keg => 3 | .box => 4 | .other => 5

def Form.ofCode : Nat → Option Form
  | 0 => some .crate | 1 => some .tray | 2 => some .carton | 3 => some .keg | 4 => some .box | 5 => some .other
  | _ => none

/-- The most significant of the six bits of supported forms is for CRATE (R181). -/
def supportsForm (forms : BitVec 6) (f : Form) : Bool := forms.getMsbD f.code

/-- R60: CLOSING 0, CURRENT 1, AHEAD 2. -/
def Urgency.code : Urgency → Nat
  | .closing => 0 | .current => 1 | .ahead => 2

/-- R60: LATE 0, CANCELLED 1, WITHDRAWN 2, FAULT 3, LOST 4. -/
def ReleaseReason.code : ReleaseReason → Nat
  | .late => 0 | .cancelled => 1 | .withdrawn => 2 | .fault => 3 | .lost => 4

/-- R179. -/
def Participation.code : Participation → Nat
  | .start => 0 | .listening => 1 | .active => 2 | .withdrawn => 3

/-- R179. -/
def PlaceState.code : PlaceState → Nat
  | .empty => 0 | .loading => 1 | .building => 2 | .suspended => 3 | .complete => 4 | .cancelling => 5

/-- The order of the list in R102. -/
def ClaimState.code : ClaimState → Nat
  | .queued => 0 | .sending => 1 | .armed => 2 | .committed => 3 | .firing => 4

/-- The order of the list in R102. -/
def PendingEnd.code : PendingEnd → Nat
  | .lost => 0 | .expired => 1 | .cancelled => 2 | .withdrawn => 3

/-- The order of the list in R143, and R187. -/
def RecordState.code : RecordState → Nat
  | .waiting => 0 | .placeable => 1 | .suspect => 2 | .orphan => 3

/-- The order of the list in R164. -/
def RosterState.code : RosterState → Nat
  | .absent => 0 | .joined => 1 | .withdrawn => 2 | .mismatched => 3

/-- R185, R187. -/
def SlipCause.code : SlipCause → Nat
  | .early => 0 | .late => 1 | .missing => 2

/-- R185. -/
def WatchdogState.code : WatchdogState → Nat
  | .off => 0 | .running => 1 | .stopped => 2

/-- R180. -/
def Result.code : Result → Nat
  | .none => 0 | .done => 1 | .frameError => 2 | .checkError => 3 | .unknownCommand => 4 | .refusedState => 5
  | .refusedRange => 6 | .refusedFull => 7 | .busy => 8 | .noSuch => 9 | .notPlaceable => 10 | .planInvalid => 11
  | .configInvalid => 12

/-- R189. -/
def CounterEvent.code : CounterEvent → Nat
  | .announceHeard => 1 | .announceSent => 2 | .announceDropped => 3 | .claimSent => 4 | .claimWon => 5
  | .claimLost => 6 | .claimExpired => 7 | .releaseSent => 8 | .taken => 9 | .missed => 10 | .frameRefusedByMe => 11
  | .frameRepeated => 12 | .noRead => 13 | .scanStray => 14 | .confirmStray => 15 | .stranger => 16
  | .unknownKind => 17 | .stagingOccupancy => 18 | .claimOccupancy => 19

def CounterEvent.ofCode : Nat → Option CounterEvent
  | 1 => some .announceHeard | 2 => some .announceSent | 3 => some .announceDropped | 4 => some .claimSent
  | 5 => some .claimWon | 6 => some .claimLost | 7 => some .claimExpired | 8 => some .releaseSent
  | 9 => some .taken | 10 => some .missed | 11 => some .frameRefusedByMe | 12 => some .frameRepeated
  | 13 => some .noRead | 14 => some .scanStray | 15 => some .confirmStray | 16 => some .stranger
  | 17 => some .unknownKind | 18 => some .stagingOccupancy | 19 => some .claimOccupancy
  | _ => none

/-- R189, R191: NONE 0, STATION 1, PLACE 2. -/
def Filter.kindCode : Filter → Nat
  | .none => 0 | .station _ => 1 | .place _ => 2

def Filter.value : Filter → Nat
  | .none => 0 | .station i => i.val | .place p => p.val

/-- R168. -/
def FaultId.code : FaultId → Nat
  | .cfgMismatch => 1 | .indexSlip => 2 | .loopReverse => 3 | .divertJam => 4 | .rxErrors => 5 | .watchdog => 6
  | .placeNotReady _ => 7 | .lineStuck => 8 | .frameAbandoned => 9 | .noticeOverrun => 10

/-- The place of an entry in the order of R185. -/
def FaultId.index : FaultId → Fin 13
  | .cfgMismatch => 0 | .indexSlip => 1 | .loopReverse => 2 | .divertJam => 3 | .rxErrors => 4 | .watchdog => 5
  | .placeNotReady p => ⟨6 + p.val, by omega⟩ | .lineStuck => 10 | .frameAbandoned => 11 | .noticeOverrun => 12

/-- Every entry of the fault record, in the order of R185. -/
def FaultId.all : List FaultId :=
  [.cfgMismatch, .indexSlip, .loopReverse, .divertJam, .rxErrors, .watchdog, .placeNotReady 0, .placeNotReady 1,
    .placeNotReady 2, .placeNotReady 3, .lineStuck, .frameAbandoned, .noticeOverrun]

/-- The condition faults of R168; the others are event faults. -/
def FaultId.hasCondition : FaultId → Bool
  | .cfgMismatch | .divertJam | .placeNotReady _ | .lineStuck => true
  | .indexSlip | .loopReverse | .rxErrors | .watchdog | .frameAbandoned | .noticeOverrun => false

/-! ### Parameters -/

/-- A station ID from its four bits. -/
def stationOf (b : BitVec 4) : Station := ⟨b.toNat, b.isLt⟩

/-- The place a parameter names, none outside 0..3. -/
def placeOf? (n : Nat) : Option PlaceId := if h : n < 4 then some ⟨n, h⟩ else none

/-! ### Packing from the most significant bit (R185) -/

/-- One item of read data: its width in bits and its value. -/
abbrev Item := Nat × Nat

def packWidth (items : List Item) : Nat := items.foldl (fun a i => a + i.1) 0

def packNat (items : List Item) : Nat := items.foldl (fun a i => a * 2 ^ i.1 + i.2 % 2 ^ i.1) 0

/-- The 11 data bytes that carry the items from the most significant bit of byte 4; the bits after them are 0. -/
def packData (items : List Item) : BitVec 88 := BitVec.ofNat 88 (packNat items * 2 ^ (88 - packWidth items))

/-- Items that may be absent together: one presence flag, then the items, sent as 0 when absent. -/
def optItems {α : Type} (x : Option α) (widths : List Nat) (items : α → List Item) : List Item :=
  match x with
  | some a => (1, 1) :: items a
  | none => (1, 0) :: widths.map (fun w => (w, 0))

/-- The `n` bytes of a number, the most significant first. -/
def natBytes (n x : Nat) : List Byte := (List.range n).map (fun i => BitVec.ofNat 8 (x / 256 ^ (n - 1 - i)))

/-- R176: a command frame of the cell port: the code, the parameters packed from the most significant bit of byte 1,
the bits after them 0, and the check byte. -/
def commandFrame (code : Nat) (params : List Item) : List Byte :=
  let body := natBytes 1 code ++ natBytes 14 (packNat params * 2 ^ (112 - packWidth params))
  body ++ [checkByte body]

/-! ### Frames (R59, R60, R61) -/

/-- The kind code of a frame; for an unknown kind, that of its data bytes. -/
def Frame.kind : Frame → Nat
  | .taken .. => 1 | .missed .. => 2 | .release .. => 3 | .claim .. => 4 | .announce .. => 5 | .join .. => 6
  | .withdraw .. => 7 | .unknown d => frameKind d

/-- The sender field; for an unknown kind, a free value (log 6). -/
def Frame.sender : Frame → Station
  | .taken _ s _ => s | .missed _ s => s | .release _ s _ => s | .claim _ _ s _ _ => s | .announce _ s _ _ => s
  | .join s _ => s | .withdraw s _ => s | .unknown d => Config.unknownKindSender d

/-- The fields of each kind in order, with their widths (R60). -/
def Frame.fields : Frame → List Item
  | .taken k s p => [(4, 1), (9, k), (4, s.val), (2, p.val)]
  | .missed k s => [(4, 2), (9, k), (4, s.val)]
  | .release k s r => [(4, 3), (9, k), (4, s.val), (3, r)]
  | .claim u d s k p => [(4, 4), (2, u), (9, d), (4, s.val), (9, k), (2, p.val)]
  | .announce k s a f => [(4, 5), (9, k), (4, s.val), (24, a), (3, f)]
  | .join s d => [(4, 6), (4, s.val), (16, d)]
  | .withdraw s r => [(4, 7), (4, s.val), (4, r)]
  | .unknown d => d.map (fun b => (8, b.toNat))

/-- The fields and the padding bits of 1 up to the end of the last data byte (R60). -/
def Frame.paddedFields (f : Frame) : List Item :=
  let pad := 8 * frameDataLength f.kind - packWidth f.fields
  f.fields ++ [(pad, 2 ^ pad - 1)]

/-- The data bytes (R60). -/
def Frame.dataBytes (f : Frame) : List Byte := natBytes (frameDataLength f.kind) (packNat f.paddedFields)

/-- The bytes of a frame with its check byte last (R61). -/
def Frame.bytes (f : Frame) : List Byte := f.dataBytes ++ [checkByte f.dataBytes]

/-- The number of data bits of the arbitration key of a kind: kind, slot, sender; kind, urgency, distance, sender;
or kind, sender (R60). -/
def keyBits (kind : Nat) : Nat :=
  match kind with
  | 4 => 19
  | 6 | 7 => 8
  | _ => 17

/-- A receiver's check: the sum of all bytes of the frame mod 256 is 255 (R61). -/
def frameCheckOk (bytes : List Byte) : Bool := byteSum bytes % 256 == 255

def placeField (n : Nat) : PlaceId := ⟨n % 4, Nat.mod_lt _ (by decide)⟩
def stationField (n : Nat) : Station := ⟨n % 16, Nat.mod_lt _ (by decide)⟩

/-- The frame that the data bytes of a whole frame carry (R60); the padding is not tested. -/
def parseFrame (bytes : List Byte) : Frame :=
  let kind := frameKind bytes
  let data := bytes.take (frameDataLength kind)
  let f := fun off w => bitField (8 * frameDataLength kind) off w (bytesToNat data)
  match kind with
  | 1 => .taken (f 4 9) (stationField (f 13 4)) (placeField (f 17 2))
  | 2 => .missed (f 4 9) (stationField (f 13 4))
  | 3 => .release (f 4 9) (stationField (f 13 4)) (f 17 3)
  | 4 => .claim (f 4 2) (f 6 9) (stationField (f 15 4)) (f 19 9) (placeField (f 28 2))
  | 5 => .announce (f 4 9) (stationField (f 13 4)) (f 17 24) (f 41 3)
  | 6 => .join (stationField (f 4 4)) (f 8 16)
  | 7 => .withdraw (stationField (f 4 4)) (f 8 4)
  | _ => .unknown data

/-- Bit i of some bytes, most significant bit of each first (R59, R176); a bit that they do not give is 1, recessive on
the hall line. -/
def lineBit (bytes : List Byte) (i : Nat) : Bool := (bytes.getD (i / 8) 255#8).getMsbD (i % 8)

/-- A bit sent recessive (1) was read dominant (0). -/
def overridden (sent read : List Byte) (i : Nat) : Bool := lineBit sent i && !lineBit read i

/-- R63: the arbitration is lost at a bit of the key that was overridden. -/
def lostArbitration (kind : Nat) (sent read : List Byte) : Bool :=
  (List.range (keyBits kind)).any (overridden sent read)

/-- R64: a bit after the key was overridden. -/
def bitErrorAfterKey (kind : Nat) (sent read : List Byte) : Bool :=
  (List.range (8 * sent.length)).any fun i => decide (keyBits kind ≤ i) && overridden sent read i

/-- The levels of the first n data bits of some bytes, in the order of the line: 1 recessive, 0 dominant (R58, R59). -/
def dataLevels (n : Nat) (bytes : List Byte) : List Bool := (List.range n).map (lineBit bytes)

/-- R79: the stuck timer after bit times at these levels, in ms or halted at zero: halted by a recessive one, and run on by a
dominant one, from zero where it was halted. -/
def timedBy (timer : Option Nat) (levels : List Bool) : Option Nat :=
  levels.foldl (fun t recessive => if recessive then none else some (t.getD 0)) timer

/-- The own frame as the line carries it (R60, R62). -/
def OutFrame.onLine (own : Station) (distance : Nat) : OutFrame → Frame
  | .taken k p => .taken k own p
  | .missed k => .missed k own
  | .release k r => .release k own r.code
  | .claim u k p => .claim u.code distance own k p
  | .announce k c => .announce k own c.article c.form.code
  | .join d => .join own d
  | .withdraw r => .withdraw own r

def OutFrame.isAnnounce : OutFrame → Bool
  | .announce .. => true
  | _ => false

def OutFrame.isAnnounceFor (slot : Nat) : OutFrame → Bool
  | .announce k _ => k == slot
  | _ => false

def OutFrame.isClaimFor (slot : Nat) : OutFrame → Bool
  | .claim _ k _ => k == slot
  | _ => false

/-- TAKEN, MISSED and RELEASE: the frames that hold a frame place (R103). -/
def OutFrame.isOutcome : OutFrame → Bool
  | .taken .. | .missed .. | .release .. => true
  | _ => false

def OutFrame.isParticipation : OutFrame → Bool
  | .join .. | .withdraw .. => true
  | _ => false

/-- The place field of the kinds that have one (R60, R77). -/
def Frame.place? : Frame → Option PlaceId
  | .taken _ _ p => some p
  | .claim _ _ _ _ p => some p
  | .missed .. | .release .. | .announce .. | .join .. | .withdraw .. | .unknown _ => none

/-- The place field of an own frame of the kinds that have one (R77). -/
def OutFrame.place? : OutFrame → Option PlaceId
  | .taken _ p => some p
  | .claim _ _ p => some p
  | _ => none

/-! ### Ordering by a key -/

/-- Lexicographic comparison of keys of numbers. -/
def lexLess : List Nat → List Nat → Bool
  | _, [] => false
  | [], _ :: _ => true
  | a :: as, b :: bs => decide (a < b) || (decide (a = b) && lexLess as bs)

/-- Insert behind every element it is not less than. -/
def insertBy {α : Type} (less : α → α → Bool) (x : α) : List α → List α
  | [] => [x]
  | y :: ys => if less x y then x :: y :: ys else y :: insertBy less x ys

/-- Stable sort: elements that compare equal keep their order. -/
def sortBy {α : Type} (less : α → α → Bool) (l : List α) : List α := l.foldl (fun acc x => insertBy less x acc) []

end Sys2Proof.Machine
end

