-- ==== Sys2Proof/Machine/Ops.lean ====
section
/-! DEFINITION. The shared operations below the blocks' events: configuration, slot arithmetic, reports to the counters, notices, the fault record, the transmit queue and the lines of a plan. -/

namespace Sys2Proof.Machine

/-! ### Configuration as the blocks read it -/

/-- A configured value never given counts as 0 (R183). -/
def Timing.absent : Timing :=
  { tolerance := 0, gateDeglitch := 0, confirmDeglitch := 0, scanWindow := 0, armLead := 0, dwell := 0,
    confirmWindow := 0, jamTime := 0, stopTime := 0, placeDeglitch := 0 }

/-- L, 0 when no HALL SIZE was taken (R2). -/
def State.slots (s : State) : Nat := (s.config.hallSize.map (·.slots)).getD 0
/-- P, 0 when no HALL SIZE was taken. -/
def State.pitch (s : State) : Nat := (s.config.hallSize.map (·.pitch)).getD 0
/-- L×P. -/
def State.loopLen (s : State) : Nat := s.slots * s.pitch
def State.timing (s : State) : Timing := s.config.timing.getD Timing.absent
/-- The own ID; 0 stands in while no OWN SETUP was taken, when no block reads it. -/
def State.ownId (s : State) : Station := (s.config.own.map (·.id)).getD 0
/-- S. -/
def State.stagingSize (s : State) : Nat := (s.config.own.map (·.staging)).getD 0
/-- R. -/
def State.reserve (s : State) : Nat := (s.config.own.map (·.reserve)).getD 0
def State.supports (s : State) (f : Form) : Bool := (s.config.own.map (fun o => supportsForm o.forms f)).getD false
def State.gatePos (s : State) : Nat := (s.config.hall[s.ownId].map (·.gate)).getD 0
def State.divertPos (s : State) : Nat := (s.config.hall[s.ownId].map (·.divert)).getD 0

/-- R159: the policy when GO is taken without a FAULT POLICY. -/
def Policy.default : Policy := { scope := .place, recovery := .latched, mode := .off, lower := 0, upper := 0 }

def State.policy (s : State) : Policy := s.config.policy.getD Policy.default

/-! ### Slot arithmetic (R15 to R17) -/

/-- "a mod m", in 0..m−1 also when a is negative (00_scope.md 1.6). -/
def posMod (a : Int) (m : Nat) : Nat := (a % (m : Int)).toNat

/-- R15: the position of slot k's leading edge at the counter value as it stands. -/
def slotPosition (s : State) (k : Nat) : Nat := posMod ((s.loop.counter : Int) - (k * s.pitch : Nat)) s.loopLen

/-- R15: the slot of a case edge that the own gate captured at counter value c. -/
def edgeSlot (s : State) (c : Nat) : Nat := posMod ((c : Int) - s.gatePos) s.loopLen / s.pitch

/-- R16. -/
def firePosition (s : State) (k : Nat) : Nat := (s.divertPos + k * s.pitch) % s.loopLen

/-- R17: pulses to fire. -/
def pulsesToFire (s : State) (k : Nat) : Nat := posMod ((s.divertPos : Int) - slotPosition s k) s.loopLen

/-- R17: p < d and d − p at least the arm lead; while UNALIGNED no slot is reachable. -/
def reachable (s : State) (k : Nat) : Bool :=
  s.loop.aligned && decide (slotPosition s k < s.divertPos) &&
    decide (s.timing.armLead ≤ s.divertPos - slotPosition s k)

/-- R17: distance in whole slots. -/
def slotDistance (s : State) (k : Nat) : Nat := pulsesToFire s k / s.pitch

/-! ### Reports to the Counter Unit (R188, R189) -/

def Filter.admits (f : Filter) (sender : Option Station) (place : Option PlaceId) : Bool :=
  match f with
  | .none => true
  | .station i => decide (sender = some i)
  | .place p => decide (place = some p)

/-- R188: an addition saturates. -/
def Counter.add (c : Counter) (n : Nat) : Counter := { c with value := min (c.value + n) Config.counterMax }

def Counter.take (c : Counter) (e : CounterEvent) (sender : Option Station) (place : Option PlaceId) : Counter :=
  if c.event = some e ∧ c.filter.admits sender place then c.add 1 else c

/-- R188: one report, taken by every counter whose selection and filter match it. -/
def report (s : State) (e : CounterEvent) (sender : Option Station) (place : Option PlaceId) : State :=
  s.setCounters #v[s.counters[0].take e sender place, s.counters[1].take e sender place,
    s.counters[2].take e sender place, s.counters[3].take e sender place]

/-- A report that carries neither a sender nor a place. -/
def reportPlain (s : State) (e : CounterEvent) : State := report s e none none

def reportPlace (s : State) (e : CounterEvent) (p : PlaceId) : State := report s e none (some p)

def reportSender (s : State) (e : CounterEvent) (i : Station) : State := report s e (some i) none

/-- The same plain report n times. -/
def reportTimes (s : State) (e : CounterEvent) : Nat → State
  | 0 => s
  | n + 1 => reportTimes (reportPlain s e) e n

/-- R190: at a pitch boundary counter 0 adds the selected occupancy. -/
def sampleOccupancy (s : State) : State :=
  let c := s.counters[0]
  match c.event with
  | some .stagingOccupancy => s.setCounters (s.counters.set 0 (c.add s.staging.records.length))
  | some .claimOccupancy => s.setCounters (s.counters.set 0 (c.add s.contest.claims.length))
  | _ => s

/-! ### Notices and the fault record (R168, R186) -/

def setFault (s : State) (f : FaultId) (e : FaultEntry) : State :=
  s.setPart { s.part with faults := s.part.faults.set f.index.val e f.index.isLt }

def State.fault (s : State) (f : FaultId) : FaultEntry := s.part.faults[f.index]

/-- R168: the entry of a fault just raised. -/
def FaultId.raisedEntry (f : FaultId) : FaultEntry :=
  { indication := true, shown := false, condition := f.hasCondition }

/-- R186: a notice joins at the tail, or is lost at a full queue, which raises NOTICE_OVERRUN without a notice. -/
def offerNotice (s : State) (n : Notice) : State :=
  if s.port.notices.length < Config.noticeCapacity then
    s.setPort { s.port with notices := s.port.notices ++ [n], attn := true }
  else setFault s .noticeOverrun FaultId.noticeOverrun.raisedEntry

/-- R168: the record and the notice of a raising; the effect on the station follows where it is raised. -/
def recordFault (s : State) (f : FaultId) (detail : Nat) : State :=
  offerNotice (setFault s f f.raisedEntry) (.faultRaised f.code detail)

/-- R168: the end of a condition clears the flag and leaves the indication. -/
def endCondition (s : State) (f : FaultId) : State := setFault s f { s.fault f with condition := false }

/-! ### The transmit queue (R69 to R73) -/

/-- R69: kind code, then the key fields after the kind, then the remaining fields. The sender is the own ID
throughout and left out; a CLAIM's distance is computed here. -/
def txKey (s : State) : OutFrame → List Nat
  | .taken k p => [1, k, p.val]
  | .missed k => [2, k]
  | .release k r => [3, k, r.code]
  | .claim u k p => [4, u.code, slotDistance s k, k, p.val]
  | .announce k c => [5, k, c.article, c.form.code]
  | .join d => [6, d]
  | .withdraw r => [7, r]

/-- R69: a SENDING frame first, then by key. -/
def txBefore (s : State) (a b : TxFrame) : Bool :=
  if a.sending = b.sending then lexLess (txKey s a.frame) (txKey s b.frame) else a.sending

/-- The transmit queue in the order of R69. -/
def txOrder (s : State) : List TxFrame := sortBy (txBefore s) s.line.tx

def setTx (s : State) (q : List TxFrame) : State := s.setLine { s.line with tx := q }

def TxFrame.waiting (f : OutFrame) : TxFrame :=
  { frame := f, sending := false, inAttempt := false, withdrawAsked := false, orphaned := false }

/-- WAITING, and not in an attempt (R72). -/
def TxFrame.idle (t : TxFrame) : Bool := !t.sending && !t.inAttempt

def announceCount (s : State) : Nat := (s.line.tx.filter (·.frame.isAnnounce)).length

/-- R70: the WAITING ANNOUNCE that stands last in the order of R69; one in an attempt is passed over (log 11). -/
def lastWaitingAnnounce (s : State) : Option TxFrame :=
  ((txOrder s).filter (fun t => t.frame.isAnnounce && t.idle)).getLast?

/-- Remove the latest copy of a frame. -/
def eraseLast (t : TxFrame) (q : List TxFrame) : List TxFrame := (q.reverse.erase t).reverse

/-- R70: an ANNOUNCE finding no room is dropped. -/
def offerAnnounce (s : State) (f : OutFrame) : State :=
  if Config.announceCapacity ≤ announceCount s ∨ Config.txCapacity ≤ s.line.tx.length then
    reportPlain s .announceDropped
  else setTx s (s.line.tx ++ [TxFrame.waiting f])

/-- R70: any other kind is taken, the last waiting ANNOUNCE making room at a full queue. -/
def offerOther (s : State) (f : OutFrame) : State :=
  if s.line.tx.length < Config.txCapacity then setTx s (s.line.tx ++ [TxFrame.waiting f])
  else match lastWaitingAnnounce s with
    | some t => setTx (reportPlain s .announceDropped) (eraseLast t s.line.tx ++ [TxFrame.waiting f])
    | none => setTx s (s.line.tx ++ [TxFrame.waiting f])

/-- R70: how the Hall Line Controller takes a frame offered to it. -/
def offerFrame (s : State) (f : OutFrame) : State :=
  if f.isAnnounce then offerAnnounce s f else offerOther s f

/-- R72: a withdrawal request for the WAITING frames that p picks. One not in an attempt is removed; one in an
attempt is marked, to be decided when the key ends; a SENDING one stays. -/
def askWithdrawal (p : OutFrame → Bool) (q : List TxFrame) : List TxFrame :=
  (q.filter (fun t => !(p t.frame && t.idle))).map
    (fun t => if p t.frame && !t.sending then { t with withdrawAsked := true } else t)

/-- R73: withdraw the WAITING ANNOUNCE frames that p picks, each removed one reported as ANNOUNCE_DROPPED. -/
def withdrawAnnounces (s : State) (p : OutFrame → Bool) : State :=
  let gone := (s.line.tx.filter (fun t => p t.frame && t.idle)).length
  reportTimes (setTx s (askWithdrawal p s.line.tx)) .announceDropped gone

/-- R71: a WITHDRAW replaces a waiting JOIN or WITHDRAW. -/
def offerWithdraw (s : State) (reason : Nat) : State :=
  offerFrame (setTx s (askWithdrawal OutFrame.isParticipation s.line.tx)) (.withdraw reason)

/-- R71: a JOIN on entry to LISTENING replaces a waiting WITHDRAW or JOIN. -/
def offerJoin (s : State) : State :=
  offerFrame (setTx s (askWithdrawal OutFrame.isParticipation s.line.tx)) (.join (s.part.digest.getD 0))

/-- R71: a reply JOIN is dropped when a JOIN or a WITHDRAW of this station is WAITING or SENDING. -/
def offerReplyJoin (s : State) : State :=
  if s.line.tx.any (·.frame.isParticipation) then s else offerFrame s (.join (s.part.digest.getD 0))

/-- R74: a frame enters the receive queue at its tail. At a full queue, which R65 and R66 keep from arising for a
completed frame (log 24), it becomes the held own frame as R68 states for an abandoned one. -/
def enterOwnFrame (s : State) (f : Frame) : State :=
  if s.line.rx.length < Config.rxCapacity then s.setLine { s.line with rx := s.line.rx ++ [⟨f, true⟩] }
  else s.setLine { s.line with held := some f }

/-! ### Places and lines (R19, R20, R26) -/

def State.place (s : State) (p : PlaceId) : Place := s.plans.places[p]

def setPlace (s : State) (p : PlaceId) (x : Place) : State :=
  s.setPlans { s.plans with places := s.plans.places.set p.val x p.isLt }

/-- The lines of tier t, counted from 1. -/
def Place.tier (pl : Place) (t : Nat) : List Line := pl.tiers.getD (t - 1) []

/-- The line named by tier and line number, both counted from 1. -/
def Place.line? (pl : Place) (t l : Nat) : Option Line := (pl.tier t)[l - 1]?

def Place.lineCount (pl : Place) : Nat := (pl.tiers.map List.length).foldl (· + ·) 0

/-- R26. -/
def Line.openNeed (l : Line) : Nat := l.quantity - l.claimed - l.staged - l.placed

/-- R26: the open need of a tier. -/
def tierNeed (ls : List Line) : Nat := (ls.map Line.openNeed).foldl (· + ·) 0

/-- R26: covered when every line is covered. -/
def tierCovered (ls : List Line) : Bool := ls.all (fun l => decide (l.openNeed = 0))

/-- R32: finished when every line has placed equal to its quantity. -/
def tierFinished (ls : List Line) : Bool := ls.all (fun l => decide (l.placed = l.quantity))

/-- Change one line of a place. -/
def modifyLine (s : State) (t : Target) (f : Line → Line) : State :=
  let pl := s.place t.place
  setPlace s t.place { pl with tiers := pl.tiers.modify (t.tier - 1) (fun ls => ls.modify (t.line - 1) f) }

def State.lineAt (s : State) (t : Target) : Option Line := (s.place t.place).line? t.tier t.line

/-- Change every line of a place. -/
def Place.mapLines (pl : Place) (f : Line → Line) : Place := { pl with tiers := pl.tiers.map (List.map f) }

/-- R30: the place is building. -/
def State.building (s : State) (p : PlaceId) : Bool := decide ((s.place p).state = .building)

/-- R30: a tier later than the current tier of its BUILDING or SUSPENDED place is lookahead. -/
def State.laterTier (s : State) (t : Target) : Bool :=
  match (s.place t.place).currentTier with
  | some c => decide (c < t.tier)
  | none => false

/-! ### Responses (R176, R180) -/

/-- The result and data of a command taken, which end its transaction (R176). -/
def respond (s : State) (r : Result) (data : BitVec 88) : State :=
  s.setPort { s.port with transaction := none, response := { result := r, data := data } }

/-- A refusal, or a result with no data: its data bytes are 0 (log 20). -/
def answer (s : State) (r : Result) : State := respond s r 0

end Sys2Proof.Machine
end

