-- ==== Sys2Proof/Machine/Contest.lean ====
section
/-! DEFINITION. The claim table and the search: how claims are made, ended and removed (R102 to R124). -/

namespace Sys2Proof.Machine

/-! ### The view and the claim table -/

def State.viewAt (s : State) (k : Nat) : ViewEntry := s.view.getD k .empty

def setViewEntry (s : State) (k : Nat) (e : ViewEntry) : State := s.setView (s.view.set k e)

def setClaims (s : State) (cs : List Claim) : State := s.setContest { s.contest with claims := cs }

def State.claimAt (s : State) (k : Nat) : Option Claim := s.contest.claims.find? (fun c => decide (c.slot = k))

def modifyClaim (s : State) (k : Nat) (f : Claim → Claim) : State :=
  setClaims s (s.contest.claims.map (fun c => if c.slot = k then f c else c))

/-- R104: a reason to search was met; the search is made at the end of the event (log 8). -/
def markSearch (s : State) : State := s.setContest { s.contest with searchDue := true }

/-- R103: a queued frame that holds a frame place: an outcome frame, or a CLAIM in an attempt whose entry was removed
and whose withdrawal is not yet decided (R123). -/
def TxFrame.holdsPlace (t : TxFrame) : Bool := t.frame.isOutcome || (t.orphaned && !t.sending)

/-- R103: the claim-table entries, the own TAKEN, MISSED and RELEASE frames queued, and the own CLAIM frames left
without an entry. -/
def framePlaces (s : State) : Nat :=
  s.contest.claims.length + (s.line.tx.filter TxFrame.holdsPlace).length + s.contest.orphans.length

/-- R102: the FIRING entry first, then by pulses to fire. -/
def fireKey (s : State) (c : Claim) : Nat := if c.state = .firing then 0 else pulsesToFire s c.slot + 1

/-- The claim table in fire order (R102), as the counter stands (log 10). -/
def fireOrder (s : State) : List Claim := sortBy (fun a b => decide (fireKey s a < fireKey s b)) s.contest.claims

/-- The slots of the claim table in fire order. -/
def claimSlots (s : State) : List Nat := (fireOrder s).map (·.slot)

/-! ### Leaving the table (R27, R39, R124) -/

/-- An entry leaves the table and its line's claimed count falls by one (R27). -/
def dropClaim (s : State) (c : Claim) : State :=
  modifyLine (setClaims s (s.contest.claims.filter (fun d => decide (d.slot ≠ c.slot)))) c.target
    (fun l => { l with claimed := l.claimed - 1 })

/-- An entry leaves for a reason other than TAKEN, which frees staging room (R104, R124). -/
def leaveClaim (s : State) (c : Claim) : State := markSearch (dropClaim s c)

/-- The report that a leaving with this pending end makes (R114, R115, R124). -/
def reportEnd (s : State) (c : Claim) (e : PendingEnd) : State :=
  match e with
  | .lost => reportPlace s .claimLost c.target.place
  | .expired => reportPlace s .claimExpired c.target.place
  | .cancelled | .withdrawn => s

/-- R124: an entry leaves with its pending end as reason. -/
def leaveWithEnd (s : State) (c : Claim) (e : PendingEnd) : State := leaveClaim (reportEnd s c e) c

/-- R39: cancellation of a place ends when no claim-table entry targets it. -/
def cancelTest (s : State) (p : PlaceId) : State :=
  if (s.place p).state = .cancelling ∧ s.contest.claims.all (fun c => decide (c.target.place ≠ p)) then
    offerNotice (setPlace s p Place.empty) (.cancelDone p)
  else s

/-- R112: a cause that ends a QUEUED or SENDING claim before its win decision. The first cause recorded is kept. A
QUEUED entry whose frame is withdrawn leaves at once; one whose frame is in an attempt waits for the key (R72). -/
def endUncommitted (s : State) (k : Nat) (cause : PendingEnd) : State :=
  match s.claimAt k with
  | none => s
  | some c =>
    let e := c.pendingEnd.getD cause
    let s1 := modifyClaim s k (fun d => { d with pendingEnd := some e })
    match c.state with
    | .queued =>
      let s2 := setTx s1 (askWithdrawal (OutFrame.isClaimFor k) s.line.tx)
      if s.line.tx.any (fun t => t.frame.isClaimFor k && t.idle) then leaveWithEnd s2 c e else s2
    | .sending => s1
    | .armed | .committed | .firing => s

/-- The same, followed by the test for the end of cancellation (R39). -/
def endAndTest (s : State) (k : Nat) (cause : PendingEnd) : State :=
  match s.claimAt k with
  | none => s
  | some c => cancelTest (endUncommitted s k cause) c.target.place

/-! ### Cancellation and suspension of a place (R121), orderly and immediate withdrawal (R122, R123) -/

/-- R121 for one slot. The test for the end of cancellation is the caller's (R37, step 5). -/
def cancelClaim (s : State) (k : Nat) : State :=
  match s.claimAt k with
  | none => s
  | some c =>
    match c.state with
    | .queued | .sending => endUncommitted s k .cancelled
    | .armed => offerFrame (leaveClaim s c) (.release k .cancelled)
    | .committed | .firing => s

/-- R121: the claims that target a place and are not yet committed, one after another. R121 gives no order among them:
they are taken in fire order (log 21, DESIGN CHOICE). -/
def cancelClaimsOf (s : State) (p : PlaceId) : State :=
  (((fireOrder s).filter (fun c => decide (c.target.place = p))).map (·.slot)).foldl cancelClaim s

/-- R122 for one slot. -/
def withdrawClaim (s : State) (k : Nat) : State :=
  match s.claimAt k with
  | none => s
  | some c =>
    match c.state with
    | .queued | .sending => endAndTest s k .withdrawn
    | .armed => cancelTest (offerFrame (leaveClaim s c) (.release k .withdrawn)) c.target.place
    | .committed | .firing => s

/-- R122: an orderly withdrawal acts on the claim table, in fire order (log 21). -/
def withdrawClaims (s : State) : State := (claimSlots s).foldl withdrawClaim s

/-- R123: a QUEUED frame in an attempt is asked to be withdrawn and will be without an entry if it is too late. -/
def orphanAttempt (k : Nat) (q : List TxFrame) : List TxFrame :=
  (askWithdrawal (OutFrame.isClaimFor k) q).map
    (fun t => if t.frame.isClaimFor k && !t.sending then { t with orphaned := true } else t)

def addOrphan (s : State) (k : Nat) : State := s.setContest { s.contest with orphans := s.contest.orphans ++ [k] }

/-- R123 for one slot: the entry leaves as FAULT. -/
def faultClaim (s : State) (k : Nat) : State :=
  match s.claimAt k with
  | none => s
  | some c =>
    let s1 := leaveClaim s c
    let s2 := match c.state with
      | .queued => setTx s1 (orphanAttempt k s1.line.tx)
      | .sending => addOrphan s1 k
      | .armed | .committed => offerFrame s1 (.release k .fault)
      | .firing => offerFrame s1 (.missed k)
    cancelTest s2 c.target.place

/-- R123: an immediate withdrawal removes every entry, in fire order (log 21). -/
def faultClaims (s : State) : State := (claimSlots s).foldl faultClaim s

/-! ### Searching (R104 to R110) -/

/-- R30: the line of a tier that matches a case and has open need, by its number counted from 1. -/
def findLine (ls : List Line) (c : CaseId) : Option Nat :=
  (ls.findIdx? (fun l => decide (l.case = c) && decide (1 ≤ l.openNeed))).map (· + 1)

/-- R30, R106, R108: the one line of a place that matches a case, with the urgency its claim would have. -/
def matchingLine (s : State) (p : PlaceId) (c : CaseId) : Option (Target × Urgency) :=
  let pl := s.place p
  match pl.state, pl.currentTier, pl.tierCount with
  | .building, some t, some n =>
    match findLine (pl.tier t) c with
    | some l => some (⟨p, t, l⟩, if tierNeed (pl.tier t) = 1 then .closing else .current)
    | none =>
      if t < n ∧ tierCovered (pl.tier t) then (findLine (pl.tier (t + 1)) c).map (fun l => (⟨p, t + 1, l⟩, .ahead))
      else none
  | _, _, _ => none

/-- R154: the lookahead records. -/
def StagingRecord.isLookahead (s : State) (r : StagingRecord) : Bool :=
  match r.state, r.target with
  | .waiting, some t | .suspect, some t => s.laterTier t
  | _, _ => false

def lookaheadRecords (s : State) : Nat := (s.staging.records.filter (StagingRecord.isLookahead s)).length

def lookaheadClaims (s : State) : Nat := (s.contest.claims.filter (fun c => s.laterTier c.target)).length

/-- R107: the room condition of a line. -/
def roomFor (s : State) (u : Urgency) : Bool :=
  decide (s.staging.records.length + s.contest.claims.length < s.stagingSize) &&
    match u with
    | .ahead => decide (lookaheadRecords s + lookaheadClaims s < s.stagingSize - s.reserve)
    | .closing | .current => true

/-- R109: of two lines in build order, the later one is chosen only at a lower urgency. -/
def betterLine (best : Option (Target × Urgency)) (m : Target × Urgency) : Option (Target × Urgency) :=
  match best with
  | some b => if m.2.code < b.2.code then some m else some b
  | none => some m

/-- R105, R109: the line ranked first among the matching lines that meet their room condition. -/
def bestLine (s : State) (c : CaseId) : Option (Target × Urgency) :=
  s.plans.buildOrder.foldl (fun best p =>
    match matchingLine s p c with
    | some m => if roomFor s m.2 then betterLine best m else best
    | none => best) none

/-- R110: a new entry, its line's claimed count, and its CLAIM frame. -/
def queueClaim (s : State) (k : Nat) (t : Target) (u : Urgency) : State :=
  let entry : Claim :=
    { slot := k, target := t, urgency := u, state := .queued, firePos := none, pendingEnd := none, late := false,
      suspect := false }
  let s1 := setClaims s (s.contest.claims ++ [entry])
  offerFrame (modifyLine s1 t (fun l => { l with claimed := l.claimed + 1 })) (.claim u k t.place)

/-- R105: a slot is a candidate when its entry is FREE with a known case, it is reachable and has no entry. -/
def isCandidate (s : State) (k : Nat) : Bool :=
  match s.viewAt k with
  | .free (some _) _ => reachable s k && (s.claimAt k).isNone
  | _ => false

/-- R105: the candidate slots in order of pulses to fire. -/
def candidates (s : State) : List Nat :=
  sortBy (fun a b => decide (pulsesToFire s a < pulsesToFire s b)) ((List.range s.slots).filter (isCandidate s))

/-- R105: one candidate examined. -/
def searchSlot (s : State) (k : Nat) : State :=
  if Config.framePlaceLimit ≤ framePlaces s then s
  else match s.viewAt k with
    | .free (some c) _ =>
      match bestLine s c with
      | some m => queueClaim s k m.1 m.2
      | none => s
    | _ => s

def search (s : State) : State := (candidates s).foldl searchSlot s

/-- R104: the search that an event's reasons cause, after the event's own effects, in an ACTIVE station alone. -/
def runSearch (s : State) : State :=
  let s1 := s.setContest { s.contest with searchDue := false }
  if s.contest.searchDue = true ∧ s.part.state = .active then search s1 else s1

/-! ### Positions reached (R114, R118) -/

/-- R114, R118 for one slot. -/
def testClaim (s : State) (k : Nat) : State :=
  match s.claimAt k with
  | none => s
  | some c =>
    match c.state with
    | .queued =>
      if reachable s k then s else endAndTest (modifyClaim s k (fun d => { d with late := true })) k .expired
    | .sending => if reachable s k then s else modifyClaim s k (fun d => { d with late := true })
    | .armed =>
      if pulsesToFire s k < s.timing.armLead then modifyClaim s k (fun d => { d with state := .committed }) else s
    | .committed | .firing => s

/-- R114, R118: the tests at each position reached and after each realignment, in fire order (log 21). -/
def testClaims (s : State) : State := (claimSlots s).foldl testClaim s

end Sys2Proof.Machine
end

