-- ==== Sys2Proof/Machine/Staging.lean ====
section
/-! DEFINITION. The staging records and the places: making and re-marking records, tier advance, suspension, cancellation (R32 to R39, R143 to R150). -/

namespace Sys2Proof.Machine

def setRecords (s : State) (rs : List StagingRecord) : State := s.setStaging { s.staging with records := rs }

/-- R144: the counter goes on rising, wrapping from 65535 to 0, until it holds a value that no record carries. -/
def skipHeld (rs : List StagingRecord) : Nat → Nat → Nat
  | 0, n => n
  | fuel + 1, n =>
    if rs.any (fun r => decide (r.arrival = n)) then skipHeld rs fuel ((n + 1) % 65536) else n

/-- R144: a new record joins at the tail with the counter's value, and the counter moves on. -/
def makeRecord (s : State) (slot : Nat) (case : CaseId) (target : Option Target) (st : RecordState) : State :=
  let a := s.staging.nextArrival
  let rs := s.staging.records ++ [⟨a, slot, case, target, st⟩]
  s.setStaging { s.staging with records := rs, nextArrival := skipHeld rs rs.length ((a + 1) % 65536) }

/-- R145: the state of a record made for a BUILDING or SUSPENDED place. -/
def newRecordState (s : State) (t : Target) (suspect : Bool) : RecordState :=
  if suspect then .suspect
  else if (s.place t.place).state = .building ∧ (s.place t.place).currentTier = some t.tier then .placeable
  else .waiting

/-- R145, R146: the record of a taken case and its notice. -/
def stageTaken (s : State) (c : Claim) (case : CaseId) : State :=
  let a := s.staging.nextArrival
  match (s.place c.target.place).state with
  | .building | .suspended =>
    let st := newRecordState s c.target c.suspect
    let s1 := makeRecord s c.slot case (some c.target) st
    offerNotice (modifyLine s1 c.target (fun l => { l with staged := l.staged + 1 })) (.caseStaged a c.target st)
  | .cancelling | .empty | .loading | .complete =>
    offerNotice (makeRecord s c.slot case none .orphan) (.caseOrphaned a)

/-- Whether a record targets a place. -/
def StagingRecord.forPlace (p : PlaceId) (r : StagingRecord) : Bool :=
  match r.target with
  | some t => decide (t.place = p)
  | none => false

/-- Whether a record targets a tier of a place. -/
def StagingRecord.forTier (p : PlaceId) (tier : Nat) (r : StagingRecord) : Bool :=
  match r.target with
  | some t => decide (t.place = p) && decide (t.tier = tier)
  | none => false

/-- R147, R149: each WAITING record of a tier becomes PLACEABLE, with a notice for each in arrival order. -/
def promoteRecords (s : State) (p : PlaceId) (tier : Nat) : State :=
  let hit := fun r : StagingRecord => r.forTier p tier && decide (r.state = .waiting)
  let s1 := setRecords s (s.staging.records.map (fun r => if hit r then { r with state := .placeable } else r))
  (s.staging.records.filter hit).foldl (fun s r => offerNotice s (.casePlaceable r.arrival)) s1

/-- R148: each PLACEABLE record of a place becomes WAITING. -/
def demoteRecords (s : State) (p : PlaceId) : State :=
  setRecords s (s.staging.records.map (fun r =>
    if r.forPlace p && decide (r.state = .placeable) then { r with state := .waiting } else r))

/-- R150, R28: every record of a place becomes ORPHAN, and staged is 0 on every line of the place. -/
def orphanRecords (s : State) (p : PlaceId) : State :=
  let s1 := setRecords s (s.staging.records.map (fun r =>
    if r.forPlace p then { r with state := .orphan, target := none } else r))
  let s2 := setPlace s1 p ((s1.place p).mapLines (fun l => { l with staged := 0 }))
  (s.staging.records.filter (·.forPlace p)).foldl (fun s r => offerNotice s (.caseOrphaned r.arrival)) s2

/-! ### Place-ready watches at a place's changes (R169) -/

def State.watch (s : State) (p : PlaceId) : Watch := s.part.watches[p]

def setWatch (s : State) (p : PlaceId) (w : Watch) : State :=
  s.setPart { s.part with watches := s.part.watches.set p.val w p.isLt }

/-- R169: a place that stops being BUILDING while READY or DROPPING returns its watch to UNWATCHED. -/
def stopWatch (s : State) (p : PlaceId) : State :=
  match (s.watch p).state with
  | .ready | .dropping => setWatch s p ⟨.unwatched, 0⟩
  | .unwatched | .notReady | .rising => s

/-! ### Places (R32, R33, R35, R37) -/

def setPlaceState (s : State) (p : PlaceId) (st : PlaceState) : State :=
  setPlace s p { s.place p with state := st }

def leaveBuildOrder (s : State) (p : PlaceId) : State :=
  s.setPlans { s.plans with buildOrder := s.plans.buildOrder.filter (fun q => decide (q ≠ p)) }

/-- R32: the tier advances from t to t+1. -/
def advanceTier (s : State) (p : PlaceId) (t : Nat) : State :=
  let s1 := offerNotice (setPlace s p { s.place p with currentTier := some (t + 1) }) (.tierDone p t)
  markSearch (promoteRecords s1 p (t + 1))

/-- R33: the place is complete. -/
def completePlace (s : State) (p : PlaceId) : State :=
  let s1 := setPlace s p { s.place p with state := .complete, currentTier := none }
  offerNotice (stopWatch (leaveBuildOrder s1 p) p) (.palletDone p)

/-- R32: the test for tier advance after a rise of a placed count. -/
def tierTest (s : State) (p : PlaceId) : State :=
  match (s.place p).currentTier, (s.place p).tierCount with
  | some t, some n =>
    if tierFinished ((s.place p).tier t) then
      if t < n then advanceTier s p t else completePlace s p
    else s
  | _, _ => s

/-- R35: a suspension request. -/
def suspendPlace (s : State) (p : PlaceId) : State :=
  if s.building p then demoteRecords (cancelClaimsOf (stopWatch (setPlaceState s p .suspended) p) p) p else s

/-- R37: the start of cancellation, and its end at once when no entry targets the place (R39). -/
def cancelPlace (s : State) (p : PlaceId) : State :=
  let s1 := setPlace s p { s.place p with state := .cancelling, currentTier := none }
  let s2 := cancelClaimsOf (stopWatch (leaveBuildOrder s1 p) p) p
  cancelTest (orphanRecords s2 p) p

end Sys2Proof.Machine
end

