-- ==== Sys2Proof/Machine/Outcome.lean ====
section
/-! DEFINITION. The fire and its outcome (R120, R129 to R137), the withdrawals (R122, R123, R166, R167) and the raising of faults (R168, R170, R171). -/

namespace Sys2Proof.Machine

/-! ### Fire and outcome -/

def setFire (s : State) (f : Option Fire) : State := s.setDivert { s.divert with fire := f }

def setOutput (s : State) (on : Bool) : State := s.setDivert { s.divert with output := on }

/-- The FIRING entry of a fire in progress. -/
def firingClaim (s : State) (slot : Nat) : Option Claim :=
  s.contest.claims.find? (fun c => decide (c.slot = slot) && decide (c.state = .firing))

/-- R120: the outcome MISSED. -/
def outcomeMissed (s : State) (slot : Nat) : State :=
  match firingClaim s slot with
  | some c => cancelTest (offerFrame (leaveClaim s c) (.missed slot)) c.target.place
  | none => s

/-- R120: the case of a taken claim, from the view entry, or from the line where the entry no longer holds it
(log 17). -/
def takenCase (s : State) (c : Claim) : CaseId :=
  let fromLine := ((s.lineAt c.target).map (·.case)).getD ⟨0, .crate⟩
  match s.viewAt c.slot with
  | .empty => fromLine
  | .free case _ => case.getD fromLine
  | .claimed case _ _ _ => case.getD fromLine
  | .disputed case _ => case

/-- R120: the outcome TAKEN. -/
def outcomeTaken (s : State) (slot : Nat) : State :=
  match firingClaim s slot with
  | some c =>
    let s1 := stageTaken (dropClaim s c) c (takenCase s c)
    cancelTest (offerFrame s1 (.taken slot c.target.place)) c.target.place
  | none => s

/-- R135: the window of a fire closes as MISSED. -/
def closeMissed (s : State) (f : Fire) : State :=
  let s1 := reportPlace (setFire s (some { f with window := none })) .missed f.place
  outcomeMissed (offerNotice s1 (.divertMissed f.slot f.place)) f.slot

/-- R134: a confirm edge in an open window. -/
def confirmTaken (s : State) (f : Fire) : State :=
  outcomeTaken (reportPlace (setFire s (some { f with window := none })) .taken f.place) f.slot

/-- R127: a fire in progress is discarded once its dwell has ended and its window has closed. -/
def discardFire (s : State) : State :=
  match s.divert.fire with
  | some f => if f.dwell = none ∧ f.window = none then setFire s none else s
  | none => s

/-- R131: an earlier fire still in progress is closed before a new one is made (log 9 for a fire by a pulse). -/
def closeEarlierFire (s : State) : State :=
  match s.divert.fire with
  | some f => setFire (if f.window.isSome then closeMissed s f else s) none
  | none => s

/-- R129: the fire for an entry. -/
def fireClaim (s : State) (c : Claim) : State :=
  let s1 := setOutput (closeEarlierFire s) true
  let s2 := setFire s1 (some { slot := c.slot, place := c.target.place, dwell := some 0, window := some 0 })
  modifyClaim s2 c.slot (fun d => { d with state := .firing })

/-- Whether an entry fires when the positions `reached` are reached (R16, R129). -/
def Claim.firesAt (reached : Nat → Bool) (c : Claim) : Bool :=
  (decide (c.state = .armed) || decide (c.state = .committed)) &&
    match c.firePos with
    | some f => reached f
    | none => false

/-- R129: the positions reached by one event fire at most one entry; while UNALIGNED none (R4). -/
def fireReached (s : State) (reached : Nat → Bool) : State :=
  if s.loop.aligned then
    match s.contest.claims.find? (Claim.firesAt reached) with
    | some c => fireClaim s c
    | none => s
  else s

/-! ### Withdrawal -/

/-- R160: a move of the participation state queues its notice, unless it leaves the state as it was. -/
def moveTo (s : State) (st : Participation) : State :=
  if s.part.state = st then s else offerNotice (s.setPart { s.part with state := st }) (.participation st)

/-- R160: entry to LISTENING. -/
def enterListening (s : State) : State :=
  let s1 := moveTo s .listening
  offerJoin (s1.setPart { s1.part with listeningMarks := 0 })

/-- R166. Taken while already WITHDRAWN it offers its WITHDRAW alone. -/
def orderlyWithdraw (s : State) (reason : Nat) : State :=
  if s.part.state = .withdrawn then offerWithdraw s reason
  else withdrawAnnounces (withdrawClaims (offerWithdraw (moveTo s .withdrawn) reason)) OutFrame.isAnnounce

/-- R141: an immediate withdrawal acts on the Divert Unit. -/
def stopDivert (s : State) : State :=
  let s1 := setOutput s false
  match s1.divert.fire with
  | some f =>
    let s2 := setFire s1 none
    if f.window.isSome then offerNotice (reportPlace s2 .missed f.place) (.divertMissed f.slot f.place) else s2
  | none => s1

/-- R98: every entry of the view becomes EMPTY. -/
def emptyView (s : State) : State := s.setView (s.view.map (fun _ => .empty))

/-- R167, in its six steps. -/
def immediateWithdraw (s : State) (code : Nat) : State :=
  let s1 := offerWithdraw (moveTo s .withdrawn) code
  withdrawAnnounces (emptyView (faultClaims (stopDivert s1))) OutFrame.isAnnounce

/-! ### Raising faults (R168) -/

/-- The faults of immediate withdrawal: LOOP_REVERSE, DIVERT_JAM, RX_ERRORS. -/
def raiseImmediate (s : State) (f : FaultId) : State := immediateWithdraw (recordFault s f 0) f.code

/-- INDEX_SLIP with its cause, which is its detail (R168, R187). -/
def raiseSlip (s : State) (c : SlipCause) : State :=
  let s1 := recordFault (s.setPart { s.part with slipCause := some c }) .indexSlip c.code
  immediateWithdraw s1 FaultId.indexSlip.code

/-- R165: CFG_MISMATCH withdraws in an orderly way. -/
def raiseCfgMismatch (s : State) : State :=
  orderlyWithdraw (recordFault s .cfgMismatch 0) FaultId.cfgMismatch.code

/-- R172: a violation stops the watchdog and raises WATCHDOG. -/
def watchdogViolation (s : State) : State :=
  let s1 := s.setPart { s.part with watchdog := .stopped, watchdogTimer := 0 }
  let s2 := recordFault s1 .watchdog 0
  if s.policy.mode = .withdraw then orderlyWithdraw s2 FaultId.watchdog.code else s2

/-- Every place, in order. -/
def allPlaces : List PlaceId := [0, 1, 2, 3]

/-- R168, R170, R171: PLACE_NOT_READY(p), which suspends the place, or in CELL scope every BUILDING place with an
orderly withdrawal. R171 gives no order among the places: they are suspended from place 0 to place 3, each with its
claims and records before the next (log 31, DESIGN CHOICE). -/
def raisePlaceNotReady (s : State) (p : PlaceId) : State :=
  let s1 := recordFault s (.placeNotReady p) p.val
  match s.policy.scope with
  | .place => suspendPlace s1 p
  | .cell => orderlyWithdraw (allPlaces.foldl suspendPlace s1) (FaultId.placeNotReady p).code

/-! ### A place that becomes BUILDING (R24, R36, R169) -/

/-- R169: the watch of a place that becomes BUILDING. -/
def startWatch (s : State) (p : PlaceId) : State :=
  match (s.watch p).state with
  | .unwatched => setWatch s p ⟨if s.pins.placeReady[p] then .ready else .dropping, 0⟩
  | .notReady | .rising => raisePlaceNotReady s p
  | .ready | .dropping => s

/-- R36: a resumption request. -/
def resumePlace (s : State) (p : PlaceId) : State :=
  if (s.place p).state = .suspended then
    let s1 := promoteRecords (setPlaceState s p .building) p ((s.place p).currentTier.getD 0)
    markSearch (startWatch s1 p)
  else s

/-- R171: a resumption request for every SUSPENDED place. -/
def resumeAll (s : State) : State := allPlaces.foldl resumePlace s

end Sys2Proof.Machine
end

