-- ==== Sys2Proof/Machine/Plans.lean ====
section
/-! DEFINITION. The plan commands (R19, R21 to R25, R34, R37). -/

namespace Sys2Proof.Machine

/-- R181: a command taken in LISTENING, ACTIVE and WITHDRAWN alone. -/
def afterGo (s : State) (result : State) : State := if s.part.state = .start then answer s .refusedState else result

/-! ### OPEN PLAN (R21) -/

/-- R21: an accepted OPEN PLAN. -/
def openPlan (s : State) (p : PlaceId) (orderRef : BitVec 32) (tiers : Nat) : State :=
  let s1 := setPlace s p { state := .loading, orderRef := some orderRef, tierCount := some tiers, currentTier := none,
                           tiers := List.replicate Config.maxTiers [] }
  answer (s1.setPlans { s1.plans with loader := some p }) .done

/-- R21: the checks in their order. -/
def openPlanChecked (s : State) (place : Nat) (orderRef : BitVec 32) (tiers : Nat) : State :=
  match placeOf? place with
  | none => answer s .refusedRange
  | some p =>
    if tiers = 0 ∨ Config.maxTiers < tiers then answer s .refusedRange
    else if s.plans.loader.isSome then answer s .busy
    else if (s.place p).state ≠ .empty then answer s .refusedState
    else openPlan s p orderRef tiers

/-- OPEN PLAN (R21). -/
def execOpenPlan (place : BitVec 8) (orderRef : BitVec 32) (tierCount : BitVec 8) (s : State) :
    Host.Outcome State Fault Refusal :=
  .next (afterGo s (openPlanChecked s place.toNat orderRef tierCount.toNat))

/-! ### ADD LINE (R22) -/

/-- R22: the lines that the four places hold together. -/
def totalLines (s : State) : Nat := (allPlaces.map (fun p => (s.place p).lineCount)).foldl (· + ·) 0

/-- R22, check 3. -/
def planFull (s : State) (p : PlaceId) (tier : Nat) : Bool :=
  decide (Config.tierLines ≤ ((s.place p).tier tier).length) || decide (Config.planLines ≤ (s.place p).lineCount) ||
    decide (Config.totalLines ≤ totalLines s)

/-- R22: the line joins its tier with its counts at 0. -/
def addLine (s : State) (p : PlaceId) (tier : Nat) (c : CaseId) (quantity : Nat) : State :=
  let pl := s.place p
  let line : Line := { case := c, quantity := quantity, claimed := 0, staged := 0, placed := 0 }
  answer (setPlace s p { pl with tiers := pl.tiers.modify (tier - 1) (· ++ [line]) }) .done

/-- R22: the checks in their order. -/
def addLineChecked (s : State) (tier article form quantity : Nat) : State :=
  match s.plans.loader with
  | none => answer s .refusedState
  | some p =>
    match Form.ofCode form with
    | none => answer s .refusedRange
    | some f =>
      if tier = 0 ∨ Config.maxTiers < tier ∨ quantity = 0 then answer s .refusedRange
      else if planFull s p tier then answer s .refusedFull
      else addLine s p tier ⟨article, f⟩ quantity

/-- ADD LINE (R22). -/
def execAddLine (tier : BitVec 8) (article : BitVec 24) (form : BitVec 8) (quantity : BitVec 8) (s : State) :
    Host.Outcome State Fault Refusal :=
  .next (afterGo s (addLineChecked s tier.toNat article.toNat form.toNat quantity.toNat))

/-! ### COMMIT PLAN (R23, R24) -/

/-- R180: the reasons of PLAN_INVALID. -/
inductive PlanReason where
  | tierCount | emptyTier | dupArticle | form
  deriving DecidableEq, Repr

def PlanReason.code : PlanReason → Nat
  | .tierCount => 0 | .emptyTier => 1 | .dupArticle => 2 | .form => 3

/-- The tiers 1 to 12 in order. -/
def tierNumbers : List Nat := [1, 2, 3, 4, 5, 6, 7, 8, 9, 10, 11, 12]

/-- The first line of a list, numbered from n, that repeats an article of a line before it. -/
def dupLine (seen : List Nat) (n : Nat) : List Line → Option Nat
  | [] => none
  | l :: ls => if l.case.article ∈ seen then some n else dupLine (l.case.article :: seen) (n + 1) ls

/-- The first line of a list, numbered from 1, whose form is not supported. -/
def badForm (s : State) (ls : List Line) : Option Nat :=
  (ls.findIdx? (fun l => !s.supports l.case.form)).map (· + 1)

/-- The lowest tier, of those given, in which a line is found, with the tier. -/
def firstIn (find : Nat → Option Nat) : List Nat → Option (Nat × Nat)
  | [] => none
  | t :: ts =>
    match find t with
    | some l => some (t, l)
    | none => firstIn find ts

/-- R23: the first check that fails, with the tier and line it reports. -/
def planProblem (s : State) (pl : Place) : Option (PlanReason × Nat × Nat) :=
  let n := pl.tierCount.getD 0
  match firstIn (fun t => if n < t ∧ pl.tier t ≠ [] then some 1 else none) tierNumbers with
  | some (t, l) => some (.tierCount, t, l)
  | none =>
    match firstIn (fun t => if t ≤ n ∧ pl.tier t = [] then some 0 else none) tierNumbers with
    | some (t, l) => some (.emptyTier, t, l)
    | none =>
      match firstIn (fun t => dupLine [] 1 (pl.tier t)) tierNumbers with
      | some (t, l) => some (.dupArticle, t, l)
      | none => (firstIn (fun t => badForm s (pl.tier t)) tierNumbers).map (fun x => (.form, x.1, x.2))

/-- R24: the place becomes BUILDING at tier 1 and joins the build order list; the loader closes. -/
def commitPlan (s : State) (p : PlaceId) : State :=
  let s1 := setPlace s p { s.place p with state := .building, currentTier := some 1 }
  let s2 := s1.setPlans { s1.plans with buildOrder := s1.plans.buildOrder ++ [p], loader := none }
  answer (runSearch (markSearch (startWatch s2 p))) .done

/-- R23, R24. -/
def commitPlanChecked (s : State) : State :=
  match s.plans.loader with
  | none => answer s .refusedState
  | some p =>
    match planProblem s (s.place p) with
    | some (r, t, l) => respond s .planInvalid (packData [(8, r.code), (8, t), (8, l)])
    | none => commitPlan s p

/-- COMMIT PLAN (R23, R24). -/
def execCommitPlan (s : State) : Host.Outcome State Fault Refusal := .next (afterGo s (commitPlanChecked s))

/-! ### ABANDON PLAN, RELEASE PALLET, CANCEL PALLET (R25, R34, R37) -/

/-- R25. -/
def abandonPlanChecked (s : State) : State :=
  match s.plans.loader with
  | none => answer s .refusedState
  | some p =>
    let s1 := setPlace s p Place.empty
    answer (s1.setPlans { s1.plans with loader := none }) .done

/-- ABANDON PLAN (R25). -/
def execAbandonPlan (s : State) : Host.Outcome State Fault Refusal := .next (afterGo s (abandonPlanChecked s))

/-- R34. -/
def releasePalletChecked (s : State) (place : Nat) : State :=
  match placeOf? place with
  | none => answer s .refusedRange
  | some p =>
    if (s.place p).state = .complete then answer (setPlace s p Place.empty) .done else answer s .refusedState

/-- RELEASE PALLET (R34). -/
def execReleasePallet (place : BitVec 8) (s : State) : Host.Outcome State Fault Refusal :=
  .next (afterGo s (releasePalletChecked s place.toNat))

/-- R37. -/
def cancelPalletChecked (s : State) (place : Nat) : State :=
  match placeOf? place with
  | none => answer s .refusedRange
  | some p =>
    match (s.place p).state with
    | .building | .suspended => answer (runSearch (cancelPlace s p)) .done
    | .empty | .loading | .complete | .cancelling => answer s .refusedState

/-- CANCEL PALLET (R37). -/
def execCancelPallet (place : BitVec 8) (s : State) : Host.Outcome State Fault Refusal :=
  .next (afterGo s (cancelPalletChecked s place.toNat))

end Sys2Proof.Machine
end

