-- ==== Sys2Proof/Machine/Placement.lean ====
section
/-! DEFINITION. The commands on staging records: PLACED, REMOVE CASE and ACCEPT SUSPECT (R151 to R153). -/

namespace Sys2Proof.Machine

/-- The record that carries an arrival number. -/
def State.record? (s : State) (arrival : Nat) : Option StagingRecord :=
  s.staging.records.find? (fun r => decide (r.arrival = arrival))

/-- A record leaves the table, and the records behind it move up. -/
def dropRecord (s : State) (arrival : Nat) : State :=
  setRecords s (s.staging.records.filter (fun r => decide (r.arrival ≠ arrival)))

/-- R29: a placement moves one from staged to placed. -/
def Line.place (l : Line) : Line := { l with staged := l.staged - 1, placed := l.placed + 1 }

/-- R28: a removal lowers staged. -/
def Line.unstage (l : Line) : Line := { l with staged := l.staged - 1 }

/-- R151: an accepted PLACED. -/
def placeRecord (s : State) (r : StagingRecord) : State :=
  match r.target with
  | some t => markSearch (tierTest (modifyLine (dropRecord s r.arrival) t Line.place) t.place)
  | none => markSearch (dropRecord s r.arrival)

/-- R151. -/
def placedChecked (s : State) (arrival : Nat) : State :=
  match s.record? arrival with
  | none => answer s .noSuch
  | some r => if r.state = .placeable then answer (runSearch (placeRecord s r)) .done else answer s .notPlaceable

/-- PLACED (R151). -/
def execPlaced (arrival : BitVec 16) (s : State) : Host.Outcome State Fault Refusal :=
  .next (afterGo s (placedChecked s arrival.toNat))

/-- R152: the removal tally of a reason rises, and stays at 65535. -/
def tallyRemoval (s : State) (damaged : Bool) : State :=
  if damaged then s.setStaging { s.staging with damaged := min (s.staging.damaged + 1) Config.tallyMax }
  else s.setStaging { s.staging with returned := min (s.staging.returned + 1) Config.tallyMax }

/-- R152: an accepted REMOVE CASE. -/
def removeRecord (s : State) (r : StagingRecord) (damaged : Bool) : State :=
  let s1 := dropRecord s r.arrival
  let s2 := match r.target with
    | some t => modifyLine s1 t Line.unstage
    | none => s1
  markSearch (tallyRemoval s2 damaged)

/-- R152: DAMAGED 0, RETURNED 1 (R181). -/
def removeCaseChecked (s : State) (arrival reason : Nat) : State :=
  if 2 ≤ reason then answer s .refusedRange
  else match s.record? arrival with
    | none => answer s .noSuch
    | some r => answer (runSearch (removeRecord s r (decide (reason = 0)))) .done

/-- REMOVE CASE (R152). -/
def execRemoveCase (arrival : BitVec 16) (reason : BitVec 8) (s : State) : Host.Outcome State Fault Refusal :=
  .next (afterGo s (removeCaseChecked s arrival.toNat reason.toNat))

/-- R153: the state that an accepted suspect takes. -/
def acceptedState (s : State) (r : StagingRecord) : RecordState :=
  match r.target with
  | some t => newRecordState s t false
  | none => .waiting

/-- R153: an accepted ACCEPT SUSPECT. -/
def acceptRecord (s : State) (r : StagingRecord) : State :=
  let st := acceptedState s r
  let s1 := setRecords s (s.staging.records.map (fun x => if x.arrival = r.arrival then { x with state := st } else x))
  if st = .placeable then offerNotice s1 (.casePlaceable r.arrival) else s1

/-- R153. -/
def acceptSuspectChecked (s : State) (arrival : Nat) : State :=
  match s.record? arrival with
  | none => answer s .noSuch
  | some r => if r.state = .suspect then answer (acceptRecord s r) .done else answer s .refusedState

/-- ACCEPT SUSPECT (R153). -/
def execAcceptSuspect (arrival : BitVec 16) (s : State) : Host.Outcome State Fault Refusal :=
  .next (afterGo s (acceptSuspectChecked s arrival.toNat))

end Sys2Proof.Machine
end

