-- ==== Sys2Proof/Machine/Flags.lean ====
section
/-! DEFINITION. The summaries computed from the state: fault and warning present, withdrawing indications, the status summary and the response frame (R162, R168, R177, R179). -/

namespace Sys2Proof.Machine

def State.indicated (s : State) (f : FaultId) : Bool := (s.fault f).indication

/-- R168: an indication other than FRAME_ABANDONED and NOTICE_OVERRUN is set. -/
def State.faultPresent (s : State) : Bool :=
  FaultId.all.any (fun f => decide (f ≠ .frameAbandoned) && decide (f ≠ .noticeOverrun) && s.indicated f)

/-- R168: FRAME_ABANDONED or NOTICE_OVERRUN is set. -/
def State.warningPresent (s : State) : Bool := s.indicated .frameAbandoned || s.indicated .noticeOverrun

/-- R162: the withdrawing indications under a policy. -/
def FaultId.withdraws (p : Policy) : FaultId → Bool
  | .cfgMismatch | .indexSlip | .loopReverse | .divertJam | .rxErrors => true
  | .watchdog => decide (p.mode = .withdraw)
  | .placeNotReady _ => decide (p.scope = .cell)
  | .lineStuck | .frameAbandoned | .noticeOverrun => false

/-- R162: a withdrawing indication is set. -/
def State.withdrawingSet (s : State) : Bool := FaultId.all.any (fun f => f.withdraws s.policy && s.indicated f)

/-- R171: a PLACE_NOT_READY indication of some place is set. -/
def State.placeFaultSet (s : State) : Bool :=
  s.indicated (.placeNotReady 0) || s.indicated (.placeNotReady 1) || s.indicated (.placeNotReady 2) ||
    s.indicated (.placeNotReady 3)

def flagBit (b : Bool) : Nat := if b then 1 else 0

/-- R179: the fields of bytes 0 to 2 and the high half of byte 3, from the most significant bit. -/
def statusItems (s : State) : List Item :=
  [(2, s.part.state.code), (6, s.port.notices.length), (3, (s.place 0).state.code), (3, (s.place 1).state.code),
    (1, flagBit s.faultPresent), (1, flagBit s.warningPresent), (3, (s.place 2).state.code),
    (3, (s.place 3).state.code), (1, flagBit s.loop.running), (1, 0), (4, s.staging.records.length)]

/-- R177: bytes 0 to 14 of the response frame. -/
def responseBody (s : State) : List Byte :=
  natBytes 4 (packNat (statusItems s ++ [(4, s.port.response.result.code)])) ++ natBytes 11 s.port.response.data.toNat

/-- R177: the response frame, its check byte last. -/
def responseFrame (s : State) : List Byte := responseBody s ++ [checkByte (responseBody s)]

end Sys2Proof.Machine
end

