-- ==== Sys2Proof/Machine/Gate.lean ====
section
/-! DEFINITION. The Gate Unit: eye, pending edges, scanner reports and the announce decision (R42 to R56), with the meanings of its rows that need no pulse. -/

namespace Sys2Proof.Machine

def setGateDeglitch (s : State) (d : GateDeglitch) : State := s.setGate { s.gate with deglitch := d }

def setEdges (s : State) (es : List PendingEdge) : State := s.setGate { s.gate with edges := es }

/-- Whether the blocks run: in every participation state but START (R3, R42, R127, R159). -/
def State.started (s : State) : Bool := decide (s.part.state ≠ .start)

/-! ### Edges (R45 to R48) -/

/-- R46: an accepted edge joins at the tail, dropping the oldest as a NO_READ at a full queue. -/
def acceptEdge (s : State) (start : Nat) : State :=
  let e : PendingEdge := { captured := start, slot := edgeSlot s start, age := 0, lapped := false }
  if s.gate.edges.length < Config.edgeCapacity then setEdges s (s.gate.edges ++ [e])
  else reportPlain (setEdges s (s.gate.edges.drop 1 ++ [e])) .noRead

/-- R47: each pending edge ages by one, and leaves as a NO_READ when its age reaches the scan window. -/
def ageEdges (s : State) : State :=
  let aged := s.gate.edges.map (fun e => { e with age := e.age + 1 })
  let stay := fun e : PendingEdge => decide (e.age < s.timing.scanWindow)
  reportTimes (setEdges s (aged.filter stay)) .noRead (aged.length - (aged.filter stay).length)

/-- R44, R45: what a forward pulse does to the gate deglitch. -/
def gateDeglitchPulse (s : State) : State :=
  match s.gate.deglitch with
  | .blocking start aligned count =>
    if s.timing.gateDeglitch ≤ count + 1 then
      let s1 := setGateDeglitch s .blocked
      if aligned then acceptEdge s1 start else s1
    else setGateDeglitch s (.blocking start aligned (count + 1))
  | .clearing count =>
    if s.timing.gateDeglitch ≤ count + 1 then setGateDeglitch s .clear else setGateDeglitch s (.clearing (count + 1))
  | .clear | .blocked => s

/-- A forward pulse at the Gate Unit: the edges age, then the deglitch counts (an edge does not age on the pulse that
accepts it, R47). -/
def gatePulse (s : State) : State := gateDeglitchPulse (ageEdges s)

/-- R48: the induction passage of a pending edge's slot. -/
def lapEdges (s : State) (k : Nat) : State :=
  setEdges s (s.gate.edges.map (fun e => if e.slot = k then { e with lapped := true } else e))

/-! ### Reports (R49 to R51) -/

/-- R49: the bytes of a report and their check. -/
def reportMalformed (chars : List ScanChar) : Bool :=
  let bytes := chars.map (·.data)
  decide (chars.length ≠ Config.reportLength) || chars.any (fun c => !c.stopHigh) ||
    !(bytes.headD 0 == 1#8 || bytes.headD 0 == 2#8) || decide (8 ≤ (bytes.getD 4 0).toNat) ||
    !(bytes.getD 5 0 == checkByte (bytes.take 5))

/-- R49, R50: the case of a read report with a usable form; every other report is a no-read. -/
def reportCase (chars : List ScanChar) : Option CaseId :=
  let bytes := chars.map (·.data)
  if reportMalformed chars = false ∧ bytes.headD 0 = 1#8 then
    (Form.ofCode (bytes.getD 4 0).toNat).map (fun f => ⟨bytesToNat ((bytes.drop 1).take 3), f⟩)
  else none

/-- R53, R86: whether the announce decision queues an ANNOUNCE for this entry and case. -/
def announceWanted (e : ViewEntry) (c : CaseId) : Bool :=
  match e with
  | .empty => true
  | .free (some d) _ => decide (d ≠ c)
  | .free none _ => true
  | .claimed (some d) _ _ _ => decide (d ≠ c)
  | .claimed none _ _ _ => true
  | .disputed _ _ => false

/-- R52 to R54: a pending edge paired with a read report is resolved. -/
def resolveEdge (s : State) (e : PendingEdge) (c : CaseId) : State :=
  if e.lapped = false ∧ s.part.state = .active ∧ announceWanted (s.viewAt e.slot) c = true then
    offerFrame s (.announce e.slot c)
  else s

/-- R49 to R51: a report is taken. -/
def takeReport (s : State) (chars : List ScanChar) : State :=
  match s.gate.edges with
  | [] => reportPlain s .scanStray
  | e :: rest =>
    match reportCase chars with
    | some c => resolveEdge (setEdges s rest) e c
    | none => reportPlain (setEdges s rest) .noRead

/-- R49: a character begins a report, adds to one, or completes it. -/
def takeCharacter (s : State) (c : ScanChar) : State :=
  let chars := s.gate.report ++ [c]
  if chars.length < Config.reportLength then s.setGate { s.gate with report := chars, gap := 0 }
  else takeReport (s.setGate { s.gate with report := [], gap := 0 }) chars

/-- R49: a report ended incomplete is malformed, and so a no-read. -/
def endReport (s : State) : State :=
  takeReport (s.setGate { s.gate with report := [], gap := 0 }) s.gate.report

/-! ### The rows -/

/-- R44: a rise of GEYE. -/
def gateRise (s : State) : State :=
  let s1 := s.setPins { s.pins with gateEye := true }
  if s.started then
    match s.gate.deglitch with
    | .clear => setGateDeglitch s1 (.blocking s.loop.counter s.loop.aligned 0)
    | .clearing _ => setGateDeglitch s1 .blocked
    | .blocking .. | .blocked => s1
  else s1

/-- R44: a fall of GEYE. -/
def gateFall (s : State) : State :=
  let s1 := s.setPins { s.pins with gateEye := false }
  if s.started then
    match s.gate.deglitch with
    | .blocking .. => setGateDeglitch s1 .clear
    | .blocked => setGateDeglitch s1 (.clearing 0)
    | .clear | .clearing _ => s1
  else s1

/-- GATE_EYE_RISE (R44). -/
def execGateEyeRise (s : State) : Host.Outcome State Fault Refusal := .next (gateRise s)

/-- GATE_EYE_FALL (R44). -/
def execGateEyeFall (s : State) : Host.Outcome State Fault Refusal := .next (gateFall s)

/-- SCANNER_CHARACTER (R49). -/
def execScannerCharacter (c : ScanChar) (s : State) : Host.Outcome State Fault Refusal :=
  .next (if s.started then takeCharacter s c else s)

/-- SCANNER_REPORT (R49): the characters that complete a report, one after another. -/
def execScannerReport (chars : List ScanChar) (s : State) : Host.Outcome State Fault Refusal :=
  .next (if s.started then chars.foldl takeCharacter s else s)

end Sys2Proof.Machine
end

