-- ==== Sys2Proof/Machine/Divert.lean ====
section
/-! DEFINITION. The Divert Unit: the confirm eye, the dwell and the window at a forward pulse (R130, R132 to R136), and the rows of the confirm eye. -/

namespace Sys2Proof.Machine

def setConfirm (s : State) (d : ConfirmDeglitch) : State := s.setDivert { s.divert with deglitch := d }

/-! ### A forward pulse (R130, steps 1 to 3) -/

/-- R130, step 1: the dwell count and the window count rise. -/
def fireCountsPulse (s : State) : State :=
  match s.divert.fire with
  | some f => setFire s (some { f with dwell := f.dwell.map (· + 1), window := f.window.map (· + 1) })
  | none => s

/-- R134, R136: a confirm edge is the confirmation of an open window, or a stray. -/
def judgeConfirm (s : State) : State :=
  match s.divert.fire with
  | some f => if f.window.isSome then confirmTaken s f else reportPlain s .confirmStray
  | none => reportPlain s .confirmStray

/-- R130, steps 1 and 2: the confirm deglitch counts, and an edge it accepts is judged. -/
def confirmPulse (s : State) : State :=
  match s.divert.deglitch with
  | .blocking count =>
    if s.timing.confirmDeglitch ≤ count + 1 then judgeConfirm (setConfirm s .blocked)
    else setConfirm s (.blocking (count + 1))
  | .clearing count =>
    if s.timing.confirmDeglitch ≤ count + 1 then setConfirm s .clear else setConfirm s (.clearing (count + 1))
  | .clear | .blocked => s

/-- R132: the dwell ends on the pulse that brings its count to the dwell. -/
def endDwell (s : State) : State :=
  match s.divert.fire with
  | some f =>
    match f.dwell with
    | some n => if s.timing.dwell ≤ n then setFire (setOutput s false) (some { f with dwell := none }) else s
    | none => s
  | none => s

/-- R135: a window that has reached its length without a confirm edge closes as MISSED. -/
def endWindow (s : State) : State :=
  match s.divert.fire with
  | some f =>
    match f.window with
    | some n => if s.timing.confirmWindow ≤ n then closeMissed s f else s
    | none => s
  | none => s

/-- R130, steps 1 to 3, and R127: the fire in progress is discarded when both counts are absent. -/
def divertPulse (s : State) : State := discardFire (endWindow (endDwell (confirmPulse (fireCountsPulse s))))

/-! ### The confirm eye and the jam timer (R133, R139, R140) -/

def confirmRise (s : State) : State :=
  let s1 := s.setPins { s.pins with confirmEye := true }
  if s.started then
    let s2 := s1.setDivert { s1.divert with jamTimer := some 0 }
    match s.divert.deglitch with
    | .clear => setConfirm s2 (.blocking 0)
    | .clearing _ => setConfirm s2 .blocked
    | .blocking _ | .blocked => s2
  else s1

/-- R140: the first fall after DIVERT_JAM ends the jam condition. -/
def endJam (s : State) : State :=
  if s.divert.jam then endCondition (s.setDivert { s.divert with jam := false }) .divertJam else s

def confirmFall (s : State) : State :=
  let s1 := s.setPins { s.pins with confirmEye := false }
  if s.started then
    let s2 := endJam (s1.setDivert { s1.divert with jamTimer := none })
    match s.divert.deglitch with
    | .blocking _ => setConfirm s2 .clear
    | .blocked => setConfirm s2 (.clearing 0)
    | .clear | .clearing _ => s2
  else s1

/-- CONFIRM_EYE_RISE (R133, R139). -/
def execConfirmEyeRise (s : State) : Host.Outcome State Fault Refusal := .next (confirmRise s)

/-- CONFIRM_EYE_FALL (R133, R139, R140). -/
def execConfirmEyeFall (s : State) : Host.Outcome State Fault Refusal := .next (confirmFall s)

end Sys2Proof.Machine
end

