-- ==== Sys2Proof/Machine/HallLine.lean ====
section
/-! DEFINITION. The Hall Line Controller's rows: the line state, attempts and sends, frames received, and the stuck line (R58, R62 to R68, R77 to R79). -/

namespace Sys2Proof.Machine

/-! ### The line state (R58) -/

def setLineState (s : State) (st : LineState) (run : Nat) : State :=
  s.setLine { s.line with state := st, recessiveRun := run }

/-- R79: the stuck timer after the bit times that a row shows (log 30). -/
def timeLevels (s : State) (levels : List Bool) : State :=
  s.setLine { s.line with stuckTimer := timedBy s.line.stuckTimer levels }

/-- R58, R79: the line goes dominant: a frame begins on a free line, a recessive run begins again, and the stuck timer
runs. -/
def startBit (s : State) : State :=
  match s.line.state with
  | .free => timeLevels (setLineState s .carrying 0) [false]
  | .seeking => timeLevels (setLineState s .seeking 0) [false]
  | .carrying => timeLevels s [false]
  | .off => s

/-- R58: the recessive run reaches 12. -/
def lineBecomesFree (s : State) : State :=
  if s.line.state = .seeking ∧ s.line.stuck = false then
    timeLevels (setLineState s .free Config.recessiveLimit) [true]
  else s

/-- START_BIT_BEGINS (R58). -/
def execStartBitBegins (s : State) : Host.Outcome State Fault Refusal := .next (startBit s)

/-- LINE_FREE (R58). -/
def execLineFree (s : State) : Host.Outcome State Fault Refusal := .next (lineBecomesFree s)

/-! ### Beginning an attempt (R62) -/

def setAttempt (s : State) (a : Option Attempt) : State := s.setLine { s.line with attempt := a }

/-- Apply f to the first element that p picks. -/
def modifyFirst {α : Type} (p : α → Bool) (f : α → α) : List α → List α
  | [] => []
  | x :: xs => if p x then f x :: xs else x :: modifyFirst p f xs

/-- The frame of the transmit queue that is in the attempt or send in progress. -/
def frameInAttempt (s : State) : Option TxFrame := s.line.tx.find? (·.inAttempt)

/-- The frame as this attempt carries it: a CLAIM's distance is computed now (R62). -/
def frameForAttempt (s : State) (f : OutFrame) : Frame :=
  match f with
  | .claim _ k _ => f.onLine s.ownId (slotDistance s k)
  | _ => f.onLine s.ownId 0

/-- R62: the station begins an attempt with the head of its transmit queue. -/
def beginAttempt (s : State) (t : TxFrame) : State :=
  let s1 := setTx s (modifyFirst (fun x => decide (x = t)) (fun x => { x with inAttempt := true }) s.line.tx)
  setAttempt (timeLevels (setLineState s1 .carrying 0) [false])
    (some { sent := frameForAttempt s t.frame, won := false, ownRefuse := none })

/-- R62: all of the conditions for an attempt. -/
def mayAttempt (s : State) : Bool :=
  decide (s.line.state = .free) && !s.line.stuck && s.line.held.isNone && s.line.attempt.isNone

def sendAttempt (s : State) : State :=
  if mayAttempt s then
    match txOrder s with
    | t :: _ => beginAttempt s t
    | [] => s
  else s

/-- SEND_ATTEMPT (R62). -/
def execSendAttempt (s : State) : Host.Outcome State Fault Refusal := .next (sendAttempt s)

/-! ### The end of the arbitration key (R63, R67, R72) -/

/-- Change the frame in the attempt. -/
def modifyInAttempt (s : State) (f : TxFrame → TxFrame) : State :=
  setTx s (modifyFirst (·.inAttempt) f s.line.tx)

/-- Remove the frame in the attempt from the queue. -/
def removeInAttempt (s : State) : State := setTx s (s.line.tx.eraseP (·.inAttempt))

/-- R111, R123: the Contest Unit is told that a CLAIM has begun its first send. -/
def claimBeginsSend (s : State) (t : TxFrame) : State :=
  match t.frame with
  | .claim _ k _ =>
    if t.orphaned then addOrphan s k else modifyClaim s k (fun c => { c with state := .sending })
  | _ => s

/-- R67: the attempt becomes a send, the first of its frame or a later one. -/
def beginSend (s : State) (t : TxFrame) : State :=
  if t.sending then
    report (s.setLine { s.line with repeatCount := s.line.repeatCount + 1 }) .frameRepeated none t.frame.place?
  else
    let s1 := modifyInAttempt s (fun x => { x with sending := true, withdrawAsked := false })
    claimBeginsSend (s1.setLine { s1.line with repeatCount := 1 }) t

/-- R72, R112: the requester is told that its frame is withdrawn. -/
def tellWithdrawn (s : State) (t : TxFrame) : State :=
  match t.frame with
  | .announce .. => reportPlain s .announceDropped
  | .claim _ k _ =>
    if t.orphaned then s
    else match s.claimAt k with
      | some c => cancelTest (leaveWithEnd s c (c.pendingEnd.getD .lost)) c.target.place
      | none => s
  | _ => s

/-- R63, R72: an attempt lost leaves its frame in the queue, or decides its withdrawal. -/
def loseAttempt (s : State) (t : TxFrame) : State :=
  if t.withdrawAsked && !t.sending then tellWithdrawn (removeInAttempt s) t
  else modifyInAttempt s (fun x => { x with inAttempt := false })

/-- R63: the key ends, lost at the first of its bits sent recessive and read dominant; only an attempt whose key has
not ended can be decided. -/
def arbitrationEnd (s : State) (read : List Byte) : State :=
  match s.line.attempt, frameInAttempt s with
  | some a, some t =>
    if a.won then s
    else
      let s1 := timeLevels s (dataLevels (keyBits a.sent.kind) read)
      if lostArbitration a.sent.kind a.sent.bytes read then runSearch (loseAttempt (setAttempt s1 none) t)
      else setAttempt (beginSend s1 t) (some { a with won := true })
  | _, _ => s

/-- ARBITRATION_END (R63, R67, R72). -/
def execArbitrationEnd (read : List Byte) (s : State) : Host.Outcome State Fault Refusal := .next (arbitrationEnd s read)

/-! ### The end of the check byte (R65, R66, R78) -/

def setAnswer (s : State) (a : EndSlotAnswer) : State := s.setLine { s.line with answer := some a }

/-- R66: the sender drives REFUSE against its own frame for a full queue or a bit error, and reports it with the own ID
(R189) and the place field of the frame (R77). -/
def judgeOwn (s : State) (a : Attempt) (bitError : Bool) : State :=
  let refuse := bitError || decide (Config.rxCapacity ≤ s.line.rx.length)
  let s1 := setAttempt s (some { a with ownRefuse := some refuse })
  if refuse then report s1 .frameRefusedByMe (some s.ownId) a.sent.place? else s1

/-- R78: a length or check error; the eighth in a row raises RX_ERRORS. -/
def countCheckError (s : State) : State :=
  let n := s.line.checkErrors + 1
  if n < Config.checkErrorLimit then s.setLine { s.line with checkErrors := n }
  else raiseImmediate (s.setLine { s.line with checkErrors := 0 }) .rxErrors

/-- R65: a frame with a length or check error. -/
def receiveBroken (s : State) : State :=
  countCheckError (reportPlain (setAnswer (setLineState s .carrying 0) .refuse) .frameRefusedByMe)

/-- R65: a whole frame, stored or refused for a full queue. -/
def receiveWhole (s : State) (f : Frame) : State :=
  let s1 := setLineState s .carrying 0
  let s2 := s1.setLine { s1.line with checkErrors := 0 }
  if s.line.rx.length < Config.rxCapacity then
    setAnswer (s2.setLine { s2.line with rx := s2.line.rx ++ [⟨f, false⟩] }) .accept
  else reportSender (setAnswer s2 .refuse) .frameRefusedByMe f.sender

/-- R59, R61: whether a frame came whole: no length error, every byte there, and its check right. -/
def wholeFrame (bytes : List Byte) (lengthError : Bool) : Bool :=
  !lengthError && decide (bytes.length = frameDataLength (frameKind bytes) + 1) && frameCheckOk bytes

/-- R65: the end of a heard frame's check byte. -/
def receiveHeard (s : State) (bytes : List Byte) (lengthError : Bool) : State :=
  if wholeFrame bytes lengthError then receiveWhole s (parseFrame bytes) else receiveBroken s

/-- R59, R79: the levels that the end of a check byte shows: the data bits, and the last stop bit, recessive in a frame
without a length error and not shown of another one. -/
def frameLevels (bytes : List Byte) (lengthError : Bool) : List Bool :=
  dataLevels (8 * bytes.length) bytes ++ if lengthError then [] else [true]

def timeFrame (s : State) (bytes : List Byte) (lengthError : Bool) : State := timeLevels s (frameLevels bytes lengthError)

/-- FRAME_RECEIVED in the states of the line: an own send is judged, a heard frame is answered (R65, R66). -/
def frameReceived (s : State) (bytes : List Byte) (lengthError : Bool) : State :=
  match s.line.state with
  | .off | .seeking => s
  | .free | .carrying =>
    match s.line.attempt with
    | some a =>
      if a.won && a.ownRefuse.isNone then
        judgeOwn (timeFrame s bytes lengthError) a (lengthError || bitErrorAfterKey a.sent.kind a.sent.bytes bytes)
      else s
    | none =>
      if s.line.answer.isNone then runSearch (receiveHeard (timeFrame s bytes lengthError) bytes lengthError) else s

/-- FRAME_RECEIVED (R65, R66, R78). -/
def execFrameReceived (bytes : List Byte) (lengthError : Bool) (s : State) : Host.Outcome State Fault Refusal :=
  .next (frameReceived s bytes lengthError)

/-! ### The end of the REFUSE slot (R58, R66, R68, R77) -/

/-- R77: what the end of an own frame is counted as. -/
def countSent (s : State) (f : OutFrame) : State :=
  match f with
  | .announce .. => reportPlain s .announceSent
  | .claim _ _ p => reportPlace s .claimSent p
  | .release .. => reportPlain s .releaseSent
  | .taken .. | .missed .. | .join _ | .withdraw _ => s

/-- R103, R104: the frame place that an own TAKEN, MISSED or RELEASE held is freed. -/
def freeFramePlace (s : State) (f : OutFrame) : State := if f.isOutcome then markSearch s else s

/-- A frame leaves the transmit queue at its completion or abandonment. -/
def retireFrame (s : State) : State :=
  let s1 := removeInAttempt s
  s1.setLine { s1.line with repeatCount := 0 }

/-- R66: an accepted or lone send completes its frame. -/
def completeSend (s : State) (t : TxFrame) (sent : Frame) : State :=
  freeFramePlace (enterOwnFrame (countSent (retireFrame s) t.frame) sent) t.frame

/-- R68: the eighth refused send abandons its frame. -/
def abandonSend (s : State) (t : TxFrame) (sent : Frame) : State :=
  let s1 := recordFault (retireFrame s) .frameAbandoned 0
  freeFramePlace (enterOwnFrame (countSent s1 t.frame) sent) t.frame

/-- R66, R68: a send by its end slots. -/
def sendOutcome (s : State) (t : TxFrame) (sent : Frame) (refused : Bool) : State :=
  if refused then
    if Config.maxSends ≤ s.line.repeatCount then abandonSend s t sent
    else modifyInAttempt s (fun x => { x with inAttempt := false })
  else completeSend s t sent

/-- R58: the frame is over: SEEKING with the recessive run at 0. -/
def afterFrame (s : State) : State :=
  s.setLine { s.line with state := .seeking, recessiveRun := 0, attempt := none, answer := none }

/-- R66: the own judgement, made now when the end of the check byte was not given (log 12). -/
def judged (s : State) (a : Attempt) : State :=
  if a.ownRefuse.isNone then judgeOwn s a false else s

/-- Whether this station drives REFUSE against its own send. -/
def ownRefuses (s : State) : Bool :=
  match s.line.attempt with
  | some a => a.ownRefuse.getD false
  | none => false

/-- R66: the end of an own send. -/
def endOwnSend (s : State) (a : Attempt) (refuse : Bool) : State :=
  let s1 := judged s a
  match frameInAttempt s1 with
  | some t => runSearch (afterFrame (sendOutcome s1 t a.sent (refuse || ownRefuses s1)))
  | none => afterFrame s1

/-- FRAME_END in the states of the line (R58, R66): a send that is not refused completes whether it was accepted or
lone, so the ACCEPT slot decides nothing but the level of the line (R79). -/
def frameEnd (s : State) (accept refuse : Bool) : State :=
  let s1 := timeLevels s [!accept, !refuse]
  match s.line.state with
  | .off | .seeking | .free => s
  | .carrying =>
    match s.line.attempt with
    | some a => if a.won then endOwnSend s1 a refuse else s
    | none => afterFrame s1

/-- FRAME_END (R58, R66). -/
def execFrameEnd (accept refuse : Bool) (s : State) : Host.Outcome State Fault Refusal := .next (frameEnd s accept refuse)

/-- R68: the held own frame enters the receive queue when there is room. -/
def enterHeld (s : State) : State :=
  match s.line.held with
  | some f =>
    if s.line.rx.length < Config.rxCapacity then
      s.setLine { s.line with rx := s.line.rx ++ [⟨f, true⟩], held := none }
    else s
  | none => s

/-- HELD_OWN_FRAME_ENTERS (R68). -/
def execHeldOwnFrameEnters (s : State) : Host.Outcome State Fault Refusal := .next (enterHeld s)

/-! ### The stuck line (R79) -/

/-- R79: a heard frame in progress ends with a length error. -/
def settleHeard (s : State) : State :=
  if s.line.answer.isNone then receiveBroken s else s

/-- R79: a frame in progress when the line sticks is over: an own send by a bit error, an attempt by its lost key, and
a heard frame by a length error (log 14). -/
def settleFrame (s : State) : State :=
  match s.line.state with
  | .off | .seeking => s
  | .free | .carrying =>
    match s.line.attempt, frameInAttempt s with
    | some a, some t =>
      if a.won then
        let s1 := if a.ownRefuse.isNone then judgeOwn s a true else s
        afterFrame (sendOutcome s1 t a.sent true)
      else afterFrame (settleHeard (loseAttempt (setAttempt s none) t))
    | _, _ => afterFrame (settleHeard s)

/-- R79: the line has been dominant for more than 2 ms. No rule orders the raisings of this event: the frame in progress is
settled before LINE_STUCK is raised, so an RX_ERRORS with its withdrawal, or a FRAME_ABANDONED, comes first (log 14, DESIGN
CHOICE). -/
def stickLine (s : State) : State :=
  let s1 := settleFrame s
  let s2 := s1.setLine { s1.line with recessiveRun := 0, stuck := true, stuckTimer := some Config.stuckLimit }
  recordFault s2 .lineStuck 0

/-- R79: the first bit time of recessive level. -/
def lineStuckEnd (s : State) : State :=
  if s.line.stuck then
    endCondition (s.setLine { s.line with state := .seeking, recessiveRun := 1, stuck := false, stuckTimer := none })
      .lineStuck
  else s

/-- LINE_STUCK_END (R79). -/
def execLineStuckEnd (s : State) : Host.Outcome State Fault Refusal := .next (lineStuckEnd s)

end Sys2Proof.Machine
end

