-- ==== Sys2Proof/Machine/Time.lean ====
section
/-! DEFINITION. Intervals in milliseconds: the timers, what happens when each runs out, the rows that say so, and one idle millisecond (R14, R49, R79, R139, R169, R172). -/

namespace Sys2Proof.Machine

/-! ### The passage of time (log 2, log 3) -/

/-- A timer advances up to the end of its interval. -/
def advance (bound ms n : Nat) : Nat := max n (min (n + ms) bound)

def Watch.elapse (t ms : Nat) (w : Watch) : Watch :=
  match w.state with
  | .dropping | .rising => { w with timer := advance t ms w.timer }
  | .unwatched | .ready | .notReady => w

/-- Every running interval of R6 that is measured in milliseconds advances. -/
def elapse (s : State) (ms : Nat) : State :=
  let t := s.timing
  let s1 := s.setLoop { s.loop with stopTimer := s.loop.stopTimer.map (advance t.stopTime ms) }
  let s2 := if s.gate.report = [] then s1
    else s1.setGate { s.gate with gap := advance Config.reportGap ms s.gate.gap }
  let s3 := s2.setDivert { s.divert with jamTimer := s.divert.jamTimer.map (advance t.jamTime ms) }
  let s4 := s3.setLine { s.line with stuckTimer := s.line.stuckTimer.map (advance Config.stuckLimit ms) }
  let ws := s.part.watches
  s4.setPart { s.part with
    watches := #v[ws[0].elapse t.placeDeglitch ms, ws[1].elapse t.placeDeglitch ms, ws[2].elapse t.placeDeglitch ms,
      ws[3].elapse t.placeDeglitch ms]
    watchdogTimer := if s.part.watchdog = .running then advance s.policy.upper ms s.part.watchdogTimer
      else s.part.watchdogTimer }

/-! ### What happens when an interval runs out -/

/-- R14. -/
def stopLoop (s : State) : State :=
  offerNotice (s.setLoop { s.loop with running := false, stopTimer := none }) .loopStopped

/-- R139, with the effects of DIVERT_JAM. -/
def jamDivert (s : State) : State :=
  raiseImmediate (s.setDivert { s.divert with jamTimer := none, jam := true }) .divertJam

/-- R169, R170: the condition of PLACE_NOT_READY(p) ends; AUTO recovery in PLACE scope resumes the place. -/
def endPlaceCondition (s : State) (p : PlaceId) : State :=
  let st : WatchState := if s.building p then .ready else .unwatched
  let s1 := setWatch (endCondition s (.placeNotReady p)) p ⟨st, 0⟩
  if s.policy.scope = .place ∧ s.policy.recovery = .auto then resumePlace s1 p else s1

/-- R169: the place-ready timer reaches t. -/
def placeTimerEnd (s : State) (p : PlaceId) : State :=
  match (s.watch p).state with
  | .dropping => raisePlaceNotReady (setWatch s p ⟨.notReady, 0⟩) p
  | .rising => endPlaceCondition s p
  | .unwatched | .ready | .notReady => s

/-! ### Whether an interval has run out -/

def stopDue (s : State) : Bool := s.loop.stopTimer.any (fun n => decide (s.timing.stopTime ≤ n))
def gapDue (s : State) : Bool := !s.gate.report.isEmpty && decide (Config.reportGap ≤ s.gate.gap)
def jamDue (s : State) : Bool := s.divert.jamTimer.any (fun n => decide (s.timing.jamTime ≤ n))

/-- Whether the timer of a place runs. -/
def Watch.timed (w : Watch) : Bool := decide (w.state = .dropping) || decide (w.state = .rising)

def placeDue (s : State) (p : PlaceId) : Bool :=
  (s.watch p).timed && decide (s.timing.placeDeglitch ≤ (s.watch p).timer)

def watchdogDue (s : State) : Bool :=
  decide (s.part.watchdog = .running) && decide (s.policy.upper ≤ s.part.watchdogTimer)

/-- R79: whether the line may stick: the part watches it, and it is not stuck yet. -/
def mayStick (s : State) : Bool := decide (s.line.state ≠ .off) && !s.line.stuck

/-- R79: dominant for 2 ms already, so that one millisecond on it is more than 2 ms. -/
def stuckNext (s : State) : Bool := mayStick s && s.line.stuckTimer.any (fun n => decide (Config.stuckLimit ≤ n))

/-- Where an interval has run out, that is an event of its own with the search it causes (R104). -/
def whenDue (due : State → Bool) (f : State → State) (s : State) : State := if due s then runSearch (f s) else s

/-- One millisecond with no command waiting: time passes, and then each interval that has run out takes its event, one
after another in this order, the search of one (R104) before the next is looked at (log 3, DESIGN CHOICE). -/
def tick (s : State) : State :=
  let s1 := whenDue jamDue jamDivert (whenDue gapDue endReport (whenDue stopDue stopLoop (elapse s 1)))
  let s2 := whenDue (fun _ => stuckNext s) stickLine s1
  let s3 := allPlaces.foldl (fun s p => whenDue (fun s => placeDue s p) (fun s => placeTimerEnd s p) s) s2
  whenDue watchdogDue watchdogViolation s3

/-! ### The rows: the rest of the interval passes, and it runs out (log 2); a halted timer changes nothing (log 4) -/

def loopStopped (s : State) : State :=
  match s.loop.stopTimer with
  | some n => stopLoop (elapse s (s.timing.stopTime - n))
  | none => s

def reportGapTimeout (s : State) : State :=
  if s.gate.report = [] then s else endReport (elapse s (Config.reportGap - s.gate.gap))

def divertJam (s : State) : State :=
  match s.divert.jamTimer with
  | some n => runSearch (jamDivert (elapse s (s.timing.jamTime - n)))
  | none => s

/-- R79: a halted stuck timer stands for a line that went dominant without a row of its own (log 30). -/
def lineStuck (s : State) : State :=
  if mayStick s then runSearch (stickLine (elapse s (Config.stuckLimit - s.line.stuckTimer.getD 0))) else s

def placeReadyTimer (s : State) (p : PlaceId) : State :=
  if (s.watch p).timed then
    runSearch (placeTimerEnd (elapse s (s.timing.placeDeglitch - (s.watch p).timer)) p)
  else s

def watchdogExpiry (s : State) : State :=
  if s.part.watchdog = .running then
    runSearch (watchdogViolation (elapse s (s.policy.upper - s.part.watchdogTimer)))
  else s

/-- LOOP_STOPPED (R14). -/
def execLoopStopped (s : State) : Host.Outcome State Fault Refusal := .next (loopStopped s)

/-- REPORT_GAP_TIMEOUT (R49). -/
def execReportGapTimeout (s : State) : Host.Outcome State Fault Refusal := .next (reportGapTimeout s)

/-- DIVERT_JAM (R139). -/
def execDivertJam (s : State) : Host.Outcome State Fault Refusal := .next (divertJam s)

/-- LINE_STUCK (R79). -/
def execLineStuck (s : State) : Host.Outcome State Fault Refusal := .next (lineStuck s)

/-- PLACE_READY_TIMER (R169). -/
def execPlaceReadyTimer (p : PlaceId) (s : State) : Host.Outcome State Fault Refusal := .next (placeReadyTimer s p)

/-- WATCHDOG_EXPIRY (R172). -/
def execWatchdogExpiry (s : State) : Host.Outcome State Fault Refusal := .next (watchdogExpiry s)

/-! ### The place-ready inputs (R169) -/

def setPlaceReady (s : State) (p : PlaceId) (level : Bool) : State :=
  s.setPins { s.pins with placeReady := s.pins.placeReady.set p.val level p.isLt }

/-- R169: a rise of PRDYp. -/
def placeReadyRise (s : State) (p : PlaceId) : State :=
  let s1 := setPlaceReady s p true
  match (s.watch p).state with
  | .dropping => setWatch s1 p ⟨.ready, 0⟩
  | .notReady => setWatch s1 p ⟨.rising, 0⟩
  | .unwatched | .ready | .rising => s1

/-- R169: a fall of PRDYp. -/
def placeReadyFall (s : State) (p : PlaceId) : State :=
  let s1 := setPlaceReady s p false
  match (s.watch p).state with
  | .ready => setWatch s1 p ⟨.dropping, 0⟩
  | .rising => setWatch s1 p ⟨.notReady, 0⟩
  | .unwatched | .dropping | .notReady => s1

/-- PLACE_READY_RISE (R169). -/
def execPlaceReadyRise (p : PlaceId) (s : State) : Host.Outcome State Fault Refusal := .next (placeReadyRise s p)

/-- PLACE_READY_FALL (R169). -/
def execPlaceReadyFall (p : PlaceId) (s : State) : Host.Outcome State Fault Refusal := .next (placeReadyFall s p)

end Sys2Proof.Machine
end

