-- ==== Sys2Proof/Machine/Port.lean ====
section
/-! DEFINITION. The cell port's transactions, and the commands of upkeep, participation and restart (R162, R172 to R178, R184). -/

namespace Sys2Proof.Machine

/-! ### Transactions (R176 to R178) -/

/-- TRANSACTION_START (R176, R177): the response frame is built from the state as it stands, and no bit has been
clocked. -/
def execTransactionStart (s : State) : Host.Outcome State Fault Refusal :=
  .next (s.setPort { s.port with transaction := some { frame := responseFrame s, received := [], driven := 0 } })

def modifyTransaction (s : State) (f : Transaction → Transaction) : State :=
  s.setPort { s.port with transaction := s.port.transaction.map f }

/-- R176: a rising edge of CPCLK takes one bit from CPIN while CPSEL is low (log 32). -/
def clockRise (s : State) (cpin : Bool) : State :=
  modifyTransaction s (fun t => { t with received := t.received ++ [cpin] })

/-- R176: after a falling edge of CPCLK the next bit is driven on CPOUT while CPSEL is low (log 32). -/
def clockFall (s : State) : State := modifyTransaction s (fun t => { t with driven := t.driven + 1 })

/-- One period of CPCLK. -/
def clockBit (s : State) (cpin : Bool) : State := clockFall (clockRise s cpin)

/-- R176, R177: the level that a transaction drives on CPOUT, its last bit driven: most significant bit of each byte
first, and 1 after the sixteenth byte. No level before its first bit. -/
def Transaction.cpout (t : Transaction) : Option Bool :=
  match t.driven with
  | 0 => none
  | n + 1 => some (lineBit t.frame n)

/-- CPOUT is driven only while CPSEL is low. -/
def State.cpout (s : State) : Option Bool := s.port.transaction.bind Transaction.cpout

/-- TRANSACTION_INCOMPLETE (R178). -/
def execTransactionIncomplete (_bits : Nat) (s : State) : Host.Outcome State Fault Refusal :=
  .next (answer s .frameError)

/-- CHECK_ERROR (R178). -/
def execCheckError (_frame : List Byte) (s : State) : Host.Outcome State Fault Refusal :=
  .next (answer s .checkError)

/-- UNKNOWN_COMMAND (R178). -/
def execUnknownCommand (_code : Byte) (s : State) : Host.Outcome State Fault Refusal :=
  .next (answer s .unknownCommand)

/-! ### Upkeep (R172, R173, R175, R184) -/

/-- NOP (R184). -/
def execNop (s : State) : Host.Outcome State Fault Refusal := .next (answer s .done)

def setWatchdog (s : State) (w : WatchdogState) : State :=
  s.setPart { s.part with watchdog := w, watchdogTimer := 0 }

/-- R172, R173. -/
def keepalive (s : State) : State :=
  if s.part.watchdog = .running then
    if s.policy.lower ≤ s.part.watchdogTimer then setWatchdog s .running else runSearch (watchdogViolation s)
  else s

/-- KEEPALIVE (R172, R173). -/
def execKeepalive (s : State) : Host.Outcome State Fault Refusal := .next (answer (keepalive s) .done)

/-- ARM WATCHDOG (R173). -/
def execArmWatchdog (s : State) : Host.Outcome State Fault Refusal :=
  .next (if s.part.watchdog = .stopped ∧ s.indicated .watchdog = false then answer (setWatchdog s .running) .done
    else answer s .refusedState)

/-- R175: an indication that CLEAR FAULTS clears: shown, and its condition has ended. CFG_MISMATCH never ends: its
condition flag stays set from its raising (R168). -/
def State.clearable (s : State) (f : FaultId) : Bool :=
  (s.fault f).indication && (s.fault f).shown && !(s.fault f).condition

def State.clearableFaults (s : State) : List FaultId := FaultId.all.filter s.clearable

/-- R175: one entry after CLEAR FAULTS; every shown mark is cleared. -/
def FaultEntry.cleared (e : FaultEntry) : FaultEntry :=
  { e with indication := e.indication && !(e.shown && !e.condition), shown := false }

def clearEntry (s : State) (f : FaultId) : State := setFault s f (s.fault f).cleared

/-- R175: the record after the clear. -/
def clearRecord (s : State) : State := FaultId.all.foldl clearEntry s

/-- R170: the places whose PLACE_NOT_READY was cleared are resumed. -/
def resumeCleared (s : State) (f : FaultId) : State :=
  match f with
  | .placeNotReady p => resumePlace s p
  | _ => s

def FaultId.isPlaceFault : FaultId → Bool
  | .placeNotReady _ => true
  | _ => false

/-- R170, R171, R175: the effects of the indications cleared. -/
def clearEffects (s : State) (cleared : List FaultId) : State :=
  match s.policy.scope with
  | .place => if s.policy.recovery = .latched then cleared.foldl resumeCleared s else s
  | .cell => if cleared.any FaultId.isPlaceFault ∧ s.placeFaultSet = false then resumeAll s else s

/-- R175, the record first and the effects after it (log 19). -/
def clearFaults (s : State) : State := runSearch (clearEffects (clearRecord s) s.clearableFaults)

/-- CLEAR FAULTS (R175), answered with the number of indications cleared (R185). -/
def execClearFaults (s : State) : Host.Outcome State Fault Refusal :=
  .next (respond (clearFaults s) .done (packData [(8, s.clearableFaults.length)]))

/-! ### Participation (R162) and the resets (R159, R184, R188) -/

/-- WITHDRAW (R162), with reason HOST, 0 (R60). -/
def execWithdraw (s : State) : Host.Outcome State Fault Refusal :=
  .next (match s.part.state with
    | .listening | .active => answer (runSearch (orderlyWithdraw s 0)) .done
    | .start | .withdrawn => answer s .refusedState)

/-- REJOIN (R162). -/
def execRejoin (s : State) : Host.Outcome State Fault Refusal :=
  .next (if s.part.state = .withdrawn ∧ s.withdrawingSet = false then answer (enterListening s) .done
    else answer s .refusedState)

/-- RESTART (R184): every block resets but the Counter Unit; the inputs and the waiting commands are not the part's. -/
def execRestart (s : State) : Host.Outcome State Fault Refusal :=
  .next (((State.reset.setPins s.pins).setCounters s.counters).setPending s.pending)

/-- POWER_ON_RESET (R159, R188): every block resets. -/
def execPowerOnReset (s : State) : Host.Outcome State Fault Refusal :=
  .next ((State.reset.setPins s.pins).setPending s.pending)

end Sys2Proof.Machine
end

