-- ==== Sys2Proof/Machine/Setup.lean ====
section
/-! DEFINITION. Configuration and GO (R2, R43, R128, R159, R160, R163, R172, R182, R183). -/

namespace Sys2Proof.Machine

/-! ### The configuration commands (R2, R182) -/

/-- R181, R182: a configuration command outside START is refused without its parameters being checked; in START one
with a parameter out of range is refused and changes nothing. -/
def configure (s : State) (inRange : Bool) (c : Configuration) : State :=
  if s.part.state ≠ .start then answer s .refusedState
  else if inRange then answer (s.setConfig c) .done
  else answer s .refusedRange

/-- R2. -/
def hallSizeInRange (l p : Nat) : Bool :=
  decide (16 ≤ l) && decide (l ≤ 512) && decide (16 ≤ p) && decide (p ≤ 1024) && decide (l * p ≤ 524288)

/-- HALL SIZE (R2). -/
def execHallSize (slots : BitVec 10) (pitch : BitVec 11) (s : State) : Host.Outcome State Fault Refusal :=
  .next (configure s (hallSizeInRange slots.toNat pitch.toNat)
    { s.config with hallSize := some ⟨slots.toNat, pitch.toNat⟩ })

/-- R182: gate and divert both 0 make the ID absent. -/
def stationPosition (gate divert : Nat) : Option StationPos :=
  if gate = 0 ∧ divert = 0 then none else some ⟨gate, divert⟩

/-- STATION ENTRY (R182). -/
def execStationEntry (id : BitVec 4) (gate divert : BitVec 19) (s : State) : Host.Outcome State Fault Refusal :=
  .next (configure s true
    { s.config with hall := s.config.hall.set id.toNat (stationPosition gate.toNat divert.toNat) id.isLt })

/-- OWN SETUP (R182). -/
def execOwnSetup (id : BitVec 4) (forms : BitVec 6) (staging reserve : BitVec 4) (s : State) :
    Host.Outcome State Fault Refusal :=
  .next (configure s (decide (2 ≤ staging.toNat) && decide (staging.toNat ≤ 12))
    { s.config with own := some ⟨stationOf id, forms, staging.toNat, reserve.toNat⟩ })

/-- The values of a TIMING command. -/
def timingOf (t : TimingParams) : Timing :=
  { tolerance := t.tolerance.toNat, gateDeglitch := t.gateDeglitch.toNat, confirmDeglitch := t.confirmDeglitch.toNat,
    scanWindow := t.scanWindow.toNat, armLead := t.armLead.toNat, dwell := t.dwell.toNat,
    confirmWindow := t.confirmWindow.toNat, jamTime := t.jamTime.toNat, stopTime := t.stopTime.toNat,
    placeDeglitch := t.placeDeglitch.toNat }

def within (low high n : Nat) : Bool := decide (low ≤ n) && decide (n ≤ high)

/-- R182: the ranges checked when TIMING is taken. -/
def Timing.inRange (t : Timing) : Bool :=
  within 1 64 t.gateDeglitch && within 1 64 t.confirmDeglitch && within 1 2048 t.scanWindow &&
    within 1 524287 t.armLead && within 1 1024 t.dwell && within 1 1024 t.confirmWindow &&
    within 100 10000 t.jamTime && within 50 5000 t.stopTime && within 10 500 t.placeDeglitch

/-- TIMING (R2, R43, R128, R159, R182). -/
def execTiming (t : TimingParams) (s : State) : Host.Outcome State Fault Refusal :=
  .next (configure s (timingOf t).inRange { s.config with timing := some (timingOf t) })

def scopeOf (b : BitVec 1) : Scope := if b = 0 then .place else .cell
def recoveryOf (b : BitVec 1) : Recovery := if b = 0 then .auto else .latched

/-- R182: OFF, WARN, WITHDRAW; 3 is refused. -/
def watchdogModeOf (m : BitVec 2) : Option WatchdogMode :=
  match m.toNat with
  | 0 => some .off
  | 1 => some .warn
  | 2 => some .withdraw
  | _ => none

/-- R172. -/
def boundsInRange (lower upper : Nat) : Bool := within 10 1000 lower && within (lower + 10) 5000 upper

/-- FAULT POLICY (R159, R172, R182). -/
def execFaultPolicy (scope recovery : BitVec 1) (mode : BitVec 2) (lower : BitVec 10) (upper : BitVec 13) (s : State) :
    Host.Outcome State Fault Refusal :=
  .next (configure s ((watchdogModeOf mode).isSome && boundsInRange lower.toNat upper.toNat)
    { s.config with policy := some ⟨scopeOf scope, recoveryOf recovery, (watchdogModeOf mode).getD .off, lower.toNat,
      upper.toNat⟩ })

/-! ### GO (R163, R183) -/

/-- R180: the reasons of CONFIG_INVALID. -/
inductive ConfigReason where
  | ownAbsent | order | gapShort | window | tolerance | reserve
  deriving DecidableEq, Repr

def ConfigReason.code : ConfigReason → Nat
  | .ownAbsent => 0 | .order => 1 | .gapShort => 2 | .window => 3 | .tolerance => 4 | .reserve => 5

/-- Every station ID, in order. -/
def allStations : List Station := [0, 1, 2, 3, 4, 5, 6, 7, 8, 9, 10, 11, 12, 13, 14, 15]

/-- R183, check 2: a present station without g < d < L×P. -/
def badOrder (s : State) (i : Station) : Bool :=
  s.config.hall[i].any (fun p => !(decide (p.gate < p.divert) && decide (p.divert < s.loopLen)))

/-- R183: the own ID was given and is present. -/
def State.ownPresent (s : State) : Bool := s.config.own.any (fun o => s.config.hall[o.id].isSome)

/-- R183, checks 3 to 6. -/
def gapShort (s : State) : Bool := decide (s.divertPos - s.gatePos < s.timing.scanWindow + s.timing.armLead)
def windowLong (s : State) : Bool :=
  decide (s.pitch < s.timing.dwell) || decide (s.pitch < s.timing.confirmWindow) ||
    decide (2 * s.pitch < s.timing.scanWindow)
def toleranceBad (s : State) : Bool := decide (s.timing.tolerance = 0) || decide (s.pitch / 4 < s.timing.tolerance)
def reserveBad (s : State) : Bool := decide (s.reserve = 0) || decide (s.stagingSize ≤ s.reserve)

/-- R183: the first check of GO that fails, with the station ID that ORDER reports. -/
def configProblem (s : State) : Option (ConfigReason × Nat) :=
  if s.ownPresent = false then some (.ownAbsent, 0)
  else match allStations.find? (badOrder s) with
    | some i => some (.order, i.val)
    | none =>
      if gapShort s then some (.gapShort, 0)
      else if windowLong s then some (.window, 0)
      else if toleranceBad s then some (.tolerance, 0)
      else if reserveBad s then some (.reserve, 0)
      else none

/-- R163: the three numbers of one station ID. -/
def digestTerms (p : Option StationPos) : List Nat :=
  match p with
  | some q => [1, q.gate, q.divert]
  | none => [0, 0, 0]

/-- R163: the sequence v0 to v49. -/
def digestSequence (s : State) : List Nat :=
  [s.slots, s.pitch] ++ (allStations.map (fun i => digestTerms s.config.hall[i])).flatten

/-- R163: the weighted sum, the first number of the list with weight w. -/
def weightedSum (w : Nat) : List Nat → Nat
  | [] => 0
  | x :: xs => w * x + weightedSum (w + 1) xs

/-- R163. -/
def hallDigest (s : State) : Nat := weightedSum 1 (digestSequence s) % 65536

/-- R3, R42, R57, R82, R127, R183: the blocks start from their reset states; the eyes are taken as they stand. -/
def startBlocks (s : State) : State :=
  let s1 := s.setLoop { LoopTracker.reset with stopTimer := some 0 }
  let s2 := s1.setGate { GateUnit.reset with deglitch := if s.pins.gateEye then .blocked else .clear }
  let s3 := s2.setLine { HallLine.reset with state := .seeking }
  let s4 := s3.setView (List.replicate s.slots .empty)
  s4.setDivert { DivertUnit.reset with
    deglitch := if s.pins.confirmEye then .blocked else .clear
    jamTimer := if s.pins.confirmEye then some 0 else none }

/-- R160, R172: the own digest, the watchdog, and the entry to LISTENING. -/
def startStation (s : State) : State :=
  let w : WatchdogState := if s.policy.mode = .off then .off else .running
  enterListening (s.setPart { s.part with digest := some (hallDigest s), watchdog := w, watchdogTimer := 0 })

/-- GO (R183). -/
def execGo (s : State) : Host.Outcome State Fault Refusal :=
  .next (if s.part.state ≠ .start then answer s .refusedState
    else match configProblem s with
      | some (r, i) => respond s .configInvalid (packData [(8, r.code), (8, i)])
      | none => answer (startStation (startBlocks s)) .done)

end Sys2Proof.Machine
end

