-- ==== Sys2Proof/Machine/Reads.lean ====
section
/-! DEFINITION. The read commands and their data (R40, R41, R101, R126, R155, R156, R164, R174, R185 to R187). -/

namespace Sys2Proof.Machine

/-- A read answered with its items (R185). -/
def answerData (s : State) (items : List Item) : State := respond s .done (packData items)

/-! ### READ NOTICE (R186, R187) -/

/-- R187: the kind of a notice and its fields. -/
def Notice.items : Notice → List Item
  | .caseStaged a t st => [(4, 1), (16, a), (2, t.place.val), (4, t.tier), (5, t.line), (2, st.code)]
  | .casePlaceable a => [(4, 2), (16, a)]
  | .tierDone p t => [(4, 3), (2, p.val), (4, t)]
  | .palletDone p => [(4, 4), (2, p.val)]
  | .divertMissed k p => [(4, 5), (9, k), (2, p.val)]
  | .caseOrphaned a => [(4, 6), (16, a)]
  | .cancelDone p => [(4, 7), (2, p.val)]
  | .faultRaised c d => [(4, 8), (4, c), (2, d)]
  | .participation st => [(4, 9), (2, st.code)]
  | .loopStopped => [(4, 10)]
  | .loopRunning => [(4, 11)]

/-- READ NOTICE (R186, R187): the oldest notice leaves, and ATTN follows the queue. -/
def execReadNotice (s : State) : Host.Outcome State Fault Refusal :=
  .next (match s.port.notices with
    | [] => answer s .noSuch
    | n :: rest =>
      answerData (s.setPort { s.port with notices := rest, attn := !rest.isEmpty }) ((6, rest.length) :: n.items))

/-! ### READ PALLET and READ LINE (R40, R41) -/

/-- R40: the index in the build order list, 255 for a place not in it. -/
def buildPosition (s : State) (p : PlaceId) : Nat := ((s.plans.buildOrder.findIdx? (fun q => decide (q = p))).getD 255)

/-- R40, R185. -/
def palletItems (s : State) (p : PlaceId) : List Item :=
  let pl := s.place p
  [(3, pl.state.code), (32, (pl.orderRef.getD 0).toNat), (4, pl.tierCount.getD 0), (4, pl.currentTier.getD 0),
    (8, buildPosition s p), (6, pl.lineCount),
    (12, match pl.currentTier with
      | some t => tierNeed (pl.tier t)
      | none => 0)]

/-- READ PALLET (R40). -/
def execReadPallet (place : BitVec 8) (s : State) : Host.Outcome State Fault Refusal :=
  .next (match placeOf? place.toNat with
    | none => answer s .refusedRange
    | some p => answerData s (palletItems s p))

/-- R41, R185. -/
def Line.items (l : Line) : List Item :=
  [(24, l.case.article), (3, l.case.form.code), (8, l.quantity), (8, l.claimed), (8, l.staged), (8, l.placed)]

/-- R41. -/
def readLine (s : State) (place tier line : Nat) : State :=
  match placeOf? place with
  | none => answer s .refusedRange
  | some p =>
    if !within 1 12 tier || !within 1 16 line then answer s .refusedRange
    else match (s.place p).line? tier line with
      | some l => answerData s l.items
      | none => answer s .noSuch

/-- READ LINE (R41). -/
def execReadLine (place tier line : BitVec 8) (s : State) : Host.Outcome State Fault Refusal :=
  .next (readLine s place.toNat tier.toNat line.toNat)

/-! ### READ STAGING (R155, R156) -/

/-- R155, R185: one record at its list index. -/
def recordItems (s : State) (index : Nat) (r : StagingRecord) : List Item :=
  [(4, s.staging.records.length), (4, index), (16, r.arrival), (9, r.slot), (24, r.case.article),
    (3, r.case.form.code)] ++
  optItems r.target [2, 4, 5] (fun t => [(2, t.place.val), (4, t.tier), (5, t.line)]) ++
  [(2, r.state.code), (1, flagBit (r.isLookahead s))]

/-- The record at a list index, read. -/
def readRecord (s : State) (index : Nat) : State :=
  match s.staging.records[index]? with
  | some r => answerData s (recordItems s index r)
  | none => answer s .noSuch

/-- READ STAGING, BY ARRIVAL (R155). -/
def execReadStagingByArrival (value : BitVec 16) (s : State) : Host.Outcome State Fault Refusal :=
  .next (match s.staging.records.findIdx? (fun r => decide (r.arrival = value.toNat)) with
    | some i => readRecord s i
    | none => answer s .noSuch)

/-- READ STAGING, BY INDEX (R155). -/
def execReadStagingByIndex (value : BitVec 16) (s : State) : Host.Outcome State Fault Refusal :=
  .next (if 12 ≤ value.toNat then answer s .refusedRange else readRecord s value.toNat)

def recordsIn (s : State) (st : RecordState) : Nat := (s.staging.records.filter (fun r => decide (r.state = st))).length

/-- R156, R185. -/
def stagingItems (s : State) : List Item :=
  [(4, s.staging.records.length), (4, recordsIn s .waiting), (4, recordsIn s .placeable), (4, recordsIn s .suspect),
    (4, recordsIn s .orphan), (4, lookaheadRecords s), (16, s.staging.nextArrival), (16, s.staging.damaged),
    (16, s.staging.returned)]

/-- READ STAGING, SUMMARY (R156), and the refusal of a mode above 2 (R181). -/
def execReadStagingSummary (mode : BitVec 8) (s : State) : Host.Outcome State Fault Refusal :=
  .next (if 2 < mode.toNat then answer s .refusedRange else answerData s (stagingItems s))

/-! ### READ CLAIMS (R126) -/

/-- R126, R185. -/
def claimItems (s : State) (c : Claim) : List Item :=
  [(3, s.contest.claims.length), (9, c.slot), (2, c.target.place.val), (4, c.target.tier), (5, c.target.line),
    (2, c.urgency.code), (3, c.state.code)] ++
  optItems c.firePos [19] (fun f => [(19, f)]) ++
  [(19, if c.state = .firing then 0 else pulsesToFire s c.slot)] ++
  optItems c.pendingEnd [2] (fun e => [(2, e.code)]) ++
  [(1, flagBit c.late), (1, flagBit c.suspect)]

/-- READ CLAIMS (R126): an index in fire order. -/
def execReadClaims (index : BitVec 8) (s : State) : Host.Outcome State Fault Refusal :=
  .next (if 6 ≤ index.toNat then answer s .refusedRange
    else match (fireOrder s)[index.toNat]? with
      | some c => answerData s (claimItems s c)
      | none => answer s .noSuch)

/-! ### READ VIEW and READ ROSTER (R101, R164) -/

/-- R81: EMPTY, FREE, CLAIMED, DISPUTED. -/
def ViewEntry.code : ViewEntry → Nat
  | .empty => 0 | .free .. => 1 | .claimed .. => 2 | .disputed .. => 3

def ViewEntry.case? : ViewEntry → Option CaseId
  | .empty => none
  | .free c _ => c
  | .claimed c _ _ _ => c
  | .disputed c _ => some c

def ViewEntry.announcer? : ViewEntry → Option Station
  | .empty => none
  | .free _ a => a
  | .claimed _ a _ _ => a
  | .disputed _ a => a

def ViewEntry.claimant? : ViewEntry → Option (Station × PlaceId)
  | .claimed _ _ cl p => some (cl, p)
  | .empty | .free .. | .disputed .. => none

/-- R101: the slot position, absent while UNALIGNED. -/
def slotPosition? (s : State) (k : Nat) : Option Nat := if s.loop.aligned then some (slotPosition s k) else none

/-- R101, R185. -/
def viewItems (s : State) (k : Nat) : List Item :=
  let e := s.viewAt k
  [(2, e.code)] ++
  optItems e.case? [24, 3] (fun c => [(24, c.article), (3, c.form.code)]) ++
  optItems e.announcer? [4] (fun i => [(4, i.val)]) ++
  optItems e.claimant? [4, 2] (fun x => [(4, x.1.val), (2, x.2.val)]) ++
  optItems (slotPosition? s k) [19] (fun p => [(19, p)])

/-- READ VIEW (R101). -/
def execReadView (slot : BitVec 16) (s : State) : Host.Outcome State Fault Refusal :=
  .next (afterGo s (if s.slots ≤ slot.toNat then answer s .refusedRange else answerData s (viewItems s slot.toNat)))

/-- R164, R185. -/
def rosterItems (e : RosterEntry) : List Item :=
  [(2, e.state.code)] ++ optItems e.digest [16] (fun d => [(16, d)])

/-- READ ROSTER (R164). -/
def execReadRoster (id : BitVec 8) (s : State) : Host.Outcome State Fault Refusal :=
  .next (if h : id.toNat < 16 then answerData s (rosterItems s.part.roster[id.toNat]) else answer s .refusedRange)

/-! ### READ FAULTS (R174) -/

/-- R185: every entry's indication and condition flag, the latest INDEX_SLIP cause and the watchdog state. -/
def faultItems (s : State) : List Item :=
  (FaultId.all.map (fun f => [(1, flagBit (s.fault f).indication), (1, flagBit (s.fault f).condition)])).flatten ++
  [(2, (s.part.slipCause.map SlipCause.code).getD 0), (2, s.part.watchdog.code)]

/-- R174: the shown mark of each entry follows its indication. -/
def showEntry (s : State) (f : FaultId) : State :=
  setFault s f { s.fault f with shown := (s.fault f).indication }

def showFaults (s : State) : State := FaultId.all.foldl showEntry s

/-- READ FAULTS (R174). -/
def execReadFaults (s : State) : Host.Outcome State Fault Refusal := .next (answerData (showFaults s) (faultItems s))

end Sys2Proof.Machine
end

