-- ==== Sys2Proof/Machine/Counters.lean ====
section
/-! DEFINITION. The commands of the Counter Unit (R191). -/

namespace Sys2Proof.Machine

/-- R191, checks 3 and 4: the filter that a kind and a value name. -/
def filterOf (kind value : Nat) : Option Filter :=
  match kind with
  | 0 => if value = 0 then some .none else none
  | 1 => if h : value < 16 then some (.station ⟨value, h⟩) else none
  | 2 => if h : value < 4 then some (.place ⟨value, h⟩) else none
  | _ => none

/-- R191, check 5: the occupancy sums are selected on counter 0 alone, with filter NONE (R190). -/
def occupancyMisplaced (counter event : Nat) (f : Filter) : Bool :=
  (decide (event = 18) || decide (event = 19)) && (decide (counter ≠ 0) || decide (f ≠ .none))

/-- R191: an accepted selection zeroes the counter. -/
def selectCounter (s : State) (counter : Fin 4) (event : Nat) (f : Filter) : State :=
  s.setCounters (s.counters.set counter.val { value := 0, event := CounterEvent.ofCode event, filter := f } counter.isLt)

/-- R191: every check that fails refuses the command REFUSED_RANGE. -/
def setCounterChecked (s : State) (counter event kind value : Nat) : State :=
  match placeOf? counter, filterOf kind value with
  | some c, some f =>
    if 19 < event ∨ occupancyMisplaced counter event f = true then answer s .refusedRange
    else answer (selectCounter s c event f) .done
  | _, _ => answer s .refusedRange

/-- SET COUNTER (R191). -/
def execSetCounter (counter event filterKind filterValue : BitVec 8) (s : State) : Host.Outcome State Fault Refusal :=
  .next (setCounterChecked s counter.toNat event.toNat filterKind.toNat filterValue.toNat)

/-- R191: value, event code, filter kind and filter value. -/
def Counter.items (c : Counter) : List Item :=
  [(32, c.value), (8, (c.event.map CounterEvent.code).getD 0), (2, c.filter.kindCode), (4, c.filter.value)]

/-- READ COUNTER (R191). -/
def execReadCounter (counter : BitVec 8) (s : State) : Host.Outcome State Fault Refusal :=
  .next (if h : counter.toNat < 4 then answerData s s.counters[counter.toNat].items else answer s .refusedRange)

end Sys2Proof.Machine
end

