-- ==== Sys2Proof/Machine/Handling.lean ====
section
/-! DEFINITION. The handling of a frame: the tests, the roster, the view and the contest (R73 to R76, R81 to R95, R113 to R119, R123, R164, R165). -/

namespace Sys2Proof.Machine

/-! ### The tests (R75) -/

/-- The slot field of the five kinds that have one. -/
def Frame.slot? : Frame → Option Nat
  | .taken k _ _ => some k
  | .missed k _ => some k
  | .release k _ _ => some k
  | .claim _ _ _ k _ => some k
  | .announce k _ _ _ => some k
  | .join .. | .withdraw .. | .unknown _ => none

/-- R75: the contents are in range. -/
def Frame.inRange (slots : Nat) (f : Frame) : Bool :=
  f.slot?.all (fun k => decide (k < slots)) &&
    match f with
    | .announce _ _ _ form => (Form.ofCode form).isSome
    | _ => true

/-! ### The roster (R164, R165) -/

def State.rosterEntry (s : State) (i : Station) : RosterEntry := s.part.roster[i]

def setRoster (s : State) (i : Station) (e : RosterEntry) : State :=
  s.setPart { s.part with roster := s.part.roster.set i.val e i.isLt }

/-- R164: how a frame moves its sender's entry, against the own digest. -/
def rosterAfter (own : Option Nat) (e : RosterEntry) (f : Frame) : RosterEntry :=
  match f with
  | .join _ d => { state := if own = some d then .joined else .mismatched, digest := some d }
  | .withdraw _ _ =>
    match e.state with
    | .mismatched => e
    | .absent | .joined | .withdrawn => { e with state := .withdrawn }
  | .taken .. | .missed .. | .release .. | .claim .. | .announce .. | .unknown _ =>
    match e.state with
    | .absent => { e with state := .joined }
    | .joined | .withdrawn | .mismatched => e

/-- R164: the handled frame is taken into its sender's entry. -/
def updateRoster (s : State) (f : Frame) : State :=
  setRoster s f.sender (rosterAfter s.part.digest (s.rosterEntry f.sender) f)

/-- R165: a JOIN, by the sender's entry as it was before the frame. -/
def applyJoin (s : State) (before : RosterEntry) (digest : Nat) : State :=
  if s.part.digest = some digest then s
  else if s.part.state = .listening then raiseCfgMismatch s
  else if (s.fault .cfgMismatch).indication then s
  else if before.state = .mismatched ∧ before.digest = some digest then s
  else offerReplyJoin s

/-! ### The view (R85 to R94) -/

/-- R85 to R88. -/
def viewAnnounce (e : ViewEntry) (c : CaseId) (sender : Station) : ViewEntry :=
  match e with
  | .empty => .free (some c) (some sender)
  | .free none _ => .free (some c) (some sender)
  | .free (some d) a => if d = c then e else .disputed d a
  | .claimed none _ cl p => .claimed (some c) (some sender) cl p
  | .claimed (some d) a _ _ => if d = c then e else .disputed d a
  | .disputed _ _ => e

/-- R89 to R91. -/
def viewClaim (e : ViewEntry) (sender : Station) (p : PlaceId) : ViewEntry :=
  match e with
  | .empty => .claimed none none sender p
  | .free c a => .claimed c a sender p
  | .claimed .. | .disputed .. => e

/-- R92, R93. -/
def viewRelease (e : ViewEntry) (sender : Station) : ViewEntry :=
  match e with
  | .claimed c a cl _ => if cl = sender then .free c a else e
  | .empty | .free .. | .disputed .. => e

/-- R94. -/
def viewTaken (_ : ViewEntry) : ViewEntry := .empty

def ViewEntry.isDisputed : ViewEntry → Bool
  | .disputed .. => true
  | .empty | .free .. | .claimed .. => false

def ViewEntry.isFree : ViewEntry → Bool
  | .free .. => true
  | .empty | .claimed .. | .disputed .. => false

def ViewEntry.claimedBy (i : Station) : ViewEntry → Bool
  | .claimed _ _ cl _ => decide (cl = i)
  | .empty | .free .. | .disputed .. => false

/-! ### Causes of loss (R113, R117, R119) -/

/-- R113 for a QUEUED or SENDING entry, with the test for the end of cancellation (R39). -/
def lossCause (s : State) (k : Nat) : State := endAndTest s k .lost

/-- R113, R117: another station's TAKEN for a slot. -/
def othersTaken (s : State) (k : Nat) : State :=
  match s.claimAt k with
  | none => s
  | some c =>
    match c.state with
    | .queued | .sending => lossCause s k
    | .armed => cancelTest (leaveWithEnd s c .lost) c.target.place
    | .committed | .firing => s

/-- R119: the view entry of a slot is left DISPUTED. -/
def disputeClaim (s : State) (k : Nat) : State :=
  match s.claimAt k with
  | none => s
  | some c =>
    match c.state with
    | .queued | .sending => lossCause s k
    | .armed => cancelTest (leaveClaim s c) c.target.place
    | .committed | .firing => modifyClaim s k (fun d => { d with suspect := true })

/-! ### The own CLAIM (R115 to R117, R123) -/

/-- R123: an own CLAIM without an entry; its RELEASE takes over its frame place. -/
def orphanHandled (s : State) (k : Nat) (before : ViewEntry) : State :=
  let s1 := s.setContest { s.contest with orphans := s.contest.orphans.erase k }
  match before with
  | .empty | .free .. => offerFrame s1 (.release k .fault)
  | .claimed .. | .disputed .. => s1

/-- R115: the own CLAIM has lost. -/
def loseClaim (s : State) (c : Claim) : State :=
  match c.pendingEnd with
  | some .cancelled => leaveWithEnd s c .cancelled
  | some .withdrawn => leaveWithEnd s c .withdrawn
  | some .lost | some .expired | none => leaveWithEnd s c .lost

/-- R115, R116: the claim is won and given back. -/
def winAndRelease (s : State) (c : Claim) (r : ReleaseReason) : State :=
  offerFrame (leaveClaim (reportPlace s .claimWon c.target.place) c) (.release c.slot r)

/-- R117. -/
def armClaim (s : State) (c : Claim) : State :=
  modifyClaim (reportPlace s .claimWon c.target.place) c.slot
    (fun d => { d with state := .armed, firePos := some (firePosition s c.slot) })

/-- R115: late, by the late mark or by the pulses to fire. -/
def isLate (s : State) (c : Claim) : Bool :=
  c.late || decide (pulsesToFire s c.slot < s.timing.armLead)

/-- R115: the own CLAIM has met FREE, EMPTY or an entry claimed by this station. A pending end EXPIRED always goes
with the late mark; without it the row of R115 for EXPIRED is taken (log 25). -/
def winClaim (s : State) (c : Claim) (before : ViewEntry) : State :=
  match c.pendingEnd with
  | some .lost =>
    match before with
    | .empty => leaveWithEnd s c .lost
    | .free .. | .claimed .. | .disputed .. => offerFrame (leaveWithEnd s c .lost) (.release c.slot .lost)
  | some .cancelled => winAndRelease s c .cancelled
  | some .withdrawn => winAndRelease s c .withdrawn
  | some .expired => winAndRelease s c .late
  | none => if isLate s c then winAndRelease s c .late else armClaim s c

/-- R115: the win decision, from the entry before the frame. -/
def winDecision (s : State) (c : Claim) (before : ViewEntry) : State :=
  let lost :=
    match before with
    | .claimed _ _ cl _ => decide (cl ≠ s.ownId)
    | .disputed .. => true
    | .empty | .free .. => false
  cancelTest (if lost then loseClaim s c else winClaim s c before) c.target.place

/-- The handling of the station's own CLAIM by the Contest Unit. A CLAIM without an entry was sent before any entry
now held for its slot, and is met first (log 18). -/
def ownClaimHandled (s : State) (k : Nat) (before : ViewEntry) : State :=
  if k ∈ s.contest.orphans then orphanHandled s k before
  else match s.claimAt k with
    | some c => if c.state = .sending then winDecision s c before else s
    | none => s

/-! ### Application to the view and the contest (R76, R83, R84) -/

/-- R73: the waiting ANNOUNCE frames of a slot are tested again when its entry was changed. -/
def retestAnnounces (s : State) (k : Nat) (before : ViewEntry) : State :=
  if s.viewAt k = before then s
  else withdrawAnnounces s (fun f =>
    match f with
    | .announce j c => decide (j = k) && !announceWanted (s.viewAt k) c
    | _ => false)

/-- R104: the entry has become FREE, or a FREE entry has been filled in. -/
def markIfFreed (s : State) (k : Nat) (before : ViewEntry) : State :=
  if (s.viewAt k).isFree ∧ s.viewAt k ≠ before then markSearch s else s

def applyAnnounce (s : State) (k : Nat) (sender : Station) (c : CaseId) : State :=
  let before := s.viewAt k
  let s1 := setViewEntry s k (viewAnnounce before c sender)
  let s2 := if (s1.viewAt k).isDisputed then disputeClaim s1 k else s1
  retestAnnounces (markIfFreed s2 k before) k before

def applyClaim (s : State) (own : Bool) (k : Nat) (sender : Station) (p : PlaceId) : State :=
  let before := s.viewAt k
  let s1 := setViewEntry s k (viewClaim before sender p)
  let s2 := if own then ownClaimHandled s1 k before
    else match s1.claimAt k with
      | some c => if c.state = .queued ∨ c.state = .sending then lossCause s1 k else s1
      | none => s1
  retestAnnounces s2 k before

/-- RELEASE and MISSED (R92, R93). -/
def applyRelease (s : State) (k : Nat) (sender : Station) : State :=
  let before := s.viewAt k
  let s1 := setViewEntry s k (viewRelease before sender)
  retestAnnounces (markIfFreed s1 k before) k before

def applyTaken (s : State) (own : Bool) (k : Nat) : State :=
  let before := s.viewAt k
  let s1 := setViewEntry s k (viewTaken before)
  retestAnnounces (if own then s1 else othersTaken s1 k) k before

/-- R76: the Loop View and the Contest Unit take a frame of one of the five kinds. -/
def applyFrame (s : State) (own : Bool) (f : Frame) : State :=
  match f with
  | .taken k _ _ => applyTaken s own k
  | .missed k i => applyRelease s k i
  | .release k i _ => applyRelease s k i
  | .claim _ _ i k p => applyClaim s own k i p
  | .announce k i a form =>
    match Form.ofCode form with
    | some fm => applyAnnounce s k i ⟨a, fm⟩
    | none => s
  | .join .. | .withdraw .. | .unknown _ => s

/-- R76: a handled ANNOUNCE is reported, its sender's roster state aside (log 15). -/
def reportAnnounce (s : State) (f : Frame) : State :=
  match f with
  | .announce _ i _ _ => reportSender s .announceHeard i
  | _ => s

/-- R76, R84: a frame that passed the tests is dispatched, the roster first. -/
def dispatchFrame (s : State) (own : Bool) (f : Frame) : State :=
  let before := s.rosterEntry f.sender
  let s1 := updateRoster (reportAnnounce s f) f
  match f with
  | .join _ d => applyJoin s1 before d
  | _ => if (s1.rosterEntry f.sender).state = .mismatched then s1 else applyFrame s1 own f

/-- R75: the first test that fails discards the frame. -/
def handleFrame (s : State) (r : RxFrame) : State :=
  match r.frame with
  | .unknown d => reportSender s .unknownKind (Config.unknownKindSender d)
  | f =>
    if s.config.hall[f.sender].isNone then reportSender s .stranger f.sender
    else if r.own = false ∧ f.sender = s.ownId then reportSender s .stranger f.sender
    else if f.inRange s.slots = false then s
    else dispatchFrame s r.own f

/-- R74: the head of the receive queue leaves it, which lets a held own frame in (R68, log 26), and is handled. -/
def frameHandled (s : State) : State :=
  match s.line.rx with
  | r :: rest => runSearch (handleFrame (enterHeld (s.setLine { s.line with rx := rest })) r)
  | [] => s

/-- FRAME_HANDLED (R74). -/
def execFrameHandled (s : State) : Host.Outcome State Fault Refusal := .next (frameHandled s)

end Sys2Proof.Machine
end

