-- ==== Sys2Proof/Machine/Loop.lean ====
section
/-! DEFINITION. The Loop Tracker (R3 to R14, R18): pulses, the index mark, the induction passage, and the rows that name a forward pulse completing an interval. -/

namespace Sys2Proof.Machine

/-! ### The loop running flag (R14) -/

/-- R14: a pulse of either direction restarts the timer, and sets a stopped loop running with its notice. -/
def noteTravel (s : State) : State :=
  let s1 := s.setLoop { s.loop with running := true, stopTimer := some 0 }
  if s.loop.running then s1 else offerNotice s1 .loopRunning

/-! ### Passages (R18, R48, R73, R96) -/

/-- The induction passage of slot k: its view entry is dropped, its pending edges are lapped and its waiting ANNOUNCE
frames are withdrawn. -/
def inductionPassage (s : State) (k : Nat) : State :=
  withdrawAnnounces (lapEdges (setViewEntry s k .empty) k) (OutFrame.isAnnounceFor k)

/-! ### A forward pulse (R4) -/

/-- R4, R8: the counter's new value, and the mark awaited flag set where the index window is entered from below. -/
def countPulse (s : State) : State :=
  let c := (s.loop.counter + 1) % s.loopLen
  let enters := s.loop.aligned && decide (c + s.timing.tolerance = s.loopLen)
  s.setLoop { s.loop with counter := c, reverseTally := 0, markAwaited := s.loop.markAwaited || enters }

/-- R13: the counter has passed the whole index window and no mark came. -/
def checkMissing (s : State) : State :=
  if s.loop.aligned ∧ s.loop.markAwaited ∧ s.loop.counter = s.timing.tolerance + 1 then
    raiseSlip (s.setLoop { s.loop with markAwaited := false }) .missing
  else s

/-- R4, R18: a counter value that is a multiple of P, while ALIGNED. -/
def atBoundary (s : State) : Bool := s.loop.aligned && decide (s.loop.counter % s.pitch = 0)

/-- A position reached by a forward pulse, handed to the blocks (R4): the Gate Unit, the Divert Unit's first three
steps (R130), the tests of the Contest Unit (R114, R118), and the fire (R130, step 4). -/
def reachPosition (s : State) : State :=
  let s1 := divertPulse (gatePulse s)
  let s2 := if s1.loop.aligned then testClaims s1 else s1
  fireReached s2 (fun f => decide (f = s.loop.counter))

/-- The induction passage of the slot at the induction point, when there is one (R4, R18). -/
def passSlot (s : State) : State :=
  if atBoundary s then inductionPassage s (s.loop.counter / s.pitch) else s

/-- R190: the pitch boundary of the position reached, sampled last. -/
def sampleBoundary (s : State) : State := if atBoundary s then sampleOccupancy s else s

/-- A forward pulse as one event (R4, R6, R8, R13, R14, R130, R190). Orders that no rule fixes: log 7. -/
def forwardPulse (s : State) : State :=
  if s.started then
    sampleBoundary (runSearch (passSlot (reachPosition (checkMissing (countPulse (noteTravel s))))))
  else s

/-! ### A reverse pulse (R5) -/

def reversePulse (s : State) : State :=
  if s.started then
    let s1 := noteTravel s
    let n := s1.loop.reverseTally + 1
    if n < Config.reverseLimit then s1.setLoop { s1.loop with reverseTally := n }
    else runSearch (raiseImmediate (s1.setLoop { s1.loop with reverseTally := 0 }) .loopReverse)
  else s

/-! ### The index mark (R7 to R12, R161) -/

def realign (s : State) : State := s.setLoop { s.loop with counter := 0, markAwaited := false }

/-- R161: an accepted mark, counted while LISTENING; at the second the station becomes ACTIVE and searches. -/
def acceptMark (s : State) : State :=
  if s.part.state = .listening then
    let n := s.part.listeningMarks + 1
    let s1 := s.setPart { s.part with listeningMarks := n }
    if 2 ≤ n then markSearch (moveTo s1 .active) else s1
  else s

/-- R7. -/
def firstAlignment (s : State) : State :=
  acceptMark (s.setLoop { s.loop with counter := 0, aligned := true, markAwaited := false })

/-- R9, R17: the next position of a sweep counts as reached, so the claims are tested there as after a forward pulse
(R114, R118). -/
def sweepPosition (s : State) : State :=
  testClaims (s.setLoop { s.loop with counter := (s.loop.counter + 1) % s.loopLen })

/-- R9, R131: the positions after c up to L×P−1, and then 0, are swept: the one fire position among them fires, and the
claims are tested at each of them, the last time against counter 0, as the realignment leaves it (R17). Position 0 is
the induction passage of slot 0 (R18). -/
def forwardRealignment (s : State) : State :=
  let c := s.loop.counter
  let s1 := fireReached s (fun f => decide (c < f) || decide (f = 0))
  let s2 := (List.range (s.loopLen - c)).foldl (fun s _ => sweepPosition s) s1
  inductionPassage (realign s2) 0

/-- R10: no position is swept; the tests are made again (R17). -/
def backwardRealignment (s : State) : State := testClaims (realign s)

/-- R12: a mark outside the index window. -/
def slip (s : State) : State :=
  realign (raiseSlip s (if s.loop.counter + 1 ≤ s.loopLen / 2 then .late else .early))

/-- R8: whether the counter lies in the lower part, or in the upper part, of the index window. -/
def inUpperWindow (s : State) : Bool := decide (s.loopLen ≤ s.loop.counter + s.timing.tolerance)
def inLowerWindow (s : State) : Bool := decide (s.loop.counter ≤ s.timing.tolerance)

/-- R190: the pitch boundary of a forward realignment; none occurs while the loop is STOPPED (log 29). -/
def sampleRealignment (s : State) : State := if s.loop.running then sampleOccupancy s else s

/-- A rising edge of IDX, classified by R7 to R12. -/
def indexMark (s : State) : State :=
  if s.started then
    if s.loop.aligned = false then runSearch (firstAlignment s)
    else if inUpperWindow s then
      if s.loop.markAwaited then sampleRealignment (runSearch (acceptMark (forwardRealignment s))) else s
    else if inLowerWindow s then
      if s.loop.markAwaited then runSearch (acceptMark (backwardRealignment s)) else s
    else runSearch (slip s)
  else s

/-! ### The rows -/

/-- FORWARD_PULSE (R4). -/
def execForwardPulse (s : State) : Host.Outcome State Fault Refusal := .next (forwardPulse s)

/-- REVERSE_PULSE (R5). -/
def execReversePulse (s : State) : Host.Outcome State Fault Refusal := .next (reversePulse s)

/-- INDEX_MARK (R7 to R12). -/
def execIndexMark (s : State) : Host.Outcome State Fault Refusal := .next (indexMark s)

/-! Rows that name the forward pulse which completes an interval (log 1): where the next pulse completes it they are
that pulse, and elsewhere nothing of the kind can happen and they change nothing. -/

/-- R44, R45: the next forward pulse accepts the candidate. -/
def gateAcceptDue (s : State) : Bool :=
  match s.gate.deglitch with
  | .blocking _ _ count => s.started && decide (s.timing.gateDeglitch ≤ count + 1)
  | _ => false

/-- R44: the next forward pulse makes the gate deglitch CLEAR. -/
def gateClearDue (s : State) : Bool :=
  match s.gate.deglitch with
  | .clearing count => s.started && decide (s.timing.gateDeglitch ≤ count + 1)
  | _ => false

/-- R47: the next forward pulse expires a pending edge. -/
def edgeExpiryDue (s : State) : Bool :=
  s.started && s.gate.edges.any (fun e => decide (s.timing.scanWindow ≤ e.age + 1))

/-- R132: the next forward pulse ends the dwell. -/
def dwellEndDue (s : State) : Bool :=
  s.started && s.divert.fire.any (fun f => f.dwell.any (fun n => decide (s.timing.dwell ≤ n + 1)))

/-- R133: the next forward pulse accepts a confirm edge. -/
def confirmEdgeDue (s : State) : Bool :=
  match s.divert.deglitch with
  | .blocking count => s.started && decide (s.timing.confirmDeglitch ≤ count + 1)
  | _ => false

/-- R133: the next forward pulse makes the confirm deglitch CLEAR. -/
def confirmClearDue (s : State) : Bool :=
  match s.divert.deglitch with
  | .clearing count => s.started && decide (s.timing.confirmDeglitch ≤ count + 1)
  | _ => false

/-- R130, R135: the next forward pulse completes the window and accepts no confirm edge. -/
def windowMissDue (s : State) : Bool :=
  s.started && !confirmEdgeDue s &&
    s.divert.fire.any (fun f => f.window.any (fun n => decide (s.timing.confirmWindow ≤ n + 1)))

/-- GATE_EDGE_ACCEPTED (R45). -/
def execGateEdgeAccepted (s : State) : Host.Outcome State Fault Refusal :=
  .next (if gateAcceptDue s then forwardPulse s else s)

/-- GATE_CLEARED (R44). -/
def execGateCleared (s : State) : Host.Outcome State Fault Refusal :=
  .next (if gateClearDue s then forwardPulse s else s)

/-- EDGE_EXPIRED (R47). -/
def execEdgeExpired (s : State) : Host.Outcome State Fault Refusal :=
  .next (if edgeExpiryDue s then forwardPulse s else s)

/-- DWELL_END (R132). -/
def execDwellEnd (s : State) : Host.Outcome State Fault Refusal :=
  .next (if dwellEndDue s then forwardPulse s else s)

/-- WINDOW_CLOSED_MISSED (R135). -/
def execWindowClosedMissed (s : State) : Host.Outcome State Fault Refusal :=
  .next (if windowMissDue s then forwardPulse s else s)

/-- CONFIRM_EDGE (R134, R136). -/
def execConfirmEdge (s : State) : Host.Outcome State Fault Refusal :=
  .next (if confirmEdgeDue s then forwardPulse s else s)

/-- CONFIRM_CLEARED (R133). -/
def execConfirmCleared (s : State) : Host.Outcome State Fault Refusal :=
  .next (if confirmClearDue s then forwardPulse s else s)

end Sys2Proof.Machine
end

