-- ==== Sys2Proof/Machine/Dispatch.lean ====
section
/-! DEFINITION. One arm for each command: its effect on everything but the queue. -/

namespace Sys2Proof.Machine

/-- The meaning of a command. -/
def exec (i : Instr) (s : State) : Host.Outcome State Fault Refusal :=
  match i with
  | .powerOnReset => Sys2Proof.Machine.execPowerOnReset s
  | .forwardPulse => Sys2Proof.Machine.execForwardPulse s
  | .reversePulse => Sys2Proof.Machine.execReversePulse s
  | .indexMark => Sys2Proof.Machine.execIndexMark s
  | .loopStopped => Sys2Proof.Machine.execLoopStopped s
  | .gateEyeRise => Sys2Proof.Machine.execGateEyeRise s
  | .gateEyeFall => Sys2Proof.Machine.execGateEyeFall s
  | .gateEdgeAccepted => Sys2Proof.Machine.execGateEdgeAccepted s
  | .gateCleared => Sys2Proof.Machine.execGateCleared s
  | .edgeExpired => Sys2Proof.Machine.execEdgeExpired s
  | .scannerReport chars => Sys2Proof.Machine.execScannerReport chars s
  | .reportGapTimeout => Sys2Proof.Machine.execReportGapTimeout s
  | .lineFree => Sys2Proof.Machine.execLineFree s
  | .sendAttempt => Sys2Proof.Machine.execSendAttempt s
  | .arbitrationEnd read => Sys2Proof.Machine.execArbitrationEnd read s
  | .frameReceived bytes lengthError => Sys2Proof.Machine.execFrameReceived bytes lengthError s
  | .frameEnd accept refuse => Sys2Proof.Machine.execFrameEnd accept refuse s
  | .heldOwnFrameEnters => Sys2Proof.Machine.execHeldOwnFrameEnters s
  | .lineStuck => Sys2Proof.Machine.execLineStuck s
  | .lineStuckEnd => Sys2Proof.Machine.execLineStuckEnd s
  | .frameHandled => Sys2Proof.Machine.execFrameHandled s
  | .dwellEnd => Sys2Proof.Machine.execDwellEnd s
  | .windowClosedMissed => Sys2Proof.Machine.execWindowClosedMissed s
  | .confirmEyeRise => Sys2Proof.Machine.execConfirmEyeRise s
  | .confirmEyeFall => Sys2Proof.Machine.execConfirmEyeFall s
  | .confirmEdge => Sys2Proof.Machine.execConfirmEdge s
  | .confirmCleared => Sys2Proof.Machine.execConfirmCleared s
  | .divertJam => Sys2Proof.Machine.execDivertJam s
  | .placeReadyRise p => Sys2Proof.Machine.execPlaceReadyRise p s
  | .placeReadyFall p => Sys2Proof.Machine.execPlaceReadyFall p s
  | .placeReadyTimer p => Sys2Proof.Machine.execPlaceReadyTimer p s
  | .watchdogExpiry => Sys2Proof.Machine.execWatchdogExpiry s
  | .transactionStart => Sys2Proof.Machine.execTransactionStart s
  | .transactionIncomplete bits => Sys2Proof.Machine.execTransactionIncomplete bits s
  | .checkError frame => Sys2Proof.Machine.execCheckError frame s
  | .unknownCommand code => Sys2Proof.Machine.execUnknownCommand code s
  | .nop => Sys2Proof.Machine.execNop s
  | .keepalive => Sys2Proof.Machine.execKeepalive s
  | .clearFaults => Sys2Proof.Machine.execClearFaults s
  | .armWatchdog => Sys2Proof.Machine.execArmWatchdog s
  | .hallSize slots pitch => Sys2Proof.Machine.execHallSize slots pitch s
  | .stationEntry id gate divert => Sys2Proof.Machine.execStationEntry id gate divert s
  | .ownSetup id forms staging reserve => Sys2Proof.Machine.execOwnSetup id forms staging reserve s
  | .timing t => Sys2Proof.Machine.execTiming t s
  | .faultPolicy scope recovery mode lower upper => Sys2Proof.Machine.execFaultPolicy scope recovery mode lower upper s
  | .go => Sys2Proof.Machine.execGo s
  | .withdraw => Sys2Proof.Machine.execWithdraw s
  | .rejoin => Sys2Proof.Machine.execRejoin s
  | .restart => Sys2Proof.Machine.execRestart s
  | .openPlan place orderRef tierCount => Sys2Proof.Machine.execOpenPlan place orderRef tierCount s
  | .addLine tier article form quantity => Sys2Proof.Machine.execAddLine tier article form quantity s
  | .commitPlan => Sys2Proof.Machine.execCommitPlan s
  | .abandonPlan => Sys2Proof.Machine.execAbandonPlan s
  | .cancelPallet place => Sys2Proof.Machine.execCancelPallet place s
  | .releasePallet place => Sys2Proof.Machine.execReleasePallet place s
  | .placed arrival => Sys2Proof.Machine.execPlaced arrival s
  | .removeCase arrival reason => Sys2Proof.Machine.execRemoveCase arrival reason s
  | .acceptSuspect arrival => Sys2Proof.Machine.execAcceptSuspect arrival s
  | .readNotice => Sys2Proof.Machine.execReadNotice s
  | .readPallet place => Sys2Proof.Machine.execReadPallet place s
  | .readLine place tier line => Sys2Proof.Machine.execReadLine place tier line s
  | .readStagingByArrival value => Sys2Proof.Machine.execReadStagingByArrival value s
  | .readStagingByIndex value => Sys2Proof.Machine.execReadStagingByIndex value s
  | .readStagingSummary mode => Sys2Proof.Machine.execReadStagingSummary mode s
  | .readClaims index => Sys2Proof.Machine.execReadClaims index s
  | .readView slot => Sys2Proof.Machine.execReadView slot s
  | .readRoster id => Sys2Proof.Machine.execReadRoster id s
  | .readFaults => Sys2Proof.Machine.execReadFaults s
  | .setCounter counter event filterKind filterValue => Sys2Proof.Machine.execSetCounter counter event filterKind filterValue s
  | .readCounter counter => Sys2Proof.Machine.execReadCounter counter s
  | .startBitBegins => Sys2Proof.Machine.execStartBitBegins s
  | .scannerCharacter c => Sys2Proof.Machine.execScannerCharacter c s

end Sys2Proof.Machine
end

