-- ==== Sys2Proof/Machine/Step.lean ====
section
/-! DEFINITION. One step of the block: the command at the front of the queue, or one millisecond when none waits. -/

namespace Sys2Proof.Machine

/-- Take the command at the front of the queue and run it; with none waiting one millisecond passes (log 3). -/
def step (s : State) : Host.Outcome State Fault Refusal :=
  match s.pending with
  | c :: rest => exec c (s.setPending rest)
  | [] => .next (tick s)

/-- The state with a command put at the front of its queue. -/
def State.withCommand (s : State) (c : Instr) : State := s.setPending (c :: s.pending)

/-- The state with the command that a word of the table spells in front; no row of the table gives bits (log 27). -/
def State.withFetchWord (s : State) (nbits w : Nat) : State :=
  match decodeTableWord nbits w with
  | some c => s.withCommand c
  | none => s

/-- The rise of CPSEL ends the transaction in progress: the row that its bits stand for comes to the front (R176, R178). -/
def State.endTransaction (s : State) : State :=
  match s.port.transaction with
  | some t => s.withCommand (decodeTransaction t.received)
  | none => s

/-- The state with the command that one transaction of the cell port stands for in front (R176, R178, R181). -/
def State.withCommandFrame (s : State) (frame : List Byte) : State := s.withCommand (decodeCommandFrame frame)

end Sys2Proof.Machine
end

