-- ==== Sys2Proof/Safety.lean ====
section
/-! DEFINITION. The laws that every step of the part keeps: in START every block stands at its reset state, and after GO each block keeps its bounds. -/

namespace Sys2Proof.Safety

open Sys2Proof.Machine

/-- R5, R4: the reverse tally stays below 8, and the counter inside the loop. -/
def loopLaw (loopLen : Nat) (l : LoopTracker) : Prop := l.counter < loopLen ∧ l.reverseTally < Config.reverseLimit

/-- R42, R46, R49: at most four pending edges, and at most five characters of a report in progress. -/
def gateLaw (g : GateUnit) : Prop := g.edges.length ≤ Config.edgeCapacity ∧ g.report.length < Config.reportLength

/-- R74, R78, R57: at most 8 frames received, fewer than 8 check errors in a row, and a stuck timer of at most 2 ms. -/
def lineLaw (l : HallLine) : Prop :=
  l.rx.length ≤ Config.rxCapacity ∧ l.checkErrors < Config.checkErrorLimit ∧
    ∀ n, l.stuckTimer = some n → n ≤ Config.stuckLimit

/-- R31, R21, R19: the build order list holds exactly the places in BUILDING or SUSPENDED, each once, the plan loader is
open for a place exactly while it is LOADING, and only a place in BUILDING or SUSPENDED has a current tier. -/
structure planLaw (p : PlanStore) : Prop where
  once : p.buildOrder.Nodup
  building : ∀ q : PlaceId, q ∈ p.buildOrder ↔ (p.places[q].state = .building ∨ p.places[q].state = .suspended)
  loading : ∀ q : PlaceId, p.loader = some q ↔ p.places[q].state = .loading
  tier : ∀ q : PlaceId, p.places[q].currentTier.isSome = true →
    (p.places[q].state = .building ∨ p.places[q].state = .suspended)

/-- R102, R103, R107: at most 6 claims and never two for one slot, every claim for a slot of the loop, and records and
entries together never above S. -/
structure tableLaw (slots size : Nat) (claims : List Claim) (records : List StagingRecord) : Prop where
  bound : claims.length ≤ Config.framePlaceLimit
  once : (claims.map (·.slot)).Nodup
  onLoop : ∀ c ∈ claims, c.slot < slots
  room : records.length + claims.length ≤ size

/-- R143, R144: no two records carry one arrival number, and the counter holds a number that no record carries. -/
structure arrivalLaw (t : StagingTable) : Prop where
  once : (t.records.map (·.arrival)).Nodup
  fresh : t.nextArrival ∉ t.records.map (·.arrival)
  width : t.nextArrival < 65536

/-- R132: the divert output is on only during the dwell of a fire. -/
def outputLaw (d : DivertUnit) : Prop := d.output = true → ∃ f, d.fire = some f ∧ f.dwell.isSome = true

/-- R186: at most 32 notices, and ATTN active exactly while one is held. -/
def noticeLaw (p : CellPort) : Prop := p.notices.length ≤ Config.noticeCapacity ∧ p.attn = !p.notices.isEmpty

/-- R188: no counter passes 4,294,967,295. -/
def counterLaw (cs : Vector Counter 4) : Prop := ∀ i : Fin 4, cs[i].value ≤ Config.counterMax

/-- In START (R3, R19, R42, R57, R82, R102, R127, R143, R159, R186) every block but the Counter Unit and the
configuration stands at its reset state; the Cell Port goes on answering. -/
structure Idle (s : State) : Prop where
  lane : s.stagingSize ≤ 12
  loop : s.loop = LoopTracker.reset
  gate : s.gate = GateUnit.reset
  line : s.line = HallLine.reset
  view : s.view = []
  plans : s.plans = PlanStore.reset
  contest : s.contest = ContestUnit.reset
  divert : s.divert = DivertUnit.reset
  staging : s.staging = StagingTable.reset
  part : s.part = FaultUnit.reset
  notices : s.port.notices = []
  attn : s.port.attn = false
  counters : counterLaw s.counters

/-- After GO: the laws of the blocks, over a loop that has a length, a staging lane of at most 12 and a view of one
entry for each slot (R82). -/
structure Running (s : State) : Prop where
  started : s.part.state ≠ .start
  loopPos : 0 < s.loopLen
  lane : s.stagingSize ≤ 12
  loop : loopLaw s.loopLen s.loop
  gate : gateLaw s.gate
  line : lineLaw s.line
  view : s.view.length = s.slots
  plans : planLaw s.plans
  tables : tableLaw s.slots s.stagingSize s.contest.claims s.staging.records
  arrivals : arrivalLaw s.staging
  output : outputLaw s.divert
  notices : noticeLaw s.port
  counters : counterLaw s.counters

/-- Own CLAIM frames for a slot on their way: handled next or later, held, or being sent (R67, R68, R74). -/
def ownClaims (s : State) (k : Nat) : Nat :=
  let isClaim := fun f : Frame => match f with
    | .claim _ _ _ j _ => decide (j = k)
    | _ => false
  (s.line.rx.filter (fun r => r.own && isClaim r.frame)).length + (s.line.held.toList.filter isClaim).length +
    (s.line.tx.filter (fun x => x.sending && x.frame.isClaimFor k)).length

/-- The slot of a CLAIM frame that is WAITING with its entry. -/
def waitingClaim (x : TxFrame) : Option Nat :=
  match x.frame with
  | .claim _ k _ => if x.sending || x.orphaned then none else some k
  | _ => none

/-- R62, R69 to R72, R103, R110 to R112, R123: the transmit queue within its bounds, its frames and the claim table in
step, and the frame places. At most one frame is SENDING or in an attempt, the attempt is that of the frame in it, the
CLAIM frames WAITING with an entry are those of the QUEUED entries, a CLAIM without an entry that is not SENDING is in an
attempt, and the own CLAIM frames on their way are those of SENDING entries and of the held slots. -/
structure QueueLaw (s : State) : Prop where
  bound : s.line.tx.length ≤ Config.txCapacity
  announces : (s.line.tx.filter (·.frame.isAnnounce)).length ≤ Config.announceCapacity
  participation : (s.line.tx.filter (fun x => x.frame.isParticipation && x.idle)).length ≤ 1
  places : framePlaces s ≤ Config.framePlaceLimit
  one : (s.line.tx.filter (fun x => !x.idle)).length ≤ 1
  rest : s.line.attempt = none → ∀ x ∈ s.line.tx, x.inAttempt = false
  driven : ∀ a, s.line.attempt = some a → ∃ x ∈ s.line.tx, x.inAttempt = true ∧ (a.won = true → x.sending = true) ∧
    ∃ d, a.sent = x.frame.onLine s.ownId d
  queued : (s.line.tx.filterMap waitingClaim).Perm
    ((s.contest.claims.filter (fun c => decide (c.state = .queued))).map (·.slot))
  orphaned : ∀ x ∈ s.line.tx, x.orphaned = true → x.sending = false →
    x.inAttempt = true ∧ x.withdrawAsked = true ∧ ∃ k, x.frame.isClaimFor k = true
  sent : ∀ k, ownClaims s k ≤ s.contest.orphans.count k +
    (s.contest.claims.filter (fun c => decide (c.slot = k) && decide (c.state = .sending))).length

/-- R19, R21, R24, R32: the tiers of a place by its state. -/
structure TierLaw (pl : Place) : Prop where
  loading : pl.state = .loading → pl.tiers.length ≤ Config.maxTiers ∧ ∃ n, pl.tierCount = some n ∧ 1 ≤ n
  building : pl.state = .building ∨ pl.state = .suspended → ∃ t n, pl.currentTier = some t ∧ pl.tierCount = some n ∧
    1 ≤ t ∧ t ≤ n ∧ (∀ u, 1 ≤ u → u < t → tierFinished (pl.tier u) = true) ∧ ∀ u, n < u → pl.tier u = []

/-- R26 to R29, R39: on every line the claimed count is the number of claims for it, the staged count the number of records
for it, and the counts never exceed its quantity; a claim is for a line of a place BUILDING, SUSPENDED or CANCELLING, and
a record with a target for one of a place BUILDING or SUSPENDED; a place is CANCELLING only while a claim targets it. -/
structure CountLaw (s : State) : Prop where
  lines : ∀ (g : Target) (l : Line), 1 ≤ g.tier → 1 ≤ g.line → s.lineAt g = some l →
    l.claimed = (s.contest.claims.filter (fun c => decide (c.target = g))).length ∧
    l.staged = (s.staging.records.filter (fun r => decide (r.target = some g))).length ∧
    l.claimed + l.staged + l.placed ≤ l.quantity
  claims : ∀ c ∈ s.contest.claims, 1 ≤ c.target.tier ∧ 1 ≤ c.target.line ∧ (s.lineAt c.target).isSome = true ∧
    ((s.place c.target.place).state = .building ∨ (s.place c.target.place).state = .suspended ∨
      (s.place c.target.place).state = .cancelling)
  records : ∀ r ∈ s.staging.records, ∀ g, r.target = some g → 1 ≤ g.tier ∧ 1 ≤ g.line ∧ (s.lineAt g).isSome = true ∧
    ((s.place g.place).state = .building ∨ (s.place g.place).state = .suspended)
  tiers : ∀ p, TierLaw (s.place p)
  cancelling : ∀ p, (s.place p).state = .cancelling → ∃ c ∈ s.contest.claims, c.target.place = p

/-- The part is in START with every block at rest, or it runs within its laws, with no search left over from an event
(log 8). -/
def Safe (s : State) : Prop := (s.part.state = .start ∧ Idle s) ∨ (Running s ∧ s.contest.searchDue = false)

/-- A counter that counts an event for a place: by its filter, or without one (R188). -/
def countsAt (s : State) (i : Fin 4) (e : CounterEvent) (p : PlaceId) : Prop :=
  s.counters[i].event = some e ∧ (s.counters[i].filter = .none ∨ s.counters[i].filter = .place p)

/-- A report of an event for a place was counted once between two states (R188). -/
def CountedOnce (s t : State) (e : CounterEvent) (p : PlaceId) : Prop :=
  ∀ i : Fin 4, countsAt s i e p → t.counters[i].value = min (s.counters[i].value + 1) 4294967295

/-- The number of claims for a line. -/
def claimsOn (s : State) (g : Target) : Nat := (s.contest.claims.filter (fun x => decide (x.target = g))).length

/-- A CLAIM frame as a search queues it: with its entry, WAITING and outside an attempt (R110). -/
def newClaimFrame (y : TxFrame) : Prop := ∃ u k p, y = ⟨.claim u k p, false, false, false, false⟩

/-- R15, R17: the position of slot k against a counter value c, whether it is reachable then, and its pulses to fire. -/
def positionAt (s : State) (c k : Nat) : Nat := posMod ((c : Int) - (k * s.pitch : Nat)) s.loopLen

def nearAt (s : State) (c k : Nat) : Bool :=
  decide (positionAt s c k < s.divertPos) && decide (s.timing.armLead ≤ s.divertPos - positionAt s c k)

def pulsesAt (s : State) (c k : Nat) : Nat := posMod ((s.divertPos : Int) - positionAt s c k) s.loopLen

/-- R9: the counter values that a forward realignment sweeps: those after the counter up to L×P − 1, and then 0. -/
def sweptValues (s : State) : List Nat :=
  (List.range (s.loopLen - 1 - s.loop.counter)).map (fun i => s.loop.counter + 1 + i) ++ [0]

/-- R167: what an immediate withdrawal with a fault's code leaves behind of a state s: the station WITHDRAWN, the divert
off with no fire, no claim, an empty view, and a WITHDRAW with the code queued; the records and the configuration stay.
R123: RELEASE(FAULT) for each claim ARMED or COMMITTED, MISSED for a FIRING one, the frame of a QUEUED one gone or left in
its attempt without an entry, and the slot of a SENDING one among the own CLAIM frames without an entry. R141: an open
window is one MISSED, with its notice where the queue has room. -/
structure WithdrawnAtOnce (s t : State) (code : Nat) : Prop where
  state : t.part.state = .withdrawn
  output : t.divert.output = false
  fire : t.divert.fire = none
  claims : t.contest.claims = []
  view : t.view = s.view.map (fun _ => .empty)
  frame : ∃ x ∈ t.line.tx, x.frame = .withdraw code
  staging : t.staging = s.staging
  config : t.config = s.config
  pins : t.pins = s.pins
  pending : t.pending = s.pending
  released : ∀ k c, s.claimAt k = some c → c.state = .armed ∨ c.state = .committed →
    ∃ x ∈ t.line.tx, x.frame = .release k .fault
  missed : ∀ k c, s.claimAt k = some c → c.state = .firing → ∃ x ∈ t.line.tx, x.frame = .missed k
  queued : ∀ k c, s.claimAt k = some c → c.state = .queued → ∀ x ∈ t.line.tx, x.frame.isClaimFor k = true →
    x.sending = true ∨ (x.inAttempt = true ∧ x.withdrawAsked = true ∧ x.orphaned = true)
  orphans : ∀ k, t.contest.orphans.count k = s.contest.orphans.count k +
    if (s.claimAt k).map (·.state) = some .sending then 1 else 0
  window : ∀ f n, s.divert.fire = some f → f.window = some n → CountedOnce s t .missed f.place ∧
    (s.port.notices.length + 4 ≤ 32 → .divertMissed f.slot f.place ∈ t.port.notices)

/-- R17, R114, R118: what the tests against the counter values cs make of the entry x of slot k, which has not fired: late
and EXPIRED where it is not reachable at one of them (the entry leaves where its frame waits outside an attempt, counted
CLAIM_EXPIRED unless an earlier end is recorded), COMMITTED where it is below the arm lead at one. -/
structure TestedAt (s t : State) (cs : List Nat) (k : Nat) (x : Claim) : Prop where
  sending : x.state = .sending →
    t.claimAt k = some (if cs.all (fun c => nearAt s c k) then x else { x with late := true })
  near : x.state = .queued → (∀ c ∈ cs, nearAt s c k = true) → t.claimAt k = some x
  kept : x.state = .queued → (∃ c ∈ cs, nearAt s c k = false) → (∀ y ∈ s.line.tx, y.frame.isClaimFor k = true → y.idle = false) →
    t.claimAt k = some { x with late := true, pendingEnd := some (x.pendingEnd.getD .expired) }
  left : x.state = .queued → (∃ c ∈ cs, nearAt s c k = false) → (∃ y ∈ s.line.tx, y.frame.isClaimFor k = true ∧ y.idle = true) →
    t.claimAt k = none ∧ (x.pendingEnd = none → ∀ i : Fin 4, countsAt s i .claimExpired x.target.place →
      min (s.counters[i].value + 1) 4294967295 ≤ t.counters[i].value)
  armed : x.state = .armed →
    t.claimAt k = some (if ∃ c ∈ cs, pulsesAt s c k < s.timing.armLead then { x with state := .committed } else x)
  committed : x.state = .committed → t.claimAt k = some x

/-- The blocks that an event of the hall line, a claim or a staged case never touches: the configuration, the inputs, the
Loop Tracker, the Gate Unit and the waiting commands. -/
structure BeltKept (s t : State) : Prop where
  config : t.config = s.config
  pins : t.pins = s.pins
  loop : t.loop = s.loop
  gate : t.gate = s.gate
  pending : t.pending = s.pending

/-- The command is answered with a result, and leaves t but for its response and the end of its transaction (R176). What
data a response without items carries is left open here (log 20). -/
def Answers (c : Instr) (s t : State) (r : Result) : Prop := ∃ d, exec c s = .next (respond t r d)

/-- The commands that reset the part (R159, R184). -/
def resets : Instr → Bool
  | .powerOnReset | .restart => true
  | _ => false

/-- The events that move a level of an input (R44, R133, R169). -/
def movesInput : Instr → Bool
  | .gateEyeRise | .gateEyeFall | .confirmEyeRise | .confirmEyeFall | .placeReadyRise _ | .placeReadyFall _ => true
  | _ => false

/-- The pending edges as the next forward pulse leaves them: each one older, the expired ones gone (R47). -/
def agedEdges (s : State) : List PendingEdge :=
  (s.gate.edges.map (fun e => { e with age := e.age + 1 })).filter (fun e => decide (e.age < s.timing.scanWindow))

/-- An edge but for its lapped mark, which the induction passage of its slot sets (R48). -/
def edgeId (e : PendingEdge) : Nat × Nat × Nat := (e.captured, e.slot, e.age)

end Sys2Proof.Safety
end

