-- ==== Sys2Proof/Certificates/Slice0/Obligations.lean ====
section
/-! DEFINITION. The statements about the part, rule by rule: its step and invariants, the cell port, the plans, the lane, the belt, the hall line and the contest. -/

open Sys2Proof Sys2Proof.Machine Sys2Proof.Safety

/-! ### The step and the whole machine -/

/-- For every command and state, a step of the state with the command at the front of its queue is the command's meaning
on the state with the rest of the queue. -/
def Obligations.StepRunsFrontCommand : Prop :=
  ∀ (c : Instr) (s : State) (q : List Instr),
    (s.pending = c :: q → step s = exec c (s.setPending q)) ∧ step (s.withCommand c) = exec c s

/-- The loop-stopped timer. The row LOOP_STOPPED is its reaching the stop time (log 2): the loop running flag becomes STOPPED,
the timer halts and a LOOP_STOPPED notice is queued, and the counter, the alignment, the hall line but for its stuck timer, the
participation state and the fault record (the notice queue having room) stand; with the timer halted the row changes nothing (log 4). A step on an empty queue is
the model's own choice (log 3): at rest in START it changes nothing, and in a part whose loop-stopped timer is the one running
interval it is one millisecond, the timer rising by one or reaching the stop time with the effect above. -/
def Obligations.LoopStoppedTimer : Prop :=
  ∀ s : State,
    (s.loop.stopTimer = none → exec .loopStopped s = .next s) ∧
    (∀ n, s.loop.stopTimer = some n → ∃ t, exec .loopStopped s = .next t ∧
      t.loop = { s.loop with running := false, stopTimer := none } ∧ t.config = s.config ∧ t.pins = s.pins ∧
      t.line = { s.line with stuckTimer := t.line.stuckTimer } ∧ t.view = s.view ∧ t.plans = s.plans ∧
      t.contest = s.contest ∧ t.staging = s.staging ∧ t.part.state = s.part.state ∧ t.counters = s.counters ∧
      t.pending = s.pending ∧
      (s.port.notices.length < 32 → t.port = { s.port with notices := s.port.notices ++ [.loopStopped], attn := true } ∧
        t.part.faults = s.part.faults)) ∧
    (s.pending = [] → (Idle s → step s = .next s) ∧
      ∀ n, s.loop.stopTimer = some n → s.gate.report = [] → s.divert.jamTimer = none → s.line.stuckTimer = none →
        (∀ p : Fin 4, s.part.watches[p].state ≠ .dropping ∧ s.part.watches[p].state ≠ .rising) →
        s.part.watchdog ≠ .running → s.contest.searchDue = false →
        (n + 1 < s.timing.stopTime → step s = .next (s.setLoop { s.loop with stopTimer := some (n + 1) })) ∧
        (n + 1 = s.timing.stopTime →
          step s = .next (offerNotice (s.setLoop { s.loop with running := false, stopTimer := none }) .loopStopped)))

/-- From every state that is safe (at rest in START, or started, within the laws of R4, R5, R21, R31, R42, R46, R49, R74,
R78, R79, R82, R102, R103, R107, R132, R143, R144, R186 and R188 that Safety.Running gathers, and with no search left over
from an event, the model's own mark of log 8) every step answers a next state, and that state is safe. -/
def Obligations.EveryStepKeepsSafe : Prop :=
  ∀ s : State, Safe s → ∃ t, step s = .next t ∧ Safe t

/-- Every step keeps the books of a safe state: at most 12 frames in the transmit queue, of them 5 ANNOUNCE and one JOIN or WITHDRAW
WAITING outside an attempt, at most 6 frame places in use, at most one frame SENDING or in an attempt, and the CLAIM frames in step
with the claim table (QueueLaw); on every line claimed is the number of its claims and staged that of its records, claimed + staged
+ placed never passes the quantity, the tiers before the current one are finished, and a place is CANCELLING only while a claim
targets it (CountLaw). -/
def Obligations.EveryStepKeepsQueuesAndCounts : Prop :=
  ∀ s : State, Safe s → QueueLaw s → CountLaw s → ∃ t, step s = .next t ∧ QueueLaw t ∧ CountLaw t

/-- The state after reset is safe and keeps the laws of its queues and counts, whatever commands wait. -/
def Obligations.ResetIsSafe : Prop :=
  ∀ q : List Instr, Safe (State.reset.setPending q) ∧ QueueLaw (State.reset.setPending q) ∧
    CountLaw (State.reset.setPending q) ∧ State.reset.pending = []

/-- No command touches the commands that wait behind it, and no command but the rises and falls of the eyes and of the
place-ready inputs moves the level of an input. -/
def Obligations.CommandsKeepQueueAndInputs : Prop :=
  ∀ (c : Instr) (s t : State), exec c s = .next t →
    t.pending = s.pending ∧ (movesInput c = false → t.pins = s.pins)

/-- What only a reset undoes: through every other command of a started part the configuration stands, the station does not
return to START, an ALIGNED loop stays ALIGNED (slips and withdrawals included), and CFG_MISMATCH, once raised, keeps its
indication and its condition flag. -/
def Obligations.OnlyResetsUndo : Prop :=
  ∀ (c : Instr) (s t : State), s.part.state ≠ .start → resets c = false → exec c s = .next t →
    t.config = s.config ∧ t.part.state ≠ .start ∧ (s.loop.aligned = true → t.loop.aligned = true) ∧
    ((s.fault .cfgMismatch).indication = true → (s.fault .cfgMismatch).condition = true →
      (t.fault .cfgMismatch).indication = true ∧ (t.fault .cfgMismatch).condition = true)

/-- Claims are made only while ACTIVE: a command after which the station is not ACTIVE leaves no slot with a claim that
had none before. -/
def Obligations.ClaimsMadeOnlyWhileActive : Prop :=
  ∀ (c : Instr) (s t : State), exec c s = .next t → t.part.state ≠ .active →
    ∀ k, (t.claimAt k).isSome = true → (s.claimAt k).isSome = true

/-- No counter falls, none passes its limit, and each keeps its event and its filter, through any command but SET COUNTER and
power-on; RESTART keeps every counter whole. -/
def Obligations.CountersOnlyRise : Prop :=
  ∀ (c : Instr) (s t : State), counterLaw s.counters → c ≠ .powerOnReset →
    (∀ a b d e, c ≠ .setCounter a b d e) → exec c s = .next t →
    ∀ i : Fin 4, s.counters[i].value ≤ t.counters[i].value ∧ t.counters[i].value ≤ Config.counterMax ∧
      t.counters[i].event = s.counters[i].event ∧ t.counters[i].filter = s.counters[i].filter ∧
      (c = .restart → t.counters = s.counters)

/-! ### The resets and the cell port's transactions -/

/-- NOP is answered DONE (with data 0: log 20) in every state and has no other effect. RESTART and power-on are taken in every state and leave the
values that the reset rules give. The levels of the inputs
and the waiting commands are not the part's (log 5); the command decoder at rest is the model's choice (log 23). The
counters stand through RESTART and are zeroed by power-on. -/
def Obligations.NopAndResets : Prop :=
  (∀ s : State, exec .nop s = .next (s.setPort { s.port with transaction := none, response := ⟨.done, 0⟩ })) ∧
  ∀ (c : Instr) (s : State), resets c = true → ∃ t, exec c s = .next t ∧
    t.loop = ⟨0, false, false, 0, true, none⟩ ∧ t.gate = ⟨.clear, [], [], 0⟩ ∧
    (t.line.state = .off ∧ t.line.recessiveRun = 0 ∧ t.line.stuck = false ∧ t.line.stuckTimer = none ∧ t.line.tx = [] ∧
      t.line.repeatCount = 0 ∧ t.line.rx = [] ∧ t.line.held = none ∧ t.line.checkErrors = 0 ∧ t.line.attempt = none ∧
      t.line.answer = none) ∧
    t.view = [] ∧ t.plans.buildOrder = [] ∧ t.plans.loader = none ∧ (∀ p, t.place p = ⟨.empty, none, none, none, []⟩) ∧
    t.contest.claims = [] ∧ t.contest.orphans = [] ∧ t.divert = ⟨false, none, .clear, none, false⟩ ∧
    t.staging = ⟨[], 0, 0, 0⟩ ∧
    (t.part.state = .start ∧ t.part.listeningMarks = 0 ∧ t.part.digest = none ∧ t.part.slipCause = none ∧
      t.part.watchdog = .off ∧ (∀ i, t.rosterEntry i = ⟨.absent, none⟩) ∧ (∀ f, t.fault f = ⟨false, false, false⟩) ∧
      ∀ p, t.watch p = ⟨.unwatched, 0⟩) ∧
    t.port = ⟨none, ⟨.none, 0⟩, [], false⟩ ∧
    (t.config.hallSize = none ∧ t.config.own = none ∧ t.config.timing = none ∧ t.config.policy = none ∧
      ∀ i : Fin 16, t.config.hall[i] = none) ∧
    t.pins = s.pins ∧ t.pending = s.pending ∧
    (c = .restart → t.counters = s.counters) ∧
    (c = .powerOnReset → ∀ i : Fin 4, t.counters[i] = ⟨0, none, .none⟩)

/-- The fall of CPSEL takes the response frame of sixteen bytes into transmission, no bit clocked yet, and changes nothing else.
Bytes 0 to 3 carry the status summary and the result code, bytes 4 to 14 the data of the pending response, and byte 15 makes the
sum of all sixteen 255 mod 256. During the transaction each period of CPCLK takes one bit from CPIN and drives one on CPOUT: the
frame's bits, from the most significant of its first byte, and 1 after the sixteenth byte; the frame and everything else stand. The
rise of CPSEL stands for the row of the bits received: TRANSACTION_INCOMPLETE unless they are 128, and the row of the frame whose
sixteen bytes they spell. Outside a transaction the edges change nothing and CPOUT is not driven. The edges have no row: log 32. -/
def Obligations.TransactionStartShowsStatus : Prop :=
  (∀ (s : State) (bits : List Bool),
    (s.port.transaction = none → bits.foldl clockBit s = s ∧ s.cpout = none ∧ s.endTransaction = s) ∧
    ∀ r, s.port.transaction = some r →
      bits.foldl clockBit s = s.setPort { s.port with transaction := some { r with
        received := r.received ++ bits
        driven := r.driven + bits.length } } ∧
      (∀ n, r.driven = n + 1 → (n < 8 * r.frame.length → s.cpout = some ((r.frame.getD (n / 8) 0).getMsbD (n % 8))) ∧
        (8 * r.frame.length ≤ n → s.cpout = some true)) ∧
      (r.received.length ≠ 128 → s.endTransaction = s.withCommand (.transactionIncomplete r.received.length)) ∧
      ∀ f : List Byte, f.length = 16 → r.received = f.flatMap (fun b => (List.range 8).map b.getMsbD) →
        s.endTransaction = s.withCommandFrame f) ∧
  ∀ s : State, s.port.notices.length ≤ 32 → s.staging.records.length ≤ 12 → ∃ f : List Byte,
    exec .transactionStart s = .next (s.setPort { s.port with transaction := some ⟨f, [], 0⟩ }) ∧ f.length = 16 ∧
    (f.getD 0 0).toNat = s.part.state.code * 64 + s.port.notices.length ∧
    (f.getD 1 0).toNat = (s.place 0).state.code * 32 + (s.place 1).state.code * 4 + flagBit s.faultPresent * 2 +
      flagBit s.warningPresent ∧
    (f.getD 2 0).toNat = (s.place 2).state.code * 32 + (s.place 3).state.code * 4 + flagBit s.loop.running * 2 ∧
    (f.getD 3 0).toNat = s.staging.records.length * 16 + s.port.response.result.code ∧
    bytesToNat ((f.drop 4).take 11) = s.port.response.data.toNat ∧ byteSum f % 256 = 255

/-- A transaction that is not whole, a whole one with a wrong check byte and a whole one with an unknown command code take
no command: each only ends the transaction and leaves its result as the pending response, the first two with data 0. So do the bytes of
any such frame put in front of the queue, a RESTART with a wrong check among them. A code is unknown exactly where it is none of the
codes of R181: a whole frame with a matching check and such a code is UNKNOWN_COMMAND, and one with a code of R181 is never one of
the three. -/
def Obligations.BrokenTransactionsTakeNoCommand : Prop :=
  (∀ (n : Nat) (s : State), exec (.transactionIncomplete n) s =
      .next (s.setPort { s.port with transaction := none, response := ⟨.frameError, 0⟩ })) ∧
  (∀ (f : List Byte) (s : State), exec (.checkError f) s =
      .next (s.setPort { s.port with transaction := none, response := ⟨.checkError, 0⟩ })) ∧
  (∀ (b : Byte) (s : State), Answers (.unknownCommand b) s s .unknownCommand) ∧
  (∀ (f : List Byte) (s : State),
    (f.length ≠ 16 → step (s.withCommandFrame f) =
      .next (s.setPort { s.port with transaction := none, response := ⟨.frameError, 0⟩ })) ∧
    (f.length = 16 → byteSum f % 256 ≠ 255 → step (s.withCommandFrame f) =
      .next (s.setPort { s.port with transaction := none, response := ⟨.checkError, 0⟩ })) ∧
    (f.length = 16 → byteSum f % 256 = 255 →
      let codes := [0, 1, 2, 3, 16, 17, 18, 19, 20, 21, 24, 25, 26, 32, 33, 34, 35, 36, 37, 48, 49, 50, 64, 65, 66, 67, 68, 69,
        70, 71, 80, 81]
      ((f.headD 0).toNat ∉ codes → ∃ d, step (s.withCommandFrame f) = .next (respond s .unknownCommand d)) ∧
      ((f.headD 0).toNat ∈ codes → ∀ n g b, decodeCommandFrame f ≠ .transactionIncomplete n ∧
        decodeCommandFrame f ≠ .checkError g ∧ decodeCommandFrame f ≠ .unknownCommand b)))

/-- Every command frame of the cell port, its parameters packed at the widths of the table and its check byte matching, is
read back as its command with every parameter at every value; a READ STAGING mode above 2 is carried by the row of mode 2
(log 22). Read data is packed from the most significant bit with no gaps: of any list of items within 88 bits, each item
stands at the offset that the widths before it give, and the bits after the last are 0. -/
def Obligations.CommandFramesAndReadDataPacked : Prop :=
  (decodeCommandFrame (commandFrame 0 []) = .nop ∧ decodeCommandFrame (commandFrame 1 []) = .keepalive ∧
    decodeCommandFrame (commandFrame 2 []) = .clearFaults ∧ decodeCommandFrame (commandFrame 3 []) = .armWatchdog ∧
    decodeCommandFrame (commandFrame 21 []) = .go ∧ decodeCommandFrame (commandFrame 24 []) = .withdraw ∧
    decodeCommandFrame (commandFrame 25 []) = .rejoin ∧ decodeCommandFrame (commandFrame 26 []) = .restart ∧
    decodeCommandFrame (commandFrame 34 []) = .commitPlan ∧ decodeCommandFrame (commandFrame 35 []) = .abandonPlan ∧
    decodeCommandFrame (commandFrame 64 []) = .readNotice ∧ decodeCommandFrame (commandFrame 71 []) = .readFaults) ∧
  (∀ (l : BitVec 10) (p : BitVec 11),
    decodeCommandFrame (commandFrame 16 [(10, l.toNat), (11, p.toNat)]) = .hallSize l p) ∧
  (∀ (i : BitVec 4) (g d : BitVec 19),
    decodeCommandFrame (commandFrame 17 [(4, i.toNat), (19, g.toNat), (19, d.toNat)]) = .stationEntry i g d) ∧
  (∀ (i : BitVec 4) (f : BitVec 6) (a b : BitVec 4),
    decodeCommandFrame (commandFrame 18 [(4, i.toNat), (6, f.toNat), (4, a.toNat), (4, b.toNat)]) = .ownSetup i f a b) ∧
  (∀ t : TimingParams,
    decodeCommandFrame (commandFrame 19 [(9, t.tolerance.toNat), (7, t.gateDeglitch.toNat), (7, t.confirmDeglitch.toNat),
      (12, t.scanWindow.toNat), (19, t.armLead.toNat), (11, t.dwell.toNat), (11, t.confirmWindow.toNat),
      (14, t.jamTime.toNat), (13, t.stopTime.toNat), (9, t.placeDeglitch.toNat)]) = .timing t) ∧
  (∀ (a b : BitVec 1) (m : BitVec 2) (l : BitVec 10) (u : BitVec 13),
    decodeCommandFrame (commandFrame 20 [(1, a.toNat), (1, b.toNat), (2, m.toNat), (10, l.toNat), (13, u.toNat)]) =
      .faultPolicy a b m l u) ∧
  (∀ (p : BitVec 8) (o : BitVec 32) (n : BitVec 8),
    decodeCommandFrame (commandFrame 32 [(8, p.toNat), (32, o.toNat), (8, n.toNat)]) = .openPlan p o n) ∧
  (∀ (t : BitVec 8) (a : BitVec 24) (f q : BitVec 8),
    decodeCommandFrame (commandFrame 33 [(8, t.toNat), (24, a.toNat), (8, f.toNat), (8, q.toNat)]) = .addLine t a f q) ∧
  (∀ p : BitVec 8, decodeCommandFrame (commandFrame 36 [(8, p.toNat)]) = .cancelPallet p ∧
    decodeCommandFrame (commandFrame 37 [(8, p.toNat)]) = .releasePallet p ∧
    decodeCommandFrame (commandFrame 65 [(8, p.toNat)]) = .readPallet p ∧
    decodeCommandFrame (commandFrame 68 [(8, p.toNat)]) = .readClaims p ∧
    decodeCommandFrame (commandFrame 70 [(8, p.toNat)]) = .readRoster p ∧
    decodeCommandFrame (commandFrame 81 [(8, p.toNat)]) = .readCounter p) ∧
  (∀ a : BitVec 16, decodeCommandFrame (commandFrame 48 [(16, a.toNat)]) = .placed a ∧
    decodeCommandFrame (commandFrame 50 [(16, a.toNat)]) = .acceptSuspect a ∧
    decodeCommandFrame (commandFrame 69 [(16, a.toNat)]) = .readView a ∧
    decodeCommandFrame (commandFrame 67 [(8, 0), (16, a.toNat)]) = .readStagingByArrival a ∧
    decodeCommandFrame (commandFrame 67 [(8, 1), (16, a.toNat)]) = .readStagingByIndex a ∧
    ∀ m : BitVec 8, 2 ≤ m.toNat →
      decodeCommandFrame (commandFrame 67 [(8, m.toNat), (16, a.toNat)]) = .readStagingSummary m) ∧
  (∀ (a : BitVec 16) (r : BitVec 8),
    decodeCommandFrame (commandFrame 49 [(16, a.toNat), (8, r.toNat)]) = .removeCase a r) ∧
  (∀ p t l : BitVec 8,
    decodeCommandFrame (commandFrame 66 [(8, p.toNat), (8, t.toNat), (8, l.toNat)]) = .readLine p t l) ∧
  (∀ c e k v : BitVec 8,
    decodeCommandFrame (commandFrame 80 [(8, c.toNat), (8, e.toNat), (8, k.toNat), (8, v.toNat)]) = .setCounter c e k v) ∧
  ∀ items : List Item, packWidth items ≤ 88 →
    (∀ i (h : i < items.length), bitField 88 (packWidth (items.take i)) items[i].1 (packData items).toNat =
      items[i].2 % 2 ^ items[i].1) ∧
    (packData items).toNat % 2 ^ (88 - packWidth items) = 0

/-! ### Configuration and GO -/

/-- The five configuration commands, taken in START with their values in range, store those values and are answered DONE, and
change nothing else. A STATION ENTRY with both positions 0 makes its ID absent. Outside START each is refused REFUSED_STATE, GO
included, and in START one with a value out of its range is refused REFUSED_RANGE; a refusal changes nothing but the response. The
response data of DONE and of a refusal is 0 (log 20). -/
def Obligations.ConfigurationTakenOrRefused : Prop :=
  ∀ s : State, (s.part.state = .start →
    (∀ (l : BitVec 10) (p : BitVec 11), 16 ≤ l.toNat → l.toNat ≤ 512 → 16 ≤ p.toNat → p.toNat ≤ 1024 →
      l.toNat * p.toNat ≤ 524288 → exec (.hallSize l p) s =
        .next (answer (s.setConfig { s.config with hallSize := some ⟨l.toNat, p.toNat⟩ }) .done)) ∧
    (∀ (i : BitVec 4) (g d : BitVec 19), exec (.stationEntry i g d) s =
        .next (answer (s.setConfig { s.config with
          hall := s.config.hall.set i.toNat (if g.toNat = 0 ∧ d.toNat = 0 then none else some ⟨g.toNat, d.toNat⟩)
            i.isLt }) .done)) ∧
    (∀ (i : BitVec 4) (f : BitVec 6) (a b : BitVec 4), 2 ≤ a.toNat → a.toNat ≤ 12 → exec (.ownSetup i f a b) s =
        .next (answer (s.setConfig { s.config with own := some ⟨⟨i.toNat, i.isLt⟩, f, a.toNat, b.toNat⟩ }) .done)) ∧
    (∀ t : TimingParams, 1 ≤ t.gateDeglitch.toNat → t.gateDeglitch.toNat ≤ 64 → 1 ≤ t.confirmDeglitch.toNat →
      t.confirmDeglitch.toNat ≤ 64 → 1 ≤ t.scanWindow.toNat → t.scanWindow.toNat ≤ 2048 → 1 ≤ t.armLead.toNat →
      1 ≤ t.dwell.toNat → t.dwell.toNat ≤ 1024 → 1 ≤ t.confirmWindow.toNat → t.confirmWindow.toNat ≤ 1024 →
      100 ≤ t.jamTime.toNat → t.jamTime.toNat ≤ 10000 → 50 ≤ t.stopTime.toNat → t.stopTime.toNat ≤ 5000 →
      10 ≤ t.placeDeglitch.toNat → t.placeDeglitch.toNat ≤ 500 → exec (.timing t) s =
        .next (answer (s.setConfig { s.config with
          timing := some ⟨t.tolerance.toNat, t.gateDeglitch.toNat, t.confirmDeglitch.toNat, t.scanWindow.toNat,
            t.armLead.toNat, t.dwell.toNat, t.confirmWindow.toNat, t.jamTime.toNat, t.stopTime.toNat,
            t.placeDeglitch.toNat⟩ }) .done)) ∧
    (∀ (a b : BitVec 1) (m : BitVec 2) (l : BitVec 10) (u : BitVec 13) (w : WatchdogMode),
      [WatchdogMode.off, .warn, .withdraw][m.toNat]? = some w → 10 ≤ l.toNat → l.toNat ≤ 1000 →
      l.toNat + 10 ≤ u.toNat → u.toNat ≤ 5000 → exec (.faultPolicy a b m l u) s =
        .next (answer (s.setConfig { s.config with
          policy := some ⟨if a = 0 then .place else .cell, if b = 0 then .auto else .latched, w, l.toNat, u.toNat⟩ })
          .done))) ∧
    (s.part.state ≠ .start →
      (∀ l p, exec (.hallSize l p) s = .next (answer s .refusedState)) ∧
      (∀ i g d, exec (.stationEntry i g d) s = .next (answer s .refusedState)) ∧
      (∀ i f a b, exec (.ownSetup i f a b) s = .next (answer s .refusedState)) ∧
      (∀ t, exec (.timing t) s = .next (answer s .refusedState)) ∧
      (∀ a b m l u, exec (.faultPolicy a b m l u) s = .next (answer s .refusedState)) ∧
      exec .go s = .next (answer s .refusedState)) ∧
    (s.part.state = .start →
      (∀ (l : BitVec 10) (p : BitVec 11), (l.toNat < 16 ∨ 512 < l.toNat ∨ p.toNat < 16 ∨ 1024 < p.toNat ∨
        524288 < l.toNat * p.toNat) → exec (.hallSize l p) s = .next (answer s .refusedRange)) ∧
      (∀ (i : BitVec 4) (f : BitVec 6) (a b : BitVec 4), (a.toNat < 2 ∨ 12 < a.toNat) →
        exec (.ownSetup i f a b) s = .next (answer s .refusedRange)) ∧
      (∀ t : TimingParams, (t.stopTime.toNat < 50 ∨ 5000 < t.stopTime.toNat ∨ t.jamTime.toNat < 100 ∨
        10000 < t.jamTime.toNat ∨ t.placeDeglitch.toNat < 10 ∨ 500 < t.placeDeglitch.toNat ∨ t.gateDeglitch.toNat = 0 ∨
        64 < t.gateDeglitch.toNat ∨ t.confirmDeglitch.toNat = 0 ∨ 64 < t.confirmDeglitch.toNat ∨
        t.scanWindow.toNat = 0 ∨ 2048 < t.scanWindow.toNat ∨ t.armLead.toNat = 0 ∨ t.dwell.toNat = 0 ∨
        1024 < t.dwell.toNat ∨ t.confirmWindow.toNat = 0 ∨ 1024 < t.confirmWindow.toNat) →
        exec (.timing t) s = .next (answer s .refusedRange)) ∧
      (∀ (a b : BitVec 1) (m : BitVec 2) (l : BitVec 10) (u : BitVec 13), (m = 3 ∨ l.toNat < 10 ∨ 1000 < l.toNat ∨
        u.toNat < l.toNat + 10 ∨ 5000 < u.toNat) →
        exec (.faultPolicy a b m l u) s = .next (answer s .refusedRange)))

/-- GO makes its six checks in order, stops at the first that fails, answers CONFIG_INVALID with the reason and, for ORDER,
the lowest station ID that fails, and leaves the station in START with everything as it was. -/
def Obligations.GoRefusedByFirstFailingCheck : Prop :=
  ∀ s : State, s.part.state = .start →
    let refuse := fun (r i : Nat) => exec .go s = .next (respond s .configInvalid (packData [(8, r), (8, i)]))
    let badAt := fun i : Fin 16 => ∃ p, s.config.hall[i] = some p ∧ ¬(p.gate < p.divert ∧ p.divert < s.loopLen)
    let own := ∃ o, s.config.own = some o ∧ (s.config.hall[o.id]).isSome = true
    let gap := s.timing.scanWindow + s.timing.armLead ≤ s.divertPos - s.gatePos
    let window := s.timing.dwell ≤ s.pitch ∧ s.timing.confirmWindow ≤ s.pitch ∧ s.timing.scanWindow ≤ 2 * s.pitch
    let tolerance := 1 ≤ s.timing.tolerance ∧ s.timing.tolerance ≤ s.pitch / 4
    (¬own → refuse 0 0) ∧
    (own → ∀ i : Fin 16, badAt i → (∀ j : Fin 16, j < i → ¬badAt j) → refuse 1 i.val) ∧
    (own → (∀ j : Fin 16, ¬badAt j) →
      (¬gap → refuse 2 0) ∧ (gap → ¬window → refuse 3 0) ∧ (gap → window → ¬tolerance → refuse 4 0) ∧
      (gap → window → tolerance → ¬(1 ≤ s.reserve ∧ s.reserve < s.stagingSize) → refuse 5 0))

/-- GO accepted from START at rest: the Loop Tracker starts from its reset state with the loop-stopped timer from zero, the
eyes are taken as they stand, the line is SEEKING, the view has one EMPTY entry for each slot, the station is LISTENING
with its own digest, a JOIN with that digest queued and its notice, the watchdog runs unless its mode is OFF, and the answer is
DONE (data 0: log 20). The own digest weights L by 1, P by 2, and for station ID j the present mark by 3j+3, the gate position by
3j+4 and the divert position by 3j+5, over every ID, and is taken mod 65536; an absent station gives 0 throughout. -/
def Obligations.GoStartsTheStation : Prop :=
  (∀ s : State, hallDigest s = (s.slots + 2 * s.pitch + ((List.finRange 16).map (fun j : Fin 16 =>
    match s.config.hall[j] with
    | some p => (3 * j.val + 3) + (3 * j.val + 4) * p.gate + (3 * j.val + 5) * p.divert
    | none => 0)).sum) % 65536) ∧
  ∀ s : State, s.part.state = .start → Idle s → configProblem s = none → ∃ t, exec .go s = .next t ∧
    t.loop = ⟨0, false, false, 0, true, some 0⟩ ∧
    t.gate = ⟨if s.pins.gateEye then .blocked else .clear, [], [], 0⟩ ∧
    t.divert = ⟨false, none, if s.pins.confirmEye then .blocked else .clear, if s.pins.confirmEye then some 0 else none,
      false⟩ ∧
    t.line.state = .seeking ∧ t.line.recessiveRun = 0 ∧ t.line.rx = [] ∧
    t.line.tx = [⟨.join (hallDigest s), false, false, false, false⟩] ∧ t.view = List.replicate s.slots .empty ∧
    t.part.state = .listening ∧ t.part.listeningMarks = 0 ∧ t.part.digest = some (hallDigest s) ∧
    t.part.watchdog = (if s.policy.mode = .off then .off else .running) ∧ t.part.watchdogTimer = 0 ∧
    t.port = ⟨none, ⟨.done, 0⟩, [.participation .listening], true⟩ ∧
    t.config = s.config ∧ t.pins = s.pins ∧ t.plans = s.plans ∧ t.contest = s.contest ∧ t.staging = s.staging ∧
    t.part.roster = s.part.roster ∧ t.part.faults = s.part.faults ∧ t.part.watches = s.part.watches ∧
    t.counters = s.counters ∧ t.pending = s.pending

/-! ### Participation, watchdog and the fault record -/

/-- WITHDRAW in LISTENING or ACTIVE is answered DONE and is an orderly withdrawal with reason HOST: the station is WITHDRAWN,
a WITHDRAW with reason 0 is queued, no claim is left ARMED, each leaving with RELEASE(WITHDRAWN) queued, every claim left QUEUED
or SENDING has a pending end, every COMMITTED and FIRING claim stays, and no WAITING ANNOUNCE outside an attempt is left. The view, the divert, the records, the
fault record (the notice queue having room) and the state of every place not CANCELLING stand. In START and WITHDRAWN it is
refused REFUSED_STATE. REJOIN is accepted in WITHDRAWN when no withdrawing indication is set: the station becomes LISTENING with
its mark count at 0 and a JOIN with the own digest queued, and the view, the claim table, the plans, the records, the line apart
from its transmit queue and the fault record (the notice queue having room) stand; in every other case it is refused
REFUSED_STATE. The response data is 0 (log 20). -/
def Obligations.WithdrawAndRejoin : Prop :=
  ∀ s : State,
    ((s.part.state = .start ∨ s.part.state = .withdrawn) → exec .withdraw s = .next (answer s .refusedState)) ∧
    (Running s → s.part.state = .listening ∨ s.part.state = .active → ∃ t, exec .withdraw s = .next t ∧
      t.part.state = .withdrawn ∧ t.port.response = ⟨.done, 0⟩ ∧ t.port.transaction = none ∧
      (∃ x ∈ t.line.tx, x.frame = .withdraw 0 ∧ x.sending = false) ∧
      (∀ c ∈ t.contest.claims, c.state ≠ .armed ∧ ((c.state = .queued ∨ c.state = .sending) → c.pendingEnd.isSome = true)) ∧
      (∀ c ∈ s.contest.claims, c.state = .armed → ∃ x ∈ t.line.tx, x.frame = .release c.slot .withdrawn) ∧
      (∀ c ∈ s.contest.claims, (c.state = .committed ∨ c.state = .firing) → c ∈ t.contest.claims) ∧
      (∀ x ∈ t.line.tx, x.frame.isAnnounce = true → x.sending = true ∨ x.inAttempt = true) ∧
      t.view = s.view ∧ t.divert = s.divert ∧ t.staging = s.staging ∧ BeltKept s t ∧
      (∀ q, (s.place q).state ≠ .cancelling → (t.place q).state = (s.place q).state) ∧
      (s.port.notices.length < 32 → .participation .withdrawn ∈ t.port.notices) ∧
      (s.port.notices.length + 5 ≤ 32 → t.part.faults = s.part.faults)) ∧
    let withdrawing := s.indicated .cfgMismatch = true ∨ s.indicated .indexSlip = true ∨ s.indicated .loopReverse = true ∨
      s.indicated .divertJam = true ∨ s.indicated .rxErrors = true ∨
      (s.indicated .watchdog = true ∧ s.policy.mode = .withdraw) ∨
      (s.policy.scope = .cell ∧ ∃ p, s.indicated (.placeNotReady p) = true)
    ((s.part.state ≠ .withdrawn ∨ withdrawing) → exec .rejoin s = .next (answer s .refusedState)) ∧
    (s.part.state = .withdrawn → ¬withdrawing → ∃ t, exec .rejoin s = .next t ∧
      t.part.state = .listening ∧ t.part.listeningMarks = 0 ∧
      (∃ x ∈ t.line.tx, x.frame = .join (s.part.digest.getD 0) ∧ x.sending = false) ∧
      t.port.response = ⟨.done, 0⟩ ∧ t.port.transaction = none ∧
      (s.port.notices.length < 32 → t.port.notices = s.port.notices ++ [.participation .listening] ∧
        t.port.attn = true ∧ t.part.faults = s.part.faults) ∧
      t.view = s.view ∧ t.contest = s.contest ∧ t.plans = s.plans ∧ t.staging = s.staging ∧ t.divert = s.divert ∧
      t.line = { s.line with tx := t.line.tx } ∧ BeltKept s t)

/-- KEEPALIVE is always answered DONE: without effect while the watchdog is OFF or STOPPED, restarting the timer at or above
the lower bound, and below it a violation that stops the watchdog and raises WATCHDOG, which in mode WITHDRAW withdraws the
station. ARM WATCHDOG restarts a STOPPED watchdog whose indication is clear, and is refused in every other case. The window
timer of a RUNNING watchdog reaching the upper bound is a violation too: the watchdog is STOPPED, WATCHDOG is raised, and in mode
WITHDRAW the station withdraws with WITHDRAW reason 6, in the other modes its state stands. An expiry of a watchdog that does not
run changes nothing (log 4). -/
def Obligations.WatchdogKeptArmedExpired : Prop :=
  ∀ s : State,
    (s.part.watchdog ≠ .running → Answers .keepalive s s .done) ∧
    (s.part.watchdog = .running → s.policy.lower ≤ s.part.watchdogTimer →
      Answers .keepalive s (s.setPart { s.part with watchdogTimer := 0 }) .done) ∧
    (s.part.watchdog = .running → s.part.watchdogTimer < s.policy.lower → ∃ t, exec .keepalive s = .next t ∧
      t.part.watchdog = .stopped ∧ t.part.watchdogTimer = 0 ∧ t.fault .watchdog = ⟨true, false, false⟩ ∧
      t.port.response.result = .done ∧ BeltKept s t ∧
      (s.port.notices.length < 32 → .faultRaised 6 0 ∈ t.port.notices) ∧
      (s.policy.mode = .withdraw → t.part.state = .withdrawn) ∧
      (s.policy.mode ≠ .withdraw → t.part.state = s.part.state)) ∧
    (s.part.watchdog = .stopped → s.indicated .watchdog = false →
      Answers .armWatchdog s (s.setPart { s.part with watchdog := .running, watchdogTimer := 0 }) .done) ∧
    (s.part.watchdog ≠ .stopped ∨ s.indicated .watchdog = true →
      Answers .armWatchdog s s .refusedState) ∧
    (s.part.watchdog ≠ .running → exec .watchdogExpiry s = .next s) ∧
    (s.part.watchdog = .running → ∃ t, exec .watchdogExpiry s = .next t ∧
      t.part.watchdog = .stopped ∧ t.part.watchdogTimer = 0 ∧ t.fault .watchdog = ⟨true, false, false⟩ ∧
      (s.port.notices.length < 32 → .faultRaised 6 0 ∈ t.port.notices) ∧ t.config = s.config ∧ t.pins = s.pins ∧
      t.view = s.view ∧ t.staging = s.staging ∧
      (s.policy.mode = .withdraw → t.part.state = .withdrawn ∧ ∃ x ∈ t.line.tx, x.frame = .withdraw 6) ∧
      (s.policy.mode ≠ .withdraw → t.part.state = s.part.state))

/-- READ FAULTS answers with the indication and the condition flag of every entry in order, the latest INDEX_SLIP cause and
the watchdog state, and sets each entry's shown mark to its indication; nothing else changes. -/
def Obligations.ReadFaultsShows : Prop :=
  ∀ s : State, ∃ fs : Vector FaultEntry 13,
    exec .readFaults s = .next (answerData (s.setPart { s.part with faults := fs })
      (((List.finRange 13).map (fun i : Fin 13 =>
          [(1, if s.part.faults[i].indication then 1 else 0), (1, if s.part.faults[i].condition then 1 else 0)])).flatten ++
        [(2, match s.part.slipCause with
            | none => 0
            | some .early => 0
            | some .late => 1
            | some .missing => 2),
          (2, match s.part.watchdog with
            | .off => 0
            | .running => 1
            | .stopped => 2)])) ∧
    ∀ i : Fin 13, fs[i] = { s.part.faults[i] with shown := s.part.faults[i].indication }

/-- CLEAR FAULTS clears each indication that is shown and whose condition flag is clear, clears every shown mark, and is
answered DONE with the number cleared. Where no PLACE_NOT_READY is among them, or places recover AUTO, nothing else
happens. A PLACE_NOT_READY(p) cleared in PLACE scope with LATCHED recovery makes a SUSPENDED place p, its watch UNWATCHED,
BUILDING. -/
def Obligations.ClearFaultsClearsShown : Prop :=
  ∀ s : State,
    let clears := fun i : Fin 13 => s.part.faults[i].indication && s.part.faults[i].shown && !s.part.faults[i].condition
    let n := ((List.finRange 13).filter clears).length
    let placeCleared := fun p : Fin 4 => clears ⟨6 + p.val, by omega⟩ = true
    (s.contest.searchDue = false → (∀ p, ¬placeCleared p) ∨ (s.policy.scope = .place ∧ s.policy.recovery = .auto) →
      ∃ fs : Vector FaultEntry 13,
        exec .clearFaults s = .next (respond (s.setPart { s.part with faults := fs }) .done (packData [(8, n)])) ∧
        ∀ i : Fin 13, fs[i] = ⟨s.part.faults[i].indication && !clears i, false, s.part.faults[i].condition⟩) ∧
    (∀ p, s.policy.scope = .place → s.policy.recovery = .latched → placeCleared p → (s.place p).state = .suspended →
      (s.watch p).state = .unwatched → ∃ t, exec .clearFaults s = .next t ∧ (t.place p).state = .building ∧
        (t.place p).currentTier = (s.place p).currentTier ∧ (t.fault (.placeNotReady p)).indication = false ∧
        t.plans.buildOrder = s.plans.buildOrder ∧ t.port.response = ⟨.done, packData [(8, n)]⟩)

/-! ### Plans and places -/

/-- In START the plan commands, the commands on records and READ VIEW are refused REFUSED_STATE (data 0: log 20), and encoder
pulses, index marks and scanner characters change nothing. -/
def Obligations.InStartNothingRuns : Prop :=
  ∀ s : State, s.part.state = .start →
    (exec .forwardPulse s = .next s ∧ exec .reversePulse s = .next s ∧ exec .indexMark s = .next s ∧
      (∀ c, exec (.scannerCharacter c) s = .next s) ∧ ∀ cs, exec (.scannerReport cs) s = .next s) ∧
    (∀ a b c, exec (.openPlan a b c) s = .next (answer s .refusedState)) ∧
    (∀ a b c d, exec (.addLine a b c d) s = .next (answer s .refusedState)) ∧
    exec .commitPlan s = .next (answer s .refusedState) ∧ exec .abandonPlan s = .next (answer s .refusedState) ∧
    (∀ a, exec (.cancelPallet a) s = .next (answer s .refusedState) ∧
      exec (.releasePallet a) s = .next (answer s .refusedState)) ∧
    (∀ a, exec (.placed a) s = .next (answer s .refusedState) ∧
      exec (.acceptSuspect a) s = .next (answer s .refusedState) ∧
      exec (.readView a) s = .next (answer s .refusedState)) ∧
    ∀ a b, exec (.removeCase a b) s = .next (answer s .refusedState)

/-- OPEN PLAN after GO: a place outside 0..3 or a tier count outside 1..12 is refused REFUSED_RANGE, then an open loader BUSY,
then a place not EMPTY REFUSED_STATE, each with nothing changed; accepted, the place is LOADING with the order reference and
the tier count and with no lines, the loader is open for it, and the answer is DONE. -/
def Obligations.OpenPlanChecksAndOpens : Prop :=
  ∀ (s : State) (place : BitVec 8) (ref : BitVec 32) (n : BitVec 8), s.part.state ≠ .start →
    (4 ≤ place.toNat ∨ n.toNat = 0 ∨ 12 < n.toNat → Answers (.openPlan place ref n) s s .refusedRange) ∧
    (∀ p : Fin 4, place.toNat = p.val → 1 ≤ n.toNat → n.toNat ≤ 12 →
      (s.plans.loader ≠ none → Answers (.openPlan place ref n) s s .busy) ∧
      (s.plans.loader = none → (s.place p).state ≠ .empty →
        Answers (.openPlan place ref n) s s .refusedState) ∧
      (s.plans.loader = none → (s.place p).state = .empty →
        Answers (.openPlan place ref n) s (s.setPlans { s.plans with
          places := s.plans.places.set p ⟨.loading, some ref, some n.toNat, none, List.replicate 12 []⟩
          loader := some p }) .done))

/-- ADD LINE after GO: with the loader closed it is refused REFUSED_STATE; then a tier outside 1..12, a form code above 5 or a
quantity of 0 REFUSED_RANGE; then 16 lines in the tier, 48 in the plan or 128 in the four places REFUSED_FULL. Accepted, the
line joins the tail of its tier with its counts at 0 and nothing else changes. -/
def Obligations.AddLineChecksAndAppends : Prop :=
  ∀ (s : State) (tier : BitVec 8) (article : BitVec 24) (form quantity : BitVec 8), s.part.state ≠ .start →
    let answers := Answers (.addLine tier article form quantity) s
    (s.plans.loader = none → answers s .refusedState) ∧
    ∀ p : Fin 4, s.plans.loader = some p →
      let full := 16 ≤ ((s.place p).tier tier.toNat).length ∨ 48 ≤ (s.place p).lineCount ∨
        128 ≤ (s.place 0).lineCount + (s.place 1).lineCount + (s.place 2).lineCount + (s.place 3).lineCount
      (tier.toNat = 0 ∨ 12 < tier.toNat ∨ 5 < form.toNat ∨ quantity.toNat = 0 → answers s .refusedRange) ∧
      ∀ f : Form, f.code = form.toNat → 1 ≤ tier.toNat → tier.toNat ≤ 12 → 1 ≤ quantity.toNat →
        (full → answers s .refusedFull) ∧
        (¬full → answers (s.setPlans { s.plans with
          places := s.plans.places.set p { s.place p with
            tiers := (s.place p).tiers.modify (tier.toNat - 1)
              (· ++ [⟨⟨article.toNat, f⟩, quantity.toNat, 0, 0, 0⟩]) } }) .done)

/-- COMMIT PLAN after GO with a plan open is refused PLAN_INVALID by the first of its four checks that fails, with the lowest
tier and line at which it fails, and changes nothing else; with the loader closed it is refused REFUSED_STATE (data 0: log 20). -/
def Obligations.CommitRefusedByFirstFailingCheck : Prop :=
  ∀ s : State, s.part.state ≠ .start →
    (s.plans.loader = none → exec .commitPlan s = .next (answer s .refusedState)) ∧
    ∀ (p : Fin 4) (n : Nat), s.plans.loader = some p → (s.place p).tierCount = some n →
      let pl := s.place p
      let refuse := fun (r t l : Nat) =>
        exec .commitPlan s = .next (respond s .planInvalid (packData [(8, r), (8, t), (8, l)]))
      let above := fun t => n < t ∧ pl.tier t ≠ []
      let bare := fun t => t ≤ n ∧ pl.tier t = []
      let again := fun (t l : Nat) => ∃ i a b, i + 1 < l ∧ (pl.tier t)[i]? = some a ∧ (pl.tier t)[l - 1]? = some b ∧
        a.case.article = b.case.article
      let alien := fun (t l : Nat) => ∃ a, 1 ≤ l ∧ (pl.tier t)[l - 1]? = some a ∧ s.supports a.case.form = false
      let none1 := ∀ t, 1 ≤ t → t ≤ 12 → ¬above t
      let none2 := ∀ t, 1 ≤ t → t ≤ 12 → ¬bare t
      let none3 := ∀ t l, 1 ≤ t → t ≤ 12 → ¬again t l
      ∀ t, 1 ≤ t → t ≤ 12 →
        (above t → (∀ u, 1 ≤ u → u < t → ¬above u) → refuse 0 t 1) ∧
        (none1 → bare t → (∀ u, 1 ≤ u → u < t → ¬bare u) → refuse 1 t 0) ∧
        (none1 → none2 → ∀ l, again t l → (∀ u m, 1 ≤ u → u < t → ¬again u m) → (∀ m, m < l → ¬again t m) →
          refuse 2 t l) ∧
        (none1 → none2 → none3 → ∀ l, alien t l → (∀ u m, 1 ≤ u → u < t → ¬alien u m) → (∀ m, m < l → ¬alien t m) →
          refuse 3 t l)

/-- COMMIT PLAN accepted, the place's watch UNWATCHED: the place is BUILDING at tier 1 and joins the build order list at its
tail, the loader closes, the watch is READY or DROPPING by the level of its input, and the answer is DONE. In a station
that is not ACTIVE the search it asks for makes no claim. A place whose condition is still live raises PLACE_NOT_READY again: in
PLACE scope the place is SUSPENDED, and in CELL scope it and every BUILDING place are SUSPENDED and the station is WITHDRAWN with a
WITHDRAW of reason 7 queued. The data of DONE is 0 (log 20). -/
def Obligations.CommitStartsBuilding : Prop :=
  ∀ (s : State) (p : Fin 4), s.part.state ≠ .start → s.plans.loader = some p → planProblem s (s.place p) = none →
    ((s.watch p).state = .unwatched → ∃ t, exec .commitPlan s = .next t ∧
      (t.place p).state = .building ∧ (t.place p).currentTier = some 1 ∧ (t.place p).orderRef = (s.place p).orderRef ∧
      (t.place p).tierCount = (s.place p).tierCount ∧ t.plans.buildOrder = s.plans.buildOrder ++ [p] ∧
      t.plans.loader = none ∧ t.watch p = ⟨if s.pins.placeReady[p] then .ready else .dropping, 0⟩ ∧
      t.port.response = ⟨.done, 0⟩ ∧ (∀ q, q ≠ p → (t.place q).state = (s.place q).state) ∧
      t.view = s.view ∧ t.divert = s.divert ∧ t.staging = s.staging ∧ BeltKept s t ∧
      (s.part.state ≠ .active → t.contest.claims = s.contest.claims ∧ (t.place p).tiers = (s.place p).tiers ∧
        ∀ q, q ≠ p → t.place q = s.place q)) ∧
    ((s.watch p).state = .notReady ∨ (s.watch p).state = .rising → ∃ t, exec .commitPlan s = .next t ∧
      (t.place p).state = .suspended ∧ (t.place p).currentTier = some 1 ∧ t.plans.buildOrder = s.plans.buildOrder ++ [p] ∧
      t.plans.loader = none ∧ t.fault (.placeNotReady p) = ⟨true, false, true⟩ ∧ t.watch p = s.watch p ∧
      t.port.response = ⟨.done, 0⟩ ∧
      (s.policy.scope = .place → t.part.state = s.part.state ∧ ∀ q, q ≠ p → (t.place q).state = (s.place q).state) ∧
      (s.policy.scope = .cell → t.part.state = .withdrawn ∧ (∃ x ∈ t.line.tx, x.frame = .withdraw 7) ∧
        ∀ q, q ≠ p → (s.place q).state ≠ .cancelling →
          (t.place q).state = (if (s.place q).state = .building then .suspended else (s.place q).state)))

/-- ABANDON PLAN and RELEASE PALLET after GO. ABANDON PLAN is refused REFUSED_STATE with the loader closed; with a plan open its
place becomes EMPTY with its order reference, tier count and lines discarded, the loader closes, and the answer is DONE;
CANCEL PALLET does not accept a LOADING place. RELEASE PALLET makes a COMPLETE place EMPTY with its order reference, tier count
and lines discarded, so that its lines leave the count of 128, and is answered DONE; in any other state it is refused
REFUSED_STATE, and for a place outside 0..3 REFUSED_RANGE, with nothing changed. -/
def Obligations.AbandonAndReleaseEmptyThePlace : Prop :=
  ∀ s : State, s.part.state ≠ .start →
    (s.plans.loader = none → Answers .abandonPlan s s .refusedState) ∧
    (∀ p : Fin 4, s.plans.loader = some p → Answers .abandonPlan s (s.setPlans { s.plans with
      places := s.plans.places.set p ⟨.empty, none, none, none, []⟩
      loader := none }) .done) ∧
    ∀ b : BitVec 8, (4 ≤ b.toNat → Answers (.releasePallet b) s s .refusedRange) ∧
      ∀ p : Fin 4, b.toNat = p.val →
        ((s.place p).state = .loading → Answers (.cancelPallet b) s s .refusedState) ∧
        ((s.place p).state ≠ .complete → Answers (.releasePallet b) s s .refusedState) ∧
        ((s.place p).state = .complete → ∃ t, Answers (.releasePallet b) s t .done ∧
          t = s.setPlans { s.plans with places := s.plans.places.set p ⟨.empty, none, none, none, []⟩ } ∧
          totalLines t + (s.place p).lineCount = totalLines s)

/-- CANCEL PALLET after GO: refused REFUSED_RANGE outside 0..3, and REFUSED_STATE for a place in EMPTY, LOADING, COMPLETE or
CANCELLING. For a BUILDING or SUSPENDED place of a part within its laws it is answered DONE: the place leaves the build order
list, no record targets it any longer (each record stays in the table), each ARMED claim of it leaves with RELEASE(CANCELLED)
queued, its claims left are COMMITTED, FIRING or have a pending end, and it is CANCELLING while a claim targets it, with staged at 0
on every line, and EMPTY otherwise; a CASE_ORPHANED notice for each of its records, in arrival order, and CANCEL_DONE where it is
EMPTY, join the notices. Later, whatever command but a reset is taken, a CANCELLING place stays so while a claim targets it, and when
the last has left it is EMPTY, with CANCEL_DONE queued (16 notices of room being more than one event can take before). The data of a
refusal and of DONE is 0 (log 20). -/
def Obligations.CancelPalletEndsThePlace : Prop :=
  (∀ (c : Instr) (s t : State) (p : Fin 4), Running s → s.contest.searchDue = false → (s.place p).state = .cancelling →
    (∃ x ∈ s.contest.claims, x.target.place = p) → resets c = false → exec c s = .next t →
    ((∃ x ∈ t.contest.claims, x.target.place = p) → (t.place p).state = .cancelling) ∧
    ((∀ x ∈ t.contest.claims, x.target.place ≠ p) → t.place p = ⟨.empty, none, none, none, []⟩ ∧
      (s.port.notices.length + 16 ≤ 32 → .cancelDone p ∈ t.port.notices))) ∧
  ∀ (s : State) (b : BitVec 8), s.part.state ≠ .start →
    (4 ≤ b.toNat → exec (.cancelPallet b) s = .next (answer s .refusedRange)) ∧
    ∀ p : Fin 4, b.toNat = p.val →
      ((s.place p).state = .empty ∨ (s.place p).state = .loading ∨ (s.place p).state = .complete ∨
        (s.place p).state = .cancelling → exec (.cancelPallet b) s = .next (answer s .refusedState)) ∧
      (Running s → (s.place p).state = .building ∨ (s.place p).state = .suspended →
        ∃ t, exec (.cancelPallet b) s = .next t ∧ t.port.response = ⟨.done, 0⟩ ∧ p ∉ t.plans.buildOrder ∧
          (∀ r ∈ t.staging.records, r.forPlace p = false) ∧
          t.staging.records.map (·.arrival) = s.staging.records.map (·.arrival) ∧
          (∀ c ∈ t.contest.claims, c.target.place = p →
            c.state = .committed ∨ c.state = .firing ∨ c.pendingEnd.isSome = true) ∧
          (∀ c ∈ s.contest.claims, c.target.place = p → c.state = .armed →
            ∃ x ∈ t.line.tx, x.frame = .release c.slot .cancelled) ∧
          (let orphaned := (s.staging.records.filter (StagingRecord.forPlace p)).map (fun r => Notice.caseOrphaned r.arrival)
           let ended := t.contest.claims.all (fun c => decide (c.target.place ≠ p))
           s.port.notices.length + orphaned.length + 1 ≤ 32 →
             t.port.notices = s.port.notices ++ orphaned ++ if ended then [.cancelDone p] else []) ∧
          ((∃ c ∈ t.contest.claims, c.target.place = p) → (t.place p).state = .cancelling ∧
            ∀ ls ∈ (t.place p).tiers, ∀ l ∈ ls, l.staged = 0) ∧
          ((∀ c ∈ t.contest.claims, c.target.place ≠ p) → t.place p = ⟨.empty, none, none, none, []⟩) ∧
          t.view = s.view ∧ t.divert = s.divert ∧ BeltKept s t)

/-! ### The staging lane -/

/-- PLACED after GO: refused NO_SUCH for an arrival number no record carries, and NOT_PLACEABLE for a record that is not
PLACEABLE. Accepted, the record leaves the table and the others keep their order, its line's staged count falls by one and its
placed count rises by one, and the answer is DONE; the arrival counter and the tallies stand. The response data is 0 (log 20). -/
def Obligations.PlacedMovesStagedToPlaced : Prop :=
  ∀ (s : State) (a : BitVec 16), s.part.state ≠ .start →
    (s.record? a.toNat = none → exec (.placed a) s = .next (answer s .noSuch)) ∧
    ∀ r, s.record? a.toNat = some r →
      (r.state ≠ .placeable → exec (.placed a) s = .next (answer s .notPlaceable)) ∧
      (r.state = .placeable → ∀ g l, r.target = some g → s.lineAt g = some l → ∃ t l', exec (.placed a) s = .next t ∧
        t.staging.records.map (·.arrival) = (s.staging.records.map (·.arrival)).filter (fun n => decide (n ≠ a.toNat)) ∧
        t.lineAt g = some l' ∧ l'.case = l.case ∧ l'.quantity = l.quantity ∧ l'.staged = l.staged - 1 ∧
        l'.placed = l.placed + 1 ∧ t.staging.nextArrival = s.staging.nextArrival ∧ t.staging.damaged = s.staging.damaged ∧
        t.staging.returned = s.staging.returned ∧ t.port.response = ⟨.done, 0⟩ ∧ t.view = s.view ∧ t.divert = s.divert ∧
        BeltKept s t)

/-- A PLACED that finishes the current tier of its place: below the last tier the current tier rises by one, no record of the
new tier is left WAITING, and TIER_DONE is queued; at the last tier the place is COMPLETE with no current tier, leaves the
build order list, its watch is no longer READY or DROPPING, and PALLET_DONE is queued. -/
def Obligations.FinishedTierAdvancesOrCompletes : Prop :=
  ∀ (s : State) (a : BitVec 16) (r : StagingRecord) (g : Target) (l : Line) (n : Nat), s.part.state ≠ .start →
    s.record? a.toNat = some r → r.state = .placeable → r.target = some g → s.lineAt g = some l →
    (s.place g.place).currentTier = some g.tier → (s.place g.place).tierCount = some n →
    l.placed + 1 = l.quantity →
    (∀ i x, i ≠ g.line - 1 → ((s.place g.place).tier g.tier)[i]? = some x → x.placed = x.quantity) →
    ∃ t, exec (.placed a) s = .next t ∧
      (g.tier < n → (t.place g.place).currentTier = some (g.tier + 1) ∧
        (t.place g.place).state = (s.place g.place).state ∧
        (∀ x ∈ t.staging.records, x.forTier g.place (g.tier + 1) = true → x.state ≠ .waiting) ∧
        (s.port.notices.length < 32 → .tierDone g.place g.tier ∈ t.port.notices)) ∧
      (n ≤ g.tier → (t.place g.place).currentTier = none ∧ (t.place g.place).state = .complete ∧
        g.place ∉ t.plans.buildOrder ∧ (t.watch g.place).state ≠ .ready ∧ (t.watch g.place).state ≠ .dropping ∧
        (s.port.notices.length < 32 → .palletDone g.place ∈ t.port.notices))

/-- REMOVE CASE after GO: a reason above 1 is refused REFUSED_RANGE, then an unknown arrival number NO_SUCH. Accepted, the record
leaves in any state, a targeted line's staged count falls by one and its placed count stands, the tally of the reason rises
and stays at 65535, no notice is queued, and the answer is DONE. ACCEPT SUSPECT after GO: refused NO_SUCH for an unknown arrival
number and REFUSED_STATE for a record that is not SUSPECT; accepted, the record becomes PLACEABLE where its place is BUILDING at the
record's tier, with a CASE_PLACEABLE notice, and WAITING otherwise; nothing else changes, the line counts included. The response
data is 0 (log 20). -/
def Obligations.RemoveCaseAndAcceptSuspect : Prop :=
  ∀ (s : State) (a : BitVec 16), s.part.state ≠ .start → (∀ reason : BitVec 8,
    (2 ≤ reason.toNat → exec (.removeCase a reason) s = .next (answer s .refusedRange)) ∧
    (reason.toNat < 2 → s.record? a.toNat = none → exec (.removeCase a reason) s = .next (answer s .noSuch)) ∧
    ∀ r, reason.toNat < 2 → s.record? a.toNat = some r → ∃ t, exec (.removeCase a reason) s = .next t ∧
      t.staging.records = s.staging.records.filter (fun x => decide (x.arrival ≠ a.toNat)) ∧
      t.staging.nextArrival = s.staging.nextArrival ∧
      t.staging.damaged = (if reason.toNat = 0 then min (s.staging.damaged + 1) 65535 else s.staging.damaged) ∧
      t.staging.returned = (if reason.toNat = 0 then s.staging.returned else min (s.staging.returned + 1) 65535) ∧
      (∀ g l, r.target = some g → s.lineAt g = some l → ∃ l', t.lineAt g = some l' ∧ l'.staged = l.staged - 1 ∧
        l'.placed = l.placed ∧ l'.quantity = l.quantity ∧ l'.case = l.case) ∧
      (r.target = none → s.part.state ≠ .active → t.plans = s.plans) ∧
      t.port.notices = s.port.notices ∧ t.port.response = ⟨.done, 0⟩ ∧ t.view = s.view ∧ t.divert = s.divert ∧
      BeltKept s t) ∧
    (s.record? a.toNat = none → exec (.acceptSuspect a) s = .next (answer s .noSuch)) ∧
    ∀ r, s.record? a.toNat = some r →
      (r.state ≠ .suspect → exec (.acceptSuspect a) s = .next (answer s .refusedState)) ∧
      (r.state = .suspect → ∀ g, r.target = some g →
        let now := (s.place g.place).state = .building ∧ (s.place g.place).currentTier = some g.tier
        let marked := fun st => s.setStaging { s.staging with
          records := s.staging.records.map (fun x => if x.arrival = r.arrival then { x with state := st } else x) }
        (now → exec (.acceptSuspect a) s =
          .next (answer (offerNotice (marked .placeable) (.casePlaceable r.arrival)) .done)) ∧
        (¬now → exec (.acceptSuspect a) s = .next (answer (marked .waiting) .done)))

/-! ### Reads -/

/-- READ NOTICE with notices held removes the oldest, leaves ATTN active exactly while one remains, and answers DONE with the
number left, the notice's kind and its fields; with the queue empty it is refused NO_SUCH (data 0: log 20) and changes nothing. A
notice offered joins at the tail, ATTN active; at 32 held it is lost, which raises NOTICE_OVERRUN without a notice and leaves the
queue as it stands: so with the notice of the loop-stopped timer. -/
def Obligations.ReadNoticeTakesTheOldest : Prop :=
  ∀ s : State,
    (∀ n : Notice,
      (s.port.notices.length < 32 → offerNotice s n =
        s.setPort { s.port with notices := s.port.notices ++ [n], attn := true }) ∧
      (32 ≤ s.port.notices.length → offerNotice s n = setFault s .noticeOverrun ⟨true, false, false⟩)) ∧
    (32 ≤ s.port.notices.length → s.loop.stopTimer.isSome = true → ∃ t, exec .loopStopped s = .next t ∧ t.port = s.port ∧
      t.fault .noticeOverrun = ⟨true, false, false⟩ ∧ t.loop.running = false) ∧
    (s.port.notices = [] → exec .readNotice s = .next (answer s .noSuch)) ∧
    ∀ n rest, s.port.notices = n :: rest →
      exec .readNotice s = .next (answerData (s.setPort { s.port with notices := rest, attn := !rest.isEmpty })
        ((6, rest.length) :: match n with
          | .caseStaged a g st => [(4, 1), (16, a), (2, g.place.val), (4, g.tier), (5, g.line), (2, st.code)]
          | .casePlaceable a => [(4, 2), (16, a)]
          | .tierDone p t => [(4, 3), (2, p.val), (4, t)]
          | .palletDone p => [(4, 4), (2, p.val)]
          | .divertMissed k p => [(4, 5), (9, k), (2, p.val)]
          | .caseOrphaned a => [(4, 6), (16, a)]
          | .cancelDone p => [(4, 7), (2, p.val)]
          | .faultRaised c d => [(4, 8), (4, c), (2, d)]
          | .participation st => [(4, 9), (2, st.code)]
          | .loopStopped => [(4, 10)]
          | .loopRunning => [(4, 11)]))

/-- READ PALLET and READ LINE answer in every state with the record of a place and with a line, and change nothing but the
response. A place outside 0..3, a tier outside 1..12 or a line number outside 1..16 is refused REFUSED_RANGE, and a line the
place does not hold NO_SUCH. -/
def Obligations.PalletAndLineReads : Prop :=
  ∀ s : State,
    (∀ b : BitVec 8, 4 ≤ b.toNat → Answers (.readPallet b) s s .refusedRange ∧
      ∀ t l, Answers (.readLine b t l) s s .refusedRange) ∧
    (∀ (b : BitVec 8) (p : Fin 4), b.toNat = p.val →
      exec (.readPallet b) s = .next (answerData s
        [(3, (s.place p).state.code), (32, ((s.place p).orderRef.getD 0).toNat), (4, (s.place p).tierCount.getD 0),
          (4, (s.place p).currentTier.getD 0), (8, (s.plans.buildOrder.findIdx? (fun q => decide (q = p))).getD 255),
          (6, (s.place p).lineCount),
          (12, match (s.place p).currentTier with
            | some t => tierNeed ((s.place p).tier t)
            | none => 0)]) ∧
      ∀ t l : BitVec 8,
        (t.toNat = 0 ∨ 12 < t.toNat ∨ l.toNat = 0 ∨ 16 < l.toNat →
          Answers (.readLine b t l) s s .refusedRange) ∧
        (1 ≤ t.toNat → t.toNat ≤ 12 → 1 ≤ l.toNat → l.toNat ≤ 16 →
          ((s.place p).line? t.toNat l.toNat = none → Answers (.readLine b t l) s s .noSuch) ∧
          ∀ x, (s.place p).line? t.toNat l.toNat = some x → exec (.readLine b t l) s = .next (answerData s
            [(24, x.case.article), (3, x.case.form.code), (8, x.quantity), (8, x.claimed), (8, x.staged),
              (8, x.placed)])))

/-- READ STAGING answers with one record, by arrival number or by list index, or with the summary, and changes nothing but the
response. An arrival number no record carries and an index at or above the records held are refused NO_SUCH, an index above 11
and a mode above 2 REFUSED_RANGE; that the row of the summary carries the modes above 2 is log 22. -/
def Obligations.StagingReads : Prop :=
  ∀ s : State,
    let shown := fun (i : Nat) (r : StagingRecord) =>
      [(4, s.staging.records.length), (4, i), (16, r.arrival), (9, r.slot), (24, r.case.article),
        (3, r.case.form.code)] ++
      (match r.target with
        | some g => [(1, 1), (2, g.place.val), (4, g.tier), (5, g.line)]
        | none => [(1, 0), (2, 0), (4, 0), (5, 0)]) ++
      [(2, r.state.code), (1, if r.isLookahead s then 1 else 0)]
    let count := fun st => (s.staging.records.filter (fun r => decide (r.state = st))).length
    (∀ a : BitVec 16,
      ((∀ r ∈ s.staging.records, r.arrival ≠ a.toNat) → Answers (.readStagingByArrival a) s s .noSuch) ∧
      (∀ i r, s.staging.records[i]? = some r → r.arrival = a.toNat →
        (∀ j x, j < i → s.staging.records[j]? = some x → x.arrival ≠ a.toNat) →
        exec (.readStagingByArrival a) s = .next (answerData s (shown i r))) ∧
      (12 ≤ a.toNat → Answers (.readStagingByIndex a) s s .refusedRange) ∧
      (a.toNat < 12 → s.staging.records.length ≤ a.toNat →
        Answers (.readStagingByIndex a) s s .noSuch) ∧
      (∀ r, a.toNat < 12 → s.staging.records[a.toNat]? = some r →
        exec (.readStagingByIndex a) s = .next (answerData s (shown a.toNat r)))) ∧
    exec (.readStagingSummary 2) s = .next (answerData s
      [(4, s.staging.records.length), (4, count .waiting), (4, count .placeable), (4, count .suspect), (4, count .orphan),
        (4, (s.staging.records.filter (StagingRecord.isLookahead s)).length), (16, s.staging.nextArrival),
        (16, s.staging.damaged), (16, s.staging.returned)]) ∧
    ∀ m : BitVec 8, 2 < m.toNat → Answers (.readStagingSummary m) s s .refusedRange

/-- READ CLAIMS answers with the entry at an index of the fire order, which holds every entry of the claim table once, the FIRING
ones before the others and these by pulses to fire; the pulses to fire are sent as 0 in FIRING. It changes nothing but the
response. An index above 5 is refused REFUSED_RANGE, and one at or above the entries held NO_SUCH. -/
def Obligations.ClaimReadsInFireOrder : Prop :=
  ∀ (s : State) (b : BitVec 8),
    (fireOrder s).Perm s.contest.claims ∧
    (fireOrder s).Pairwise (fun x y => x.state = .firing ∨
      (y.state ≠ .firing ∧ pulsesToFire s x.slot ≤ pulsesToFire s y.slot)) ∧
    (6 ≤ b.toNat → Answers (.readClaims b) s s .refusedRange) ∧
    (b.toNat < 6 → s.contest.claims.length ≤ b.toNat → Answers (.readClaims b) s s .noSuch) ∧
    (∀ c, b.toNat < 6 → (fireOrder s)[b.toNat]? = some c → exec (.readClaims b) s = .next (answerData s (
      [(3, s.contest.claims.length), (9, c.slot), (2, c.target.place.val), (4, c.target.tier), (5, c.target.line),
        (2, c.urgency.code), (3, c.state.code)] ++
      (match c.firePos with
        | some f => [(1, 1), (19, f)]
        | none => [(1, 0), (19, 0)]) ++
      [(19, if c.state = .firing then 0 else pulsesToFire s c.slot)] ++
      (match c.pendingEnd with
        | some e => [(1, 1), (2, e.code)]
        | none => [(1, 0), (2, 0)]) ++
      [(1, if c.late then 1 else 0), (1, if c.suspect then 1 else 0)])))

/-- READ VIEW after GO answers with the entry of a slot, an unknown case, an absent announcer, an absent claimant and the slot
position of an UNALIGNED loop under a flag of 0; a slot at or above L is refused REFUSED_RANGE. READ ROSTER answers in every
state with the entry of a station ID, an ID above 15 being refused REFUSED_RANGE. Both change nothing but the response. The data of
a refusal is 0 (log 20). -/
def Obligations.ViewAndRosterReads : Prop :=
  ∀ s : State,
    (s.part.state ≠ .start → ∀ k : BitVec 16,
      (s.slots ≤ k.toNat → exec (.readView k) s = .next (answer s .refusedRange)) ∧
      (k.toNat < s.slots →
        let position := if s.loop.aligned then [(1, 1), (19, slotPosition s k.toNat)] else [(1, 0), (19, 0)]
        let case := fun c : Option CaseId => match c with
          | some c => [(1, 1), (24, c.article), (3, c.form.code)]
          | none => [(1, 0), (24, 0), (3, 0)]
        let by' := fun i : Option Station => match i with
          | some i => [(1, 1), (4, i.val)]
          | none => [(1, 0), (4, 0)]
        let unclaimed := [(1, 0), (4, 0), (2, 0)]
        exec (.readView k) s = .next (answerData s (
          (match s.viewAt k.toNat with
            | .empty => [(2, 0)] ++ case none ++ by' none ++ unclaimed
            | .free c a => [(2, 1)] ++ case c ++ by' a ++ unclaimed
            | .claimed c a cl p => [(2, 2)] ++ case c ++ by' a ++ [(1, 1), (4, cl.val), (2, p.val)]
            | .disputed c a => [(2, 3)] ++ case (some c) ++ by' a ++ unclaimed) ++ position)))) ∧
    (∀ b : BitVec 8, 16 ≤ b.toNat → exec (.readRoster b) s = .next (answer s .refusedRange)) ∧
    ∀ (b : BitVec 8) (i : Fin 16), b.toNat = i.val → exec (.readRoster b) s = .next (answerData s (
      (2, match (s.rosterEntry i).state with
        | .absent => 0
        | .joined => 1
        | .withdrawn => 2
        | .mismatched => 3) ::
      match (s.rosterEntry i).digest with
        | some d => [(1, 1), (16, d)]
        | none => [(1, 0), (16, 0)]))

/-! ### The counters -/

/-- SET COUNTER in every state: a counter outside 0..3, an event code above 19, a filter kind above 2, a filter value out of its
kind's range, and an occupancy event on a counter other than 0 or with a filter are refused REFUSED_RANGE with nothing changed;
accepted, the counter holds the event (code 0 selecting NONE) and the filter with value 0, the others stand, and the answer is
DONE. READ COUNTER answers in every state with value, event code, filter kind and filter value and changes nothing, a counter
outside 0..3 being refused REFUSED_RANGE. -/
def Obligations.SetAndReadCounter : Prop :=
  ∀ (s : State) (c e k v : BitVec 8),
    let bad := 4 ≤ c.toNat ∨ 19 < e.toNat ∨ 2 < k.toNat ∨ (k.toNat = 1 ∧ 16 ≤ v.toNat) ∨ (k.toNat = 2 ∧ 4 ≤ v.toNat) ∨
      (k.toNat = 0 ∧ v.toNat ≠ 0) ∨ ((e.toNat = 18 ∨ e.toNat = 19) ∧ (c.toNat ≠ 0 ∨ k.toNat ≠ 0))
    (bad → Answers (.setCounter c e k v) s s .refusedRange) ∧
    (¬bad → ∃ t x, Answers (.setCounter c e k v) s t .done ∧ t = s.setCounters t.counters ∧
      (∀ i : Fin 4, t.counters[i] = if i.val = c.toNat then x else s.counters[i]) ∧ x.value = 0 ∧
      (x.event.map CounterEvent.code).getD 0 = e.toNat ∧ x.filter.kindCode = k.toNat ∧ x.filter.value = v.toNat) ∧
    (4 ≤ c.toNat → Answers (.readCounter c) s s .refusedRange) ∧
    ∀ i : Fin 4, c.toNat = i.val → exec (.readCounter c) s = .next (answerData s
      [(32, s.counters[i].value), (8, (s.counters[i].event.map CounterEvent.code).getD 0),
        (2, s.counters[i].filter.kindCode), (4, s.counters[i].filter.value)])

/-- A report adds one to every counter whose event it is and whose filter matches it (NONE always, STATION a report with that
sender, PLACE a report with that place), a counter at 4,294,967,295 staying there; it changes no other counter and nothing else.
The occupancy sums of counter 0 add, at each pitch boundary of an ALIGNED loop, the records or the claims that the event leaves:
after GO a forward pulse onto a multiple of P adds, so does a forward realignment of a loop that is RUNNING (none while it is
STOPPED: log 29), and no other command but SET COUNTER and the resets moves them, the rows that are such a pulse (log 1) apart. -/
def Obligations.ReportsAndOccupancyCounted : Prop :=
  (∀ (s : State) (e : CounterEvent) (sender : Option Station) (place : Option PlaceId),
    report s e sender place = s.setCounters (report s e sender place).counters ∧
    ∀ i : Fin 4, (report s e sender place).counters[i] =
      if s.counters[i].event = some e ∧ (match s.counters[i].filter with
          | .none => true
          | .station j => decide (sender = some j)
          | .place p => decide (place = some p)) = true
      then { s.counters[i] with value := min (s.counters[i].value + 1) 4294967295 } else s.counters[i]) ∧
  ∀ (s t : State) (e : CounterEvent), s.counters[0].event = some e → e = .stagingOccupancy ∨ e = .claimOccupancy →
    let held := if e = .stagingOccupancy then t.staging.records.length else t.contest.claims.length
    let added := { s.counters[0] with value := min (s.counters[0].value + held) 4294967295 }
    let boundary := s.loop.aligned = true ∧ (s.loop.counter + 1) % s.loopLen % s.pitch = 0
    let swept := s.loop.aligned = true ∧ s.loop.markAwaited = true ∧ s.loopLen ≤ s.loop.counter + s.timing.tolerance
    (s.part.state ≠ .start → exec .forwardPulse s = .next t →
      t.counters[0] = if boundary then added else s.counters[0]) ∧
    (s.part.state ≠ .start → exec .indexMark s = .next t →
      t.counters[0] = if swept ∧ s.loop.running = true then added else s.counters[0]) ∧
    (∀ c ∈ [Instr.gateEdgeAccepted, .gateCleared, .edgeExpired, .dwellEnd, .windowClosedMissed, .confirmEdge,
      .confirmCleared], exec c s = .next s ∨ exec c s = exec .forwardPulse s) ∧
    ∀ c ∉ [Instr.forwardPulse, .indexMark, .gateEdgeAccepted, .gateCleared, .edgeExpired, .dwellEnd, .windowClosedMissed,
      .confirmEdge, .confirmCleared], resets c = false → (∀ a b d f, c ≠ .setCounter a b d f) → exec c s = .next t →
      t.counters[0] = s.counters[0]

/-! ### The belt -/

/-- Pulses after GO. A forward pulse moves the counter on by one, wrapping at L×P, returns the reverse tally to 0, keeps the
alignment, and restarts the loop-stopped timer; a STOPPED loop becomes RUNNING with its notice. At tol+1 with the mark awaited
it raises INDEX_SLIP with cause MISSING and withdraws the station at once. With UNALIGNED loop, nothing in the gate or the
divert and no search due it does nothing more. A reverse pulse leaves the counter and raises the tally; the eighth in a row
sets it to 0, raises LOOP_REVERSE and withdraws the station at once. -/
def Obligations.PulsesMoveTheCounter : Prop :=
  ∀ s : State, s.part.state ≠ .start →
    let c := (s.loop.counter + 1) % s.loopLen
    let awaited := s.loop.markAwaited = true ∨ (s.loop.aligned = true ∧ c + s.timing.tolerance = s.loopLen)
    let missing := s.loop.aligned = true ∧ awaited ∧ c = s.timing.tolerance + 1
    (∃ t, exec .forwardPulse s = .next t ∧ t.loop.counter = c ∧ t.loop.aligned = s.loop.aligned ∧
      t.loop.reverseTally = 0 ∧ t.loop.running = true ∧ t.loop.stopTimer = some 0 ∧
      (t.loop.markAwaited = true ↔ awaited ∧ ¬missing) ∧ t.config = s.config ∧ t.pins = s.pins ∧
      (s.loop.running = false → s.port.notices.length < 32 → .loopRunning ∈ t.port.notices) ∧
      (missing → t.part.slipCause = some .missing ∧ t.fault .indexSlip = ⟨true, false, false⟩ ∧ WithdrawnAtOnce s t 2)) ∧
    (s.loop.aligned = false → s.loop.running = true → s.gate.edges = [] → (s.gate.deglitch = .clear ∨ s.gate.deglitch = .blocked) →
      (s.divert.deglitch = .clear ∨ s.divert.deglitch = .blocked) → s.divert.fire = none → s.contest.searchDue = false →
      exec .forwardPulse s = .next (s.setLoop { s.loop with counter := c, reverseTally := 0, stopTimer := some 0 })) ∧
    (s.loop.reverseTally + 1 < 8 → ∃ t, exec .reversePulse s = .next t ∧
      t.loop = { s.loop with reverseTally := s.loop.reverseTally + 1, running := true, stopTimer := some 0 } ∧
      t.gate = s.gate ∧ t.line = s.line ∧ t.view = s.view ∧ t.plans = s.plans ∧ t.contest = s.contest ∧
      t.divert = s.divert ∧ t.staging = s.staging ∧ t.part.state = s.part.state ∧ t.counters = s.counters ∧
      (s.loop.running = true → t = s.setLoop t.loop)) ∧
    (8 ≤ s.loop.reverseTally + 1 → ∃ t, exec .reversePulse s = .next t ∧
      t.loop = { s.loop with reverseTally := 0, running := true, stopTimer := some 0 } ∧ t.gate = s.gate ∧
      t.fault .loopReverse = ⟨true, false, false⟩ ∧ WithdrawnAtOnce s t 3)

/-- A forward pulse of an ALIGNED loop that meets no MISSING slip, of a part within its laws. Where it reaches k×P the view entry of
slot k becomes EMPTY, its pending edges are lapped and no WAITING ANNOUNCE of it outside an attempt is left; the other entries and
edges stand. Against the position reached, a SENDING claim whose slot is unreachable takes the late mark; a QUEUED one also takes
EXPIRED (an earlier pending end is kept) and, its frame not in an attempt, leaves, counted CLAIM_EXPIRED; an ARMED one of fewer
pulses to fire than the arm lead is COMMITTED. An ARMED or COMMITTED claim with its fire position there, the only one, fires: the
output is ON, the fire holds its slot and place with both counts 0, and it is FIRING. Every other claim but FIRING ones stands. The
order within the pulse is log 7. -/
def Obligations.AlignedPulseReachesPosition : Prop :=
  ∀ s : State, Running s → s.loop.aligned = true →
    let c := (s.loop.counter + 1) % s.loopLen
    let position := fun k : Nat => posMod ((c : Int) - (k * s.pitch : Nat)) s.loopLen
    let near := fun k : Nat => position k < s.divertPos ∧ s.timing.armLead ≤ s.divertPos - position k
    let pulses := fun k : Nat => posMod ((s.divertPos : Int) - position k) s.loopLen
    let passes := fun k : Nat => k * s.pitch = c
    ¬(c = s.timing.tolerance + 1 ∧ (s.loop.markAwaited = true ∨ c + s.timing.tolerance = s.loopLen)) →
    ∃ t, exec .forwardPulse s = .next t ∧
      (∀ k, k < s.slots → t.viewAt k = if passes k then .empty else s.viewAt k) ∧
      ((∀ a b n, s.gate.deglitch ≠ .blocking a b n) →
        t.gate.edges = (agedEdges s).map (fun e => if passes e.slot then { e with lapped := true } else e)) ∧
      (∀ k, passes k → ∀ y ∈ t.line.tx, y.frame.isAnnounceFor k = true → y.sending = true ∨ y.inAttempt = true) ∧
      ∀ k x, s.claimAt k = some x →
        let idle := ∃ y ∈ s.line.tx, y.frame.isClaimFor k = true ∧ y.sending = false ∧ y.inAttempt = false
        let fires := (x.state = .armed ∨ x.state = .committed) ∧ x.firePos = some c
        let alone := ∀ z ∈ s.contest.claims, z ≠ x → ¬((z.state = .armed ∨ z.state = .committed) ∧ z.firePos = some c)
        (x.state = .sending → t.claimAt k = some (if near k then x else { x with late := true })) ∧
        (x.state = .queued → near k → t.claimAt k = some x) ∧
        (x.state = .queued → ¬near k → ¬idle →
          t.claimAt k = some { x with late := true, pendingEnd := some (x.pendingEnd.getD .expired) }) ∧
        (x.state = .queued → ¬near k → idle → t.claimAt k = none ∧ (x.pendingEnd = none → ∀ i : Fin 4,
          s.counters[i].event = some .claimExpired →
          s.counters[i].filter = .none ∨ s.counters[i].filter = .place x.target.place →
          min (s.counters[i].value + 1) 4294967295 ≤ t.counters[i].value)) ∧
        (x.state = .armed → x.firePos ≠ some c →
          t.claimAt k = some (if pulses k < s.timing.armLead then { x with state := .committed } else x)) ∧
        (x.state = .committed → x.firePos ≠ some c → t.claimAt k = some x) ∧
        (fires → alone → t.divert.output = true ∧ t.divert.fire = some ⟨k, x.target.place, some 0, some 0⟩ ∧
          t.claimAt k = some { x with state := .firing })

/-- An index mark after GO. UNALIGNED it is the first alignment: counter 0, ALIGNED, no passage and no fire. In the upper part of
the index window with the mark awaited the counter goes to 0, slot 0 makes its induction passage, its pending edges are lapped,
and an ARMED or COMMITTED claim whose fire position is swept, the only one, fires: the output is ON, the fire holds its slot and
place with both counts 0 and it is FIRING, an earlier window still open closing as MISSED, counted, with its notice, the frame and
the end of its entry; the claims that have not fired are tested at every position swept, 0 the last (with the tolerance that GO
demands). In the lower part it goes back to 0 and sweeps nothing, and the claims are tested against counter 0 (TestedAt; both in a
part within its laws). These three are accepted: a LISTENING station counts them and is ACTIVE at the second. In the window with no
mark awaited the mark is ignored. Outside the window it is an INDEX_SLIP, LATE in the first half of the loop and EARLY in the second, which sets the
counter to 0, stays ALIGNED and withdraws the station at once. -/
def Obligations.IndexMarkClassified : Prop :=
  ∀ s : State, s.part.state ≠ .start →
    let c := s.loop.counter
    let upper := s.loopLen ≤ c + s.timing.tolerance
    let lower := c ≤ s.timing.tolerance
    let accepted := fun t : State =>
      (s.part.state ≠ .listening → t.part.state = s.part.state ∧ t.part.listeningMarks = s.part.listeningMarks) ∧
      (s.part.state = .listening → t.part.listeningMarks = s.part.listeningMarks + 1 ∧
        t.part.state = if 2 ≤ s.part.listeningMarks + 1 then .active else .listening)
    (s.loop.aligned = false → ∃ t, exec .indexMark s = .next t ∧
      t.loop = { s.loop with counter := 0, aligned := true, markAwaited := false } ∧ t.gate = s.gate ∧ t.view = s.view ∧
      t.divert = s.divert ∧ t.staging = s.staging ∧ accepted t) ∧
    (s.loop.aligned = true → upper → s.loop.markAwaited = true → ∃ t, exec .indexMark s = .next t ∧
      t.loop = { s.loop with counter := 0, markAwaited := false } ∧ t.view = s.view.set 0 .empty ∧
      t.gate.edges = s.gate.edges.map (fun e => if e.slot = 0 then { e with lapped := true } else e) ∧
      t.gate.deglitch = s.gate.deglitch ∧ t.divert.deglitch = s.divert.deglitch ∧ accepted t ∧
      (let swept := fun x : Claim => (x.state = .armed ∨ x.state = .committed) ∧ ∃ f, x.firePos = some f ∧ (c < f ∨ f = 0)
       ((∃ x ∈ s.contest.claims, swept x) → t.divert.output = true) ∧
       ((∀ x ∈ s.contest.claims, ¬swept x) → t.divert = s.divert) ∧
       (Running s → ∀ k x, s.claimAt k = some x →
        (swept x → (∀ z ∈ s.contest.claims, z ≠ x → ¬swept z) → t.claimAt k = some { x with state := .firing } ∧
          t.divert.fire = some ⟨k, x.target.place, some 0, some 0⟩ ∧
          ∀ f n, s.divert.fire = some f → f.window = some n → CountedOnce s t .missed f.place ∧
            (s.port.notices.length < 32 → .divertMissed f.slot f.place ∈ t.port.notices) ∧
            ∀ y, s.claimAt f.slot = some y → y.state = .firing → (∃ m ∈ t.line.tx, m.frame = .missed f.slot) ∧
              ∀ z ∈ t.contest.claims, z.slot = f.slot → z.state ≠ .firing) ∧
        (¬swept x → s.timing.tolerance ≤ s.pitch / 4 → TestedAt s t (sweptValues s) k x)))) ∧
    (s.loop.aligned = true → ¬upper → lower → s.loop.markAwaited = true → ∃ t, exec .indexMark s = .next t ∧
      t.loop = { s.loop with counter := 0, markAwaited := false } ∧ t.gate = s.gate ∧ t.view = s.view ∧
      t.divert = s.divert ∧ t.staging = s.staging ∧ accepted t ∧
      (Running s → ∀ k x, s.claimAt k = some x → TestedAt s t [0] k x)) ∧
    (s.loop.aligned = true → upper ∨ lower → s.loop.markAwaited = false → exec .indexMark s = .next s) ∧
    (s.loop.aligned = true → ¬upper → ¬lower → ∃ t, exec .indexMark s = .next t ∧
      t.loop = { s.loop with counter := 0, markAwaited := false } ∧ t.gate = s.gate ∧
      t.part.slipCause = some (if c < s.loopLen / 2 then .late else .early) ∧
      t.fault .indexSlip = ⟨true, false, false⟩ ∧ WithdrawnAtOnce s t 2)

/-- The eyes after GO, by the deglitch tables. A rise of GEYE starts a candidate from CLEAR with the counter value and the
alignment at this event and returns CLEARING to BLOCKED; a fall discards a candidate and starts CLEARING from BLOCKED. CEYE moves
its deglitch the same way without a candidate, its rise starts the jam timer from zero, its fall halts it, and the first fall
after DIVERT_JAM also ends the jam condition and leaves the indication and the shown mark. Nothing else changes. -/
def Obligations.EyesMoveTheDeglitch : Prop :=
  ∀ s : State, s.part.state ≠ .start →
    let up := s.setPins { s.pins with gateEye := true }
    let down := s.setPins { s.pins with gateEye := false }
    let cup := fun d => (s.setPins { s.pins with confirmEye := true }).setDivert { s.divert with jamTimer := some 0, deglitch := d }
    let cdown := (s.setPins { s.pins with confirmEye := false }).setDivert { s.divert with
      jamTimer := none
      jam := false
      deglitch := match s.divert.deglitch with
        | .clear => .clear
        | .blocking _ => .clear
        | .blocked => .clearing 0
        | .clearing n => .clearing n }
    (match s.gate.deglitch with
      | .clear => exec .gateEyeRise s =
          .next (up.setGate { s.gate with deglitch := .blocking s.loop.counter s.loop.aligned 0 }) ∧
          exec .gateEyeFall s = .next down
      | .blocking _ _ _ => exec .gateEyeRise s = .next up ∧
          exec .gateEyeFall s = .next (down.setGate { s.gate with deglitch := .clear })
      | .blocked => exec .gateEyeRise s = .next up ∧
          exec .gateEyeFall s = .next (down.setGate { s.gate with deglitch := .clearing 0 })
      | .clearing _ => exec .gateEyeRise s = .next (up.setGate { s.gate with deglitch := .blocked }) ∧
          exec .gateEyeFall s = .next down) ∧
    exec .confirmEyeRise s = .next (cup (match s.divert.deglitch with
      | .clear => .blocking 0
      | .blocking n => .blocking n
      | .blocked => .blocked
      | .clearing _ => .blocked)) ∧
    (s.divert.jam = false → exec .confirmEyeFall s = .next cdown) ∧
    (s.divert.jam = true → exec .confirmEyeFall s =
      .next (setFault cdown .divertJam { s.fault .divertJam with condition := false }))

/-- The forward pulses at the Gate Unit. The pulse that brings the deglitch count to its length in BLOCKING makes the state BLOCKED
and, where the candidate's aligned mark is set, appends a pending edge with the captured value, its slot and scan age 0, the oldest
of four being dropped; in CLEARING it makes the state CLEAR. On each of these pulses, and on the pulse that brings a scan age to the
scan window, the pending edges age by one and those that reach the window leave, each counted as a NO_READ. The rows name those
pulses: where the next pulse is none such they change nothing (log 1). An edge's lapped mark is left out (log 7). -/
def Obligations.GatePulsesAcceptClearAndExpire : Prop :=
  ∀ s : State, s.part.state ≠ .start →
    let old := agedEdges s
    (∀ start al n, s.gate.deglitch = .blocking start al n → s.timing.gateDeglitch ≤ n + 1 →
      ∃ t, exec .gateEdgeAccepted s = .next t ∧ t.gate.deglitch = .blocked ∧ t.gate.report = s.gate.report ∧
        t.gate.edges.map edgeId = (if al = true then
            (if old.length < 4 then old else old.drop 1).map edgeId ++
              [(start, posMod ((start : Int) - s.gatePos) s.loopLen / s.pitch, 0)]
          else old.map edgeId)) ∧
    (∀ n, s.gate.deglitch = .clearing n → s.timing.gateDeglitch ≤ n + 1 →
      ∃ t, exec .gateCleared s = .next t ∧ t.gate.deglitch = .clear ∧ t.gate.edges.map edgeId = old.map edgeId ∧
        t.gate.report = s.gate.report) ∧
    ((∃ e ∈ s.gate.edges, s.timing.scanWindow ≤ e.age + 1) → (∀ a b n, s.gate.deglitch ≠ .blocking a b n) →
      ∃ t, exec .edgeExpired s = .next t ∧ t.gate.edges.map edgeId = old.map edgeId ∧
        old.length < s.gate.edges.length ∧ t.gate.report = s.gate.report ∧
        ∀ i : Fin 4, s.counters[i].event = some .noRead → s.counters[i].filter = .none →
          t.counters[i].value = min (s.counters[i].value + (s.gate.edges.length - old.length)) 4294967295) ∧
    (gateAcceptDue s = false → exec .gateEdgeAccepted s = .next s) ∧
    (gateClearDue s = false → exec .gateCleared s = .next s) ∧
    ((∀ e ∈ s.gate.edges, e.age + 1 < s.timing.scanWindow) → exec .edgeExpired s = .next s)

/-- Scanner characters and reports after GO. A character short of the sixth joins the report in progress. A report that completes
consumes the oldest pending edge: a no-read report is one NO_READ; a read report is announced with the edge's slot where the edge is
not lapped, the station is ACTIVE and the view entry of the slot asks for it, and is otherwise discarded; with no edge pending it
is one SCAN_STRAY. A report is read exactly where its six characters have their stop bits, kind 1, a form 0..5 and a check byte that
makes their sum 255 mod 256. A gap ends an incomplete report as a no-read; with no report in progress the row changes nothing (log
4). How an announced frame is taken is stated at TransmitQueueTakesAndOrders. -/
def Obligations.ScannerReportsPaired : Prop :=
  ∀ s : State, s.part.state ≠ .start → s.gate.report.length < 6 →
    (∀ c, s.gate.report.length + 1 < 6 →
      exec (.scannerCharacter c) s = .next (s.setGate { s.gate with report := s.gate.report ++ [c], gap := 0 })) ∧
    (∀ c, s.gate.report.length + 1 = 6 → exec (.scannerCharacter c) s = exec (.scannerReport [c]) s) ∧
    (∀ cs : List ScanChar, s.gate.report.length + cs.length = 6 →
      let all := s.gate.report ++ cs
      let done := fun es => s.setGate { s.gate with edges := es, report := [], gap := 0 }
      (s.gate.edges = [] → exec (.scannerReport cs) s = .next (report (done []) .scanStray none none)) ∧
      ∀ e rest, s.gate.edges = e :: rest →
        (reportCase all = none → exec (.scannerReport cs) s = .next (report (done rest) .noRead none none)) ∧
        ∀ c, reportCase all = some c →
          let wanted := match s.viewAt e.slot with
            | .empty => True
            | .free d _ => d ≠ some c
            | .claimed d _ _ _ => d ≠ some c
            | .disputed _ _ => False
          (e.lapped = true ∨ s.part.state ≠ .active ∨ ¬wanted → exec (.scannerReport cs) s = .next (done rest)) ∧
          (e.lapped = false → s.part.state = .active → wanted →
            exec (.scannerReport cs) s = .next (offerFrame (done rest) (.announce e.slot c)))) ∧
    (∀ (all : List ScanChar) (c : CaseId),
      let byte := fun i => ((all.map ScanChar.data).getD i 0).toNat
      reportCase all = some c ↔ (all.length = 6 ∧ (∀ x ∈ all, x.stopHigh = true) ∧ byte 0 = 1 ∧
        c.article = byte 1 * 65536 + byte 2 * 256 + byte 3 ∧ c.form.code = byte 4 ∧
        byteSum (all.map ScanChar.data) % 256 = 255)) ∧
    (s.gate.report = [] → exec .reportGapTimeout s = .next s) ∧
    (s.gate.report ≠ [] → ∃ t, exec .reportGapTimeout s = .next t ∧ t.gate.report = [] ∧ t.gate.gap = 0 ∧
      t.gate.edges = s.gate.edges.drop 1 ∧ t.gate.deglitch = s.gate.deglitch ∧
      t.counters = (report s (if s.gate.edges = [] then .scanStray else .noRead) none none).counters ∧
      t.line = { s.line with stuckTimer := t.line.stuckTimer } ∧
      t.view = s.view ∧ t.contest = s.contest ∧ t.plans = s.plans ∧ t.staging = s.staging)

/-- The forward pulses at the Divert Unit. The pulse that completes the confirm deglitch in BLOCKING accepts a confirm edge: with the
window of a fire open it is TAKEN (absent a MISSING slip on that pulse): the case is staged for a BUILDING or SUSPENDED place with
the next arrival number, SUSPECT, PLACEABLE or WAITING, and for a CANCELLING place as ORPHAN, and TAKEN is queued; with no fire it
is a CONFIRM_STRAY and no more. The record's case is the view entry's, or the target line's where the entry holds none (log 17).
TAKEN is counted for the fire's place, CASE_STAGED or CASE_ORPHANED joins the notices, and the line staged for has staged one higher
and claimed at the number of its claims. In CLEARING the edge makes the state CLEAR. The pulse that completes the dwell turns the output OFF unless
a claim fires on it. The pulse that completes the window without a confirm edge queues MISSED, counted for the fire's place, the
entry is FIRING no longer, and its line has claimed at the number of its claims, staged and placed standing. Line counts are stated
for a place BUILDING or SUSPENDED of a part whose books hold (Running, CountLaw).
Where the next pulse is none such the rows change nothing (log 1). -/
def Obligations.DivertPulsesDecideTheFire : Prop :=
  ∀ s : State, s.part.state ≠ .start →
    let c := (s.loop.counter + 1) % s.loopLen
    let slips := s.loop.aligned = true ∧ c = s.timing.tolerance + 1 ∧
      (s.loop.markAwaited = true ∨ c + s.timing.tolerance = s.loopLen)
    (∀ x : Claim, takenCase s x = match s.viewAt x.slot, s.lineAt x.target with
      | .free (some d) _, _ => d
      | .claimed (some d) _ _ _, _ => d
      | .disputed d _, _ => d
      | _, some l => l.case
      | _, none => takenCase s x) ∧
    (∀ n, s.divert.deglitch = .blocking n → s.timing.confirmDeglitch ≤ n + 1 →
      (∀ f m x, s.divert.fire = some f → f.window = some m → firingClaim s f.slot = some x → ¬slips →
        ∃ t, exec .confirmEdge s = .next t ∧ t.divert.deglitch = .blocked ∧
          (∃ y ∈ t.line.tx, y.frame = .taken f.slot x.target.place) ∧ CountedOnce s t .taken f.place ∧
          ((s.place x.target.place).state = .building ∨ (s.place x.target.place).state = .suspended →
            let st : RecordState := if x.suspect then .suspect
              else if (s.place x.target.place).state = .building ∧
                (s.place x.target.place).currentTier = some x.target.tier then .placeable else .waiting
            t.staging.records = s.staging.records ++ [⟨s.staging.nextArrival, x.slot, takenCase s x, some x.target, st⟩] ∧
            (s.port.notices.length + 2 ≤ 32 → .caseStaged s.staging.nextArrival x.target st ∈ t.port.notices) ∧
            (Running s → CountLaw s → ∀ l, s.lineAt x.target = some l → ∃ l', t.lineAt x.target = some l' ∧ l'.case = l.case ∧
              l'.quantity = l.quantity ∧ l'.staged = l.staged + 1 ∧ l'.placed = l.placed ∧
              l'.claimed = claimsOn t x.target)) ∧
          ((s.place x.target.place).state = .cancelling → t.staging.records = s.staging.records ++
            [⟨s.staging.nextArrival, x.slot, takenCase s x, none, .orphan⟩] ∧
            (s.port.notices.length + 2 ≤ 32 → .caseOrphaned s.staging.nextArrival ∈ t.port.notices))) ∧
      (s.divert.fire = none → s.loop.aligned = false → s.loop.running = true → s.gate.edges = [] →
        s.gate.deglitch = .clear → s.contest.searchDue = false → exec .confirmEdge s = .next (report
          ((s.setLoop { s.loop with counter := c, reverseTally := 0, stopTimer := some 0 }).setDivert
            { s.divert with deglitch := .blocked }) .confirmStray none none))) ∧
    (∀ n, s.divert.deglitch = .clearing n → s.timing.confirmDeglitch ≤ n + 1 →
      ∃ t, exec .confirmCleared s = .next t ∧ t.divert.deglitch = .clear) ∧
    (∀ f n, s.divert.fire = some f → f.dwell = some n → s.timing.dwell ≤ n + 1 → ∃ t, exec .dwellEnd s = .next t ∧
      ((∀ x ∈ s.contest.claims, x.firePos ≠ some c) →
        t.divert.output = false ∧ ∀ g, t.divert.fire = some g → g.slot = f.slot ∧ g.dwell = none)) ∧
    (∀ f n x, s.divert.fire = some f → f.window = some n → s.timing.confirmWindow ≤ n + 1 → confirmEdgeDue s = false →
      s.claimAt f.slot = some x → x.state = .firing → ∃ t, exec .windowClosedMissed s = .next t ∧
        (∃ y ∈ t.line.tx, y.frame = .missed f.slot) ∧ CountedOnce s t .missed f.place ∧
        (∀ d ∈ t.contest.claims, d.state = .firing → d.slot ≠ f.slot) ∧
        (Running s → CountLaw s → (s.place x.target.place).state = .building ∨ (s.place x.target.place).state = .suspended →
          ∀ l, s.lineAt x.target = some l → ∃ l', t.lineAt x.target = some l' ∧ l'.case = l.case ∧
            l'.quantity = l.quantity ∧ l'.staged = l.staged ∧ l'.placed = l.placed ∧ l'.claimed = claimsOn t x.target) ∧
        t.staging.records.map (·.arrival) = s.staging.records.map (·.arrival) ∧
        (s.port.notices.length + 4 ≤ 32 → .divertMissed f.slot f.place ∈ t.port.notices)) ∧
    (confirmEdgeDue s = false → exec .confirmEdge s = .next s) ∧
    (confirmClearDue s = false → exec .confirmCleared s = .next s) ∧
    (dwellEndDue s = false → exec .dwellEnd s = .next s) ∧
    (windowMissDue s = false → exec .windowClosedMissed s = .next s)

/-- The jam timer reaching the jam time raises DIVERT_JAM, halts the timer, sets the jam condition, leaves the confirm deglitch state
and the counter, and withdraws the station at once; with the timer halted the row changes nothing (log 4). -/
def Obligations.DivertJamWithdraws : Prop :=
  ∀ s : State,
    (s.divert.jamTimer = none → exec .divertJam s = .next s) ∧
    ∀ n, s.divert.jamTimer = some n → ∃ t, exec .divertJam s = .next t ∧ t.divert.jam = true ∧ t.divert.jamTimer = none ∧
      t.divert.deglitch = s.divert.deglitch ∧ t.loop.counter = s.loop.counter ∧ t.loop.aligned = s.loop.aligned ∧
      t.fault .divertJam = ⟨true, false, true⟩ ∧ WithdrawnAtOnce s t 4

/-- The place-ready watch: rises and falls of its input move it between READY and DROPPING and between NOT_READY and RISING, the timer
from zero, and move the level alone in its other states. The timer reaching the deglitch time in DROPPING makes it NOT_READY and
raises PLACE_NOT_READY(p): in PLACE scope a BUILDING place p is SUSPENDED and the station stays in its state; in CELL scope no place
is left BUILDING and the station withdraws with reason 7. In RISING the condition ends, the indication stays, and in PLACE scope
with AUTO recovery a SUSPENDED place is BUILDING again. With the timer halted the row changes nothing (log 4). -/
def Obligations.PlaceReadyWatch : Prop :=
  ∀ (s : State) (p : Fin 4),
    let up := s.setPins { s.pins with placeReady := s.pins.placeReady.set p true }
    let down := s.setPins { s.pins with placeReady := s.pins.placeReady.set p false }
    let watch := fun (t : State) (w : WatchState) => t.setPart { s.part with watches := s.part.watches.set p ⟨w, 0⟩ }
    exec (.placeReadyRise p) s = .next (match (s.watch p).state with
      | .dropping => watch up .ready
      | .notReady => watch up .rising
      | .unwatched => up
      | .ready => up
      | .rising => up) ∧
    exec (.placeReadyFall p) s = .next (match (s.watch p).state with
      | .ready => watch down .dropping
      | .rising => watch down .notReady
      | .unwatched => down
      | .dropping => down
      | .notReady => down) ∧
    ((s.watch p).state ≠ .dropping → (s.watch p).state ≠ .rising → exec (.placeReadyTimer p) s = .next s) ∧
    ((s.watch p).state = .dropping → ∃ t, exec (.placeReadyTimer p) s = .next t ∧ t.watch p = ⟨.notReady, 0⟩ ∧
      t.fault (.placeNotReady p) = ⟨true, false, true⟩ ∧ t.view = s.view ∧ t.config = s.config ∧ t.pins = s.pins ∧
      (s.policy.scope = .place → t.part.state = s.part.state ∧
        (t.place p).state = (if (s.place p).state = .building then .suspended else (s.place p).state) ∧
        ∀ q, q ≠ p → (t.place q).state = (s.place q).state) ∧
      (s.policy.scope = .cell → t.part.state = .withdrawn ∧ (∃ x ∈ t.line.tx, x.frame = .withdraw 7) ∧
        ∀ q, (s.place q).state ≠ .cancelling →
          (t.place q).state = (if (s.place q).state = .building then .suspended else (s.place q).state))) ∧
    ((s.watch p).state = .rising → ∃ t, exec (.placeReadyTimer p) s = .next t ∧
      t.fault (.placeNotReady p) = { s.fault (.placeNotReady p) with condition := false } ∧
      t.part.state = s.part.state ∧ t.view = s.view ∧
      (s.policy.scope = .place → s.policy.recovery = .auto → (s.place p).state = .suspended →
        (t.place p).state = .building) ∧
      (s.policy.scope = .cell ∨ s.policy.recovery = .latched → (∀ q, (t.place q).state = (s.place q).state) ∧
        t.watch p = ⟨if (s.place p).state = .building then .ready else .unwatched, 0⟩))

/-- Suspension and resumption. In PLACE scope the raising of PLACE_NOT_READY(p) for a BUILDING place makes its PLACEABLE records
WAITING, no other record moving, keeps its tier and its place in the build order, and ends its claims as CANCELLED: an ARMED one
leaves with RELEASE(CANCELLED) queued, a QUEUED or SENDING one has the end recorded, an earlier one kept, and leaves where its frame
waits outside an attempt (nothing of the place is claimed anew); COMMITTED and FIRING ones, and the claims of other places, stand.
The end of the condition in AUTO recovery makes a SUSPENDED place's WAITING records of its current tier PLACEABLE, with a
CASE_PLACEABLE notice for each in arrival order. In CELL scope the raising does the same to the records and ARMED claims of every
BUILDING place, and CLEAR FAULTS that leaves no PLACE_NOT_READY set after clearing one resumes every SUSPENDED place (no watch
live); while one is left it resumes none. -/
def Obligations.SuspensionAndResumption : Prop :=
  ∀ s : State, Running s →
    let clears := fun i : Fin 13 => s.part.faults[i].indication && s.part.faults[i].shown && !s.part.faults[i].condition
    let placeAt := fun p : Fin 4 => (⟨6 + p.val, by omega⟩ : Fin 13)
    (∀ p : Fin 4, s.policy.scope = .place → (s.watch p).state = .dropping → (s.place p).state = .building →
      ∃ t, exec (.placeReadyTimer p) s = .next t ∧
        t.staging.records = s.staging.records.map (fun r =>
          if r.forPlace p = true ∧ r.state = .placeable then { r with state := .waiting } else r) ∧
        (t.place p).currentTier = (s.place p).currentTier ∧ t.plans.buildOrder = s.plans.buildOrder ∧
        (∀ y ∈ t.contest.claims, y.target.place = p → ∃ x ∈ s.contest.claims, x.slot = y.slot ∧ x.target = y.target) ∧
        ∀ k x, s.claimAt k = some x →
          let waits := ∃ y ∈ s.line.tx, y.frame.isClaimFor k = true ∧ y.sending = false ∧ y.inAttempt = false
          (x.target.place ≠ p → t.claimAt k = some x) ∧
          (x.target.place = p →
            (x.state = .armed → x ∉ t.contest.claims ∧ ∃ y ∈ t.line.tx, y.frame = .release k .cancelled) ∧
            (x.state = .committed ∨ x.state = .firing → t.claimAt k = some x) ∧
            (x.state = .queued ∧ waits → ∀ y ∈ t.contest.claims, y.slot = k → y.target.place ≠ p) ∧
            (x.state = .sending ∨ (x.state = .queued ∧ ¬waits) →
              t.claimAt k = some { x with pendingEnd := some (x.pendingEnd.getD .cancelled) }))) ∧
    (∀ (p : Fin 4) (n : Nat), s.policy.scope = .place → s.policy.recovery = .auto → (s.watch p).state = .rising →
      (s.place p).state = .suspended → (s.place p).currentTier = some n →
      let hit := fun r : StagingRecord => r.forTier p n && decide (r.state = .waiting)
      ∃ t, exec (.placeReadyTimer p) s = .next t ∧ (t.place p).state = .building ∧
        (t.place p).currentTier = some n ∧ t.plans.buildOrder = s.plans.buildOrder ∧
        t.watch p = ⟨if s.pins.placeReady[p] then .ready else .dropping, 0⟩ ∧
        t.staging.records = s.staging.records.map (fun r => if hit r then { r with state := .placeable } else r) ∧
        (s.port.notices.length + (s.staging.records.filter hit).length ≤ 32 →
          t.port.notices = s.port.notices ++ (s.staging.records.filter hit).map (fun r => .casePlaceable r.arrival))) ∧
    (∀ p : Fin 4, s.policy.scope = .cell → (s.watch p).state = .dropping → ∃ t, exec (.placeReadyTimer p) s = .next t ∧
      t.staging.records = s.staging.records.map (fun r =>
        if (∃ q, r.forPlace q = true ∧ (s.place q).state = .building) ∧ r.state = .placeable
        then { r with state := .waiting } else r) ∧
      ∀ k x, s.claimAt k = some x → x.state = .armed → (s.place x.target.place).state = .building →
        t.claimAt k = none ∧ ∃ y ∈ t.line.tx, y.frame = .release k .cancelled) ∧
    (s.policy.scope = .cell → s.contest.searchDue = false → (∃ p : Fin 4, clears (placeAt p) = true) → ∃ t, exec .clearFaults s = .next t ∧
      ((∃ p : Fin 4, s.part.faults[placeAt p].indication = true ∧ clears (placeAt p) = false) →
        t.plans = s.plans ∧ t.staging = s.staging) ∧
      ((∀ p : Fin 4, s.part.faults[placeAt p].indication = true → clears (placeAt p) = true) →
        (∀ p, (s.watch p).state = .unwatched ∨ (s.place p).state = .building) →
        (∀ p, (s.place p).state = .suspended → (s.place p).currentTier.isSome = true) →
        (∀ p, (t.place p).state = (if (s.place p).state = .suspended then .building else (s.place p).state)) ∧
        t.staging.records = s.staging.records.map (fun r => match r.target with
          | some g =>
            if (s.place g.place).state = .suspended ∧ (s.place g.place).currentTier = some g.tier ∧ r.state = .waiting
            then { r with state := .placeable } else r
          | none => r)))

/-! ### The hall line -/

/-- Every frame of the hall line, with its fields in range, is read back from its bytes as it was sent, has the length of its kind
with the check byte, and passes a receiver's check; a frame of kind 0 or 8..15 is held by its three data bytes (log 6). -/
def Obligations.HallFramesReadBack : Prop :=
  let back := fun f : Frame =>
    parseFrame f.bytes = f ∧ f.bytes.length = frameDataLength f.kind + 1 ∧ frameCheckOk f.bytes = true
  (∀ k i p, k < 512 → back (.taken k i p)) ∧ (∀ k i, k < 512 → back (.missed k i)) ∧
  (∀ k i r, k < 512 → r < 8 → back (.release k i r)) ∧
  (∀ u d i k p, u < 4 → d < 512 → k < 512 → back (.claim u d i k p)) ∧
  (∀ k i a f, k < 512 → a < 16777216 → f < 8 → back (.announce k i a f)) ∧
  (∀ i d, d < 65536 → back (.join i d)) ∧ (∀ i r, r < 16 → back (.withdraw i r)) ∧
  ∀ d : List Byte, d.length = 3 → (frameKind d = 0 ∨ 8 ≤ frameKind d) → back (.unknown d)

/-- The line state and the beginning of an attempt. A start bit makes a FREE line CARRYING and restarts the run of a SEEKING one, and
sets the stuck timer running where it was halted; the run of 12 makes a SEEKING line that is not stuck FREE and halts the timer. A
station whose line is FREE and not stuck, with no held own frame and no attempt in progress, begins one with the head of its
transmit queue, a CLAIM with its distance of this moment; otherwise nothing happens. A start bit on a line that is OFF, and the row
LINE_FREE on one that is not SEEKING or is stuck, change nothing (log 4); the levels that the stuck timer is told by rows are log
30. The order of the queue, whose key TransmitQueueTakesAndOrders states, holds each frame once, none before another that the order
puts first. -/
def Obligations.LineStatesAndAttempts : Prop :=
  ∀ s : State,
    let dominant := some (s.line.stuckTimer.getD 0)
    exec .startBitBegins s = .next (match s.line.state with
      | .free => s.setLine { s.line with state := .carrying, recessiveRun := 0, stuckTimer := dominant }
      | .seeking => s.setLine { s.line with recessiveRun := 0, stuckTimer := dominant }
      | .off => s
      | .carrying => s.setLine { s.line with stuckTimer := dominant }) ∧
    (s.line.state = .seeking → s.line.stuck = false →
      exec .lineFree s = .next (s.setLine { s.line with state := .free, recessiveRun := 12, stuckTimer := none })) ∧
    (s.line.state ≠ .seeking ∨ s.line.stuck = true → exec .lineFree s = .next s) ∧
    (s.line.state = .free → s.line.stuck = false → s.line.held = none → s.line.attempt = none → ∀ x rest,
      txOrder s = x :: rest → exec .sendAttempt s = .next (s.setLine { s.line with
        state := .carrying
        recessiveRun := 0
        stuckTimer := dominant
        tx := modifyFirst (fun y => decide (y = x)) (fun y => { y with inAttempt := true }) s.line.tx
        attempt := some ⟨x.frame.onLine s.ownId (match x.frame with
          | .claim _ k _ => pulsesToFire s k / s.pitch
          | _ => 0), false, none⟩ })) ∧
    (s.line.state ≠ .free ∨ s.line.stuck = true ∨ s.line.held ≠ none ∨ s.line.attempt ≠ none ∨ s.line.tx = [] →
      exec .sendAttempt s = .next s) ∧
    (txOrder s).Perm s.line.tx ∧ (txOrder s).Pairwise (fun a b => txBefore s b a = false)

/-- The transmit queue. An ANNOUNCE is dropped, counted ANNOUNCE_DROPPED, at 5 of its kind or 12 frames, and else joins as WAITING.
Every other kind joins; at 12 frames the WAITING ANNOUNCE that the order puts last, one in an attempt passed over (log 11), is
dropped for it. The order puts a SENDING frame first and then goes by the kind code, the key fields after it and the remaining
fields, a CLAIM with its distance of now. WITHDRAW and REJOIN take the waiting JOIN or WITHDRAW out and leave their own as the only
one WAITING outside an attempt; one that is SENDING stays, and one in an attempt is marked to be decided at its key. -/
def Obligations.TransmitQueueTakesAndOrders : Prop :=
  ∀ s : State,
    let full := 12 ≤ s.line.tx.length
    let joined := fun (q : List TxFrame) (f : OutFrame) => { s.line with tx := q ++ [⟨f, false, false, false, false⟩] }
    let dropped := report s .announceDropped none none
    let spare := fun y : TxFrame => y ∈ s.line.tx ∧ y.frame.isAnnounce = true ∧ y.sending = false ∧ y.inAttempt = false
    let idle := fun q : List TxFrame => q.filter (fun y => y.frame.isParticipation && !y.sending && !y.inAttempt)
    let kept := fun t : State => ∀ y ∈ s.line.tx, y.frame.isParticipation = true →
      (y.sending = true → y ∈ t.line.tx) ∧
      (y.sending = false → y.inAttempt = true → { y with withdrawAsked := true } ∈ t.line.tx)
    let key := fun f : OutFrame => match f with
      | .taken k p => [1, k, p.val]
      | .missed k => [2, k]
      | .release k r => [3, k, r.code]
      | .claim u k p => [4, u.code, pulsesToFire s k / s.pitch, k, p.val]
      | .announce k c => [5, k, c.article, c.form.code]
      | .join d => [6, d]
      | .withdraw r => [7, r]
    (∀ f : OutFrame, f.isAnnounce = true →
      let many := 5 ≤ (s.line.tx.filter (fun y => y.frame.isAnnounce)).length
      (many ∨ full → offerFrame s f = dropped) ∧ (¬many → ¬full → offerFrame s f = s.setLine (joined s.line.tx f))) ∧
    (∀ f : OutFrame, f.isAnnounce = false →
      (¬full ∨ (∀ y, ¬spare y) → offerFrame s f = s.setLine (joined s.line.tx f)) ∧
      (full → (∃ y, spare y) → ∃ y, spare y ∧ (∀ z, spare z → txBefore s y z = false) ∧
        offerFrame s f = dropped.setLine (joined (s.line.tx.reverse.erase y).reverse f))) ∧
    (∀ a b : TxFrame, txBefore s a b = true ↔ (a.sending = true ∧ b.sending = false) ∨
      (a.sending = b.sending ∧ List.Lex (· < ·) (key a.frame) (key b.frame))) ∧
    (s.part.state = .listening ∨ s.part.state = .active → ∃ t, exec .withdraw s = .next t ∧ kept t ∧
      idle t.line.tx = [⟨.withdraw 0, false, false, false, false⟩]) ∧
    (s.part.state = .withdrawn → s.withdrawingSet = false → ∃ t, exec .rejoin s = .next t ∧ kept t ∧
      idle t.line.tx = [⟨.join (s.part.digest.getD 0), false, false, false, false⟩])

/-- The end of the arbitration key. The attempt is lost where some bit of the key that the station sent recessive was read dominant,
and else won: it loses against the bytes of every frame of a smaller key, and never against its own. A won attempt is a send: at the
first its frame becomes SENDING with repeat count 1, and the entry of a CLAIM with an entry becomes SENDING, one without an entry
being held by its slot (R123); at a later one the repeat count rises and FRAME_REPEATED is reported with the place of a CLAIM or
TAKEN. A lost attempt leaves the frame in the queue as it was; a WAITING ANNOUNCE whose withdrawal was asked for leaves it as
ANNOUNCE_DROPPED, and such a CLAIM with its entry, counted by its pending end: what the queue and the slot hold anew then comes from
the search of an ACTIVE station. The stuck timer is halted where the last bit of the key was read recessive, runs from zero where it
was dominant after a recessive one, and runs on where all were dominant (log 30). With no attempt whose key has not ended nothing
happens (log 4). -/
def Obligations.ArbitrationDecides : Prop :=
  (∀ f g : Frame,
    let key := fun x : Frame => bytesToNat (x.bytes.take 3) / 2 ^ (24 - keyBits f.kind)
    lostArbitration f.kind f.bytes f.bytes = false ∧
    (3 ≤ f.bytes.length → 3 ≤ g.bytes.length → key g < key f → lostArbitration f.kind f.bytes g.bytes = true)) ∧
  ∀ (s : State) (read : List Byte),
    let run := exec (.arbitrationEnd read) s
    ((s.line.attempt = none ∨ ∃ a, s.line.attempt = some a ∧ a.won = true) → run = .next s) ∧
    ∀ a x, s.line.attempt = some a → a.won = false → s.line.tx.find? (·.inAttempt) = some x →
      let lost := ∃ i, i < keyBits a.sent.kind ∧ lineBit a.sent.bytes i = true ∧ lineBit read i = false
      let timer := if lineBit read (keyBits a.sent.kind - 1) = true then none
        else if ∃ i, i < keyBits a.sent.kind ∧ lineBit read i = true then some 0 else some (s.line.stuckTimer.getD 0)
      (¬lost → x.sending = false → ∃ t, run = .next t ∧ t.line = { s.line with
          stuckTimer := timer
          attempt := some { a with won := true }
          repeatCount := 1
          tx := modifyFirst (·.inAttempt) (fun y => { y with sending := true, withdrawAsked := false }) s.line.tx } ∧
        (∀ u k p, x.frame = .claim u k p →
          (x.orphaned = true → t.contest = { s.contest with orphans := s.contest.orphans ++ [k] }) ∧
          (x.orphaned = false → ∀ c, s.claimAt k = some c → t.claimAt k = some { c with state := .sending })) ∧
        BeltKept s t ∧ t.view = s.view ∧ t.plans = s.plans ∧ t.staging = s.staging ∧ t.counters = s.counters) ∧
      (¬lost → x.sending = true → run = .next ((s.setLine { s.line with
        stuckTimer := timer
        attempt := some { a with won := true }
        repeatCount := s.line.repeatCount + 1 }).setCounters (report s .frameRepeated none (match x.frame with
          | .claim _ _ p => some p
          | .taken _ p => some p
          | _ => none)).counters)) ∧
      (lost → x.withdrawAsked = false ∨ x.sending = true → s.contest.searchDue = false →
        run = .next (s.setLine { s.line with
          stuckTimer := timer
          attempt := none
          tx := modifyFirst (·.inAttempt) (fun y => { y with inAttempt := false }) s.line.tx })) ∧
      (lost → x.withdrawAsked = true → x.sending = false → s.part.state ≠ .active ∨ s.contest.searchDue = false →
        let left := s.line.tx.eraseP (·.inAttempt)
        ∃ t, run = .next t ∧ t.line.attempt = none ∧ t.line.stuckTimer = timer ∧ BeltKept s t ∧ t.view = s.view ∧
          t.staging = s.staging ∧ (s.part.state ≠ .active ∨ (∀ u k p, x.frame ≠ .claim u k p) → t.line.tx = left) ∧
          (∀ k c, x.frame = .announce k c → t.counters = (report s .announceDropped none none).counters ∧
            t.contest.claims = s.contest.claims) ∧
          (∀ y ∈ t.line.tx, y ∈ left ∨ newClaimFrame y) ∧ (∀ y ∈ left, y.frame.isAnnounce = false → y ∈ t.line.tx) ∧
          (∀ u k p, x.frame = .claim u k p → x.orphaned = false →
            (∀ z, t.claimAt k = some z → z = ⟨k, z.target, z.urgency, .queued, none, none, false, false⟩ ∧
              s.part.state = .active ∧ (s.viewAt k).isFree = true ∧ reachable s k = true) ∧
            ∀ c, s.claimAt k = some c →
              (c.pendingEnd = none ∨ c.pendingEnd = some .lost → CountedOnce s t .claimLost c.target.place) ∧
              (c.pendingEnd = some .expired → CountedOnce s t .claimExpired c.target.place)))

/-- The end of a frame's check byte on a line that is FREE or CARRYING. A heard frame (no attempt, none answered yet) with a length or
check error is answered REFUSE, discarded and counted, the eighth in a row raising RX_ERRORS and withdrawing the station at once;
a whole one returns the count to 0 and is stored at the tail, heard, with ACCEPT, or refused at 8 frames, reported with its sender.
An own send is judged by this row too (log 12): the station drives REFUSE for a full queue, a wrong start or stop bit or a bit error,
reported with the own ID and, for a CLAIM or TAKEN, the frame's place (log 28). The sender of an unknown kind is a free value (log
6). A frame without a length error halts the stuck timer; after another one the last data bit tells the level, as at
the end of a key (log 30). OFF and SEEKING receive nothing; the row on a FREE line and missing bytes are log 13. -/
def Obligations.FramesReceivedAndAnswered : Prop :=
  ∀ (s : State) (bytes : List Byte) (bad : Bool),
    let run := exec (.frameReceived bytes bad) s
    let on := s.line.state = .free ∨ s.line.state = .carrying
    let whole := bad = false ∧ bytes.length = frameDataLength (frameKind bytes) + 1 ∧ byteSum bytes % 256 = 255
    let data := (List.range (8 * bytes.length)).map (lineBit bytes)
    let timer := if bad = false ∨ data.getLast? = some true then none
      else if true ∈ data then some 0 else if data = [] then s.line.stuckTimer else some (s.line.stuckTimer.getD 0)
    (¬on → run = .next s) ∧
    (on → s.line.attempt = none → s.line.answer = none → s.contest.searchDue = false →
      (whole → s.line.rx.length < 8 → run = .next (s.setLine { s.line with
        state := .carrying
        recessiveRun := 0
        stuckTimer := timer
        checkErrors := 0
        rx := s.line.rx ++ [⟨parseFrame bytes, false⟩]
        answer := some .accept })) ∧
      (whole → 8 ≤ s.line.rx.length → run = .next (report (s.setLine { s.line with
        state := .carrying
        recessiveRun := 0
        stuckTimer := timer
        checkErrors := 0
        answer := some .refuse }) .frameRefusedByMe (some (parseFrame bytes).sender) none)) ∧
      (¬whole → s.line.checkErrors + 1 < 8 → run = .next ((s.setLine { s.line with
        state := .carrying
        recessiveRun := 0
        stuckTimer := timer
        checkErrors := s.line.checkErrors + 1
        answer := some .refuse }).setCounters (report s .frameRefusedByMe none none).counters)) ∧
      (¬whole → 8 ≤ s.line.checkErrors + 1 → ∃ t, run = .next t ∧ t.line.checkErrors = 0 ∧
        t.line.answer = some .refuse ∧ t.line.stuckTimer = timer ∧ t.line.rx = s.line.rx ∧ t.loop = s.loop ∧ t.gate = s.gate ∧
        t.fault .rxErrors = ⟨true, false, false⟩ ∧ WithdrawnAtOnce s t 5)) ∧
    (∀ a, on → s.line.attempt = some a → a.won = true → a.ownRefuse = none →
      let refuse := bad || bitErrorAfterKey a.sent.kind a.sent.bytes bytes || decide (8 ≤ s.line.rx.length)
      let t := s.setLine { s.line with stuckTimer := timer, attempt := some { a with ownRefuse := some refuse } }
      run = .next (if refuse then report t .frameRefusedByMe (some s.ownId) (match a.sent with
          | .claim _ _ _ _ p => some p
          | .taken _ _ p => some p
          | _ => none)
        else t))

/-- The end of the REFUSE slot of a CARRYING line makes it SEEKING with the run at 0. An own send that is not refused leaves the
transmit queue and enters the receive queue's tail, own; a refused one stays in the queue, and at the eighth send is abandoned: it
leaves the queue, raises FRAME_ABANDONED and enters the receive queue all the same, or is held where that is full (for a completed
send: log 24). Completed or abandoned, an ANNOUNCE is counted ANNOUNCE_SENT, a CLAIM CLAIM_SENT with its place and a RELEASE
RELEASE_SENT. The end of a TAKEN, MISSED or RELEASE lets an ACTIVE station search, which adds CLAIM frames and may drop an ANNOUNCE
for them. A held own frame enters the tail as soon as there is room, at its row or at the handling that makes the room (log
26). The ACCEPT slot decides nothing for the sender. The stuck timer is halted by a recessive REFUSE slot, runs from zero at a
dominant one after a recessive ACCEPT slot, and runs on where both are dominant (log 30). On a line that is not CARRYING, or with a
key that has not ended, the row changes nothing (log 4). -/
def Obligations.FrameEndsAndHeldFrame : Prop :=
  ∀ (s : State) (accept refuse : Bool),
    let run := exec (.frameEnd accept refuse) s
    let timer := if refuse = false then none else if accept = false then some 0 else some (s.line.stuckTimer.getD 0)
    (s.line.state ≠ .carrying → run = .next s) ∧
    (∀ a, s.line.attempt = some a → a.won = false → run = .next s) ∧
    (s.line.state = .carrying → s.line.attempt = none → run = .next (s.setLine { s.line with
      state := .seeking
      recessiveRun := 0
      stuckTimer := timer
      attempt := none
      answer := none })) ∧
    (∀ a r x, s.line.state = .carrying → s.line.attempt = some a → a.won = true → a.ownRefuse = some r →
      s.line.tx.find? (·.inAttempt) = some x →
      let entered := fun t : State =>
        (s.line.rx.length < 8 → t.line.rx = s.line.rx ++ [⟨a.sent, true⟩] ∧ t.line.held = s.line.held) ∧
        (8 ≤ s.line.rx.length → t.line.rx = s.line.rx ∧ t.line.held = some a.sent)
      let ended := fun t : State => t.line.state = .seeking ∧ t.line.recessiveRun = 0 ∧ t.line.attempt = none ∧
        t.line.stuckTimer = timer ∧ t.line.answer = none ∧ t.line.repeatCount = 0 ∧ BeltKept s t ∧ t.view = s.view ∧ t.staging = s.staging ∧
        t.divert = s.divert ∧
        (let left := s.line.tx.eraseP (·.inAttempt)
         let sent := match x.frame with
           | .announce _ _ => report s .announceSent none none
           | .claim _ _ p => report s .claimSent none (some p)
           | .release _ _ => report s .releaseSent none none
           | _ => s
         (s.part.state ≠ .active ∨ (s.contest.searchDue = false ∧ x.frame.isOutcome = false) → t.line.tx = left ∧
           t.plans = s.plans ∧ t.counters = sent.counters) ∧
         (∀ y ∈ t.line.tx, y ∈ left ∨ newClaimFrame y) ∧ (∀ y ∈ left, y.frame.isAnnounce = false → y ∈ t.line.tx) ∧
         ∀ i : Fin 4, s.counters[i].event ≠ some .announceDropped → t.counters[i] = sent.counters[i])
      ((refuse || r) = false → ∃ t, run = .next t ∧ ended t ∧ entered t ∧ t.part = s.part) ∧
      ((refuse || r) = true → 8 ≤ s.line.repeatCount → ∃ t, run = .next t ∧ ended t ∧ entered t ∧
        t.fault .frameAbandoned = ⟨true, false, false⟩ ∧ t.part.state = s.part.state) ∧
      ((refuse || r) = true → s.line.repeatCount < 8 → s.contest.searchDue = false → run = .next (s.setLine { s.line with
        state := .seeking
        recessiveRun := 0
        stuckTimer := timer
        attempt := none
        answer := none
        tx := modifyFirst (·.inAttempt) (fun y => { y with inAttempt := false }) s.line.tx }))) ∧
    (s.line.held = none ∨ 8 ≤ s.line.rx.length → exec .heldOwnFrameEnters s = .next s) ∧
    (∀ f, s.line.held = some f → s.line.rx.length < 8 → exec .heldOwnFrameEnters s =
      .next (s.setLine { s.line with rx := s.line.rx ++ [⟨f, true⟩], held := none })) ∧
    ∀ f r rest, s.line.held = some f → s.line.rx = r :: rest → ∃ t, exec .frameHandled s = .next t ∧
      (rest.length < 8 → t.line.rx = rest ++ [⟨f, true⟩] ∧ t.line.held = none) ∧
      (8 ≤ rest.length → t.line.rx = rest ∧ t.line.held = some f)

/-- A line dominant for more than 2 ms is stuck: LINE_STUCK is raised as a condition, with no effect on the station, and the line is
SEEKING from then on. The stuck timer runs in ms of dominant level: a step on an empty queue moves it on by one, and the one that
passes 2 ms sticks the line (the model's own tick, log 3; stated where nothing else runs). The row LINE_STUCK lets the rest of 2 ms
pass first (log 2), the whole 2 ms where the timer is halted (log 30). By the sticking itself, in place of the end slots that a stuck
line never gives, a heard frame in progress counts as a check error and an own send ends and stays in the queue (log 14). The row
changes nothing on a line that is OFF or stuck already (log 4). The first recessive bit time halts the timer, clears the condition,
leaves the indication, and leaves the line SEEKING with a run of 1 (log 14); it changes nothing where the line is not stuck (log 4). -/
def Obligations.StuckLine : Prop :=
  ∀ s : State,
    let later := elapse s (2 - s.line.stuckTimer.getD 0)
    (s.line.state = .off ∨ s.line.stuck = true → exec .lineStuck s = .next s) ∧
    (s.line.state = .seeking → s.line.stuck = false → s.contest.searchDue = false → exec .lineStuck s =
      .next (recordFault (later.setLine { s.line with recessiveRun := 0, stuck := true, stuckTimer := some 2 }) .lineStuck 0)) ∧
    (s.line.state = .carrying → s.line.stuck = false → s.line.attempt = none → s.line.answer = none →
      s.line.checkErrors + 1 < 8 → s.contest.searchDue = false → ∃ t, exec .lineStuck s = .next t ∧
        t.line = { s.line with
          state := .seeking
          recessiveRun := 0
          stuck := true
          stuckTimer := some 2
          checkErrors := s.line.checkErrors + 1 } ∧
        t.fault .lineStuck = ⟨true, false, true⟩ ∧ t.part.state = s.part.state ∧ t.loop = later.loop ∧
        t.gate = later.gate ∧ t.divert = later.divert ∧ t.config = s.config ∧ t.pins = s.pins ∧ t.contest = s.contest) ∧
    (∀ a x, s.line.state = .carrying → s.line.stuck = false → s.line.attempt = some a → a.won = true →
      s.line.repeatCount < 8 → s.line.tx.find? (·.inAttempt) = some x → s.contest.searchDue = false →
      ∃ t, exec .lineStuck s = .next t ∧ t.line.stuck = true ∧ t.line.stuckTimer = some 2 ∧ t.line.state = .seeking ∧
        t.line.attempt = none ∧
        t.line.tx = modifyFirst (·.inAttempt) (fun y => { y with inAttempt := false }) s.line.tx ∧
        t.fault .lineStuck = ⟨true, false, true⟩) ∧
    (∀ n, s.pending = [] → s.line.stuckTimer = some n → s.line.stuck = false → s.loop.stopTimer = none →
      s.gate.report = [] → s.divert.jamTimer = none → s.part.watchdog ≠ .running → s.contest.searchDue = false →
      (∀ p : Fin 4, s.part.watches[p].state ≠ .dropping ∧ s.part.watches[p].state ≠ .rising) →
      (n < 2 → step s = .next (s.setLine { s.line with stuckTimer := some (n + 1) })) ∧
      (n = 2 → s.line.state ≠ .off → step s = exec .lineStuck s)) ∧
    (s.line.stuck = true → exec .lineStuckEnd s = .next (endCondition (s.setLine { s.line with
      state := .seeking
      recessiveRun := 1
      stuck := false
      stuckTimer := none }) .lineStuck)) ∧
    (s.line.stuck = false → exec .lineStuckEnd s = .next s)

/-! ### The handling of frames, the view and the contest -/

/-- FRAME_HANDLED takes the head of the receive queue. An unknown kind is reported UNKNOWN_KIND with a sender that no rule places in
it (log 6); else a sender absent from the hall table, or a heard frame with the own ID, is reported STRANGER; else a slot of L or
above, or an ANNOUNCE of form 6 or 7, is discarded in silence; none of these touches anything else (a held own frame absent). A
frame that passes moves its sender's roster entry by the table of R164, and a JOIN with another digest met while LISTENING raises
CFG_MISMATCH and withdraws the station; met while ACTIVE or WITHDRAWN it is answered with an own JOIN, unless CFG_MISMATCH is set,
the sender was MISMATCHED with that digest already, or a JOIN or WITHDRAW of this station is queued. With an empty queue nothing happens (log 4). -/
def Obligations.HandledFramesTestedAndRostered : Prop :=
  ∀ s : State,
    (s.line.rx = [] → exec .frameHandled s = .next s) ∧
    ∀ f own rest, s.line.rx = ⟨f, own⟩ :: rest →
      let left := s.setLine { s.line with rx := rest }
      let present := (s.config.hall[f.sender]).isSome = true
      let genuine := own = true ∨ f.sender ≠ s.ownId
      let inRange := match f with
        | .taken k _ _ => k < s.slots
        | .missed k _ => k < s.slots
        | .release k _ _ => k < s.slots
        | .claim _ _ _ k _ => k < s.slots
        | .announce k _ _ form => k < s.slots ∧ form < 6
        | .join _ _ => True
        | .withdraw _ _ => True
        | .unknown _ => True
      (s.line.held = none → s.contest.searchDue = false →
        (∀ d, f = .unknown d →
          exec .frameHandled s = .next (report left .unknownKind (some (Config.unknownKindSender d)) none)) ∧
        ((∀ d, f ≠ .unknown d) →
          (¬(present ∧ genuine) → exec .frameHandled s = .next (report left .stranger (some f.sender) none)) ∧
          (present → genuine → ¬inRange → exec .frameHandled s = .next left))) ∧
      ((∀ d, f ≠ .unknown d) → present → genuine → inRange → ∃ t, exec .frameHandled s = .next t ∧
        (s.line.held = none → t.line.rx = rest) ∧
        t.rosterEntry f.sender = (match f, (s.rosterEntry f.sender).state with
          | .join _ d, _ => ⟨if s.part.digest = some d then .joined else .mismatched, some d⟩
          | _, .mismatched => s.rosterEntry f.sender
          | .withdraw _ _, _ => { s.rosterEntry f.sender with state := .withdrawn }
          | _, .absent => { s.rosterEntry f.sender with state := .joined }
          | _, _ => s.rosterEntry f.sender) ∧
        (∀ i, i ≠ f.sender → t.rosterEntry i = s.rosterEntry i) ∧ BeltKept s t ∧ t.divert = s.divert ∧
        t.staging = s.staging ∧
        (∀ i d, f = .join i d → s.part.digest ≠ some d → s.part.state = .listening →
          t.part.state = .withdrawn ∧ t.fault .cfgMismatch = ⟨true, false, true⟩ ∧
            ∃ x ∈ t.line.tx, x.frame = .withdraw 1) ∧
        (∀ i d, f = .join i d → s.part.digest = some d ∨ s.part.state ≠ .listening → s.contest.searchDue = false →
          let silent := s.part.digest = some d ∨ (s.fault .cfgMismatch).indication = true ∨
            s.rosterEntry i = ⟨.mismatched, some d⟩ ∨ ∃ y ∈ s.line.tx, y.frame.isParticipation = true
          t.part.state = s.part.state ∧ t.part.faults = s.part.faults ∧ (silent → t.line.tx = s.line.tx) ∧
          (¬silent → ⟨.join (s.part.digest.getD 0), false, false, false, false⟩ ∈ t.line.tx)))

/-- A handled frame that passes the tests, from a sender whose roster entry is not MISMATCHED, changes the view entry of its slot by
the table of the handlers and no other entry: an ANNOUNCE makes an EMPTY entry FREE, fills in an unknown case and disputes another
case; a CLAIM claims an EMPTY or FREE entry alone; a RELEASE or MISSED frees an entry claimed by its sender alone; a TAKEN empties
any entry. A frame from a MISMATCHED sender changes no entry. Where the entry of a slot was changed, its ANNOUNCE frames WAITING
outside an attempt that the new entry does not ask for are gone, each counted ANNOUNCE_DROPPED; every other ANNOUNCE stays, the
queue having room and no search being made. An ANNOUNCE that passes the tests is counted ANNOUNCE_HEARD with its sender (a
MISMATCHED sender's too: log 15). -/
def Obligations.HandledFramesChangeTheView : Prop :=
  ∀ (s : State) (f : Frame) (own : Bool) (rest : List RxFrame), s.line.rx = ⟨f, own⟩ :: rest →
    s.view.length = s.slots → (s.config.hall[f.sender]).isSome = true → (own = true ∨ f.sender ≠ s.ownId) →
    ∃ t, exec .frameHandled s = .next t ∧
      ((∀ i d, f ≠ .join i d) → (s.rosterEntry f.sender).state = .mismatched → t.view = s.view) ∧
      ((s.rosterEntry f.sender).state ≠ .mismatched →
        (∀ k i p, f = .taken k i p → k < s.slots → t.view = s.view.set k .empty) ∧
        (∀ k i, (f = .missed k i ∨ ∃ r, f = .release k i r) → k < s.slots → t.view = s.view.set k
          (match s.viewAt k with
            | .claimed c a cl p => if cl = i then .free c a else .claimed c a cl p
            | .empty => .empty
            | .free c a => .free c a
            | .disputed c a => .disputed c a)) ∧
        (∀ u d i k p, f = .claim u d i k p → k < s.slots → t.view = s.view.set k
          (match s.viewAt k with
            | .empty => .claimed none none i p
            | .free c a => .claimed c a i p
            | .claimed c a cl q => .claimed c a cl q
            | .disputed c a => .disputed c a)) ∧
        (∀ k i a form (fm : Form), f = .announce k i a form → fm.code = form → k < s.slots → t.view = s.view.set k
          (match s.viewAt k with
            | .empty => .free (some ⟨a, fm⟩) (some i)
            | .free none _ => .free (some ⟨a, fm⟩) (some i)
            | .free (some c) b => if c = ⟨a, fm⟩ then .free (some c) b else .disputed c b
            | .claimed none _ cl p => .claimed (some ⟨a, fm⟩) (some i) cl p
            | .claimed (some c) b cl p => if c = ⟨a, fm⟩ then .claimed (some c) b cl p else .disputed c b
            | .disputed c b => .disputed c b)) ∧
        ((∀ i d, f = .join i d → t.view = s.view) ∧ ∀ i r, f = .withdraw i r → t.view = s.view)) ∧
      (∀ k i a form, f = .announce k i a form → k < s.slots → form < 6 → ∀ j : Fin 4, s.counters[j].event = some .announceHeard →
        s.counters[j].filter = .none ∨ s.counters[j].filter = .station i →
        t.counters[j].value = min (s.counters[j].value + 1) 4294967295) ∧
      ((s.rosterEntry f.sender).state ≠ .mismatched → ∀ k, f.slot? = some k → f.inRange s.slots = true →
        let unwanted := fun y : TxFrame => ∃ c, y.frame = .announce k c ∧ (match t.viewAt k with
          | .empty => False
          | .free d _ => d = some c
          | .claimed d _ _ _ => d = some c
          | .disputed _ _ => True)
        let goes := fun y : TxFrame => t.viewAt k ≠ s.viewAt k ∧ unwanted y ∧ y.sending = false ∧ y.inAttempt = false
        (∀ y ∈ t.line.tx, ¬goes y) ∧
        (s.line.tx.length < 12 → s.part.state ≠ .active → ∀ y ∈ s.line.tx, y.frame.isAnnounce = true → ¬goes y →
          ∃ z ∈ t.line.tx, z.frame = y.frame ∧ z.sending = y.sending ∧ z.inAttempt = y.inAttempt) ∧
        ∀ (j : Fin 4) (gone : List TxFrame), gone.Sublist s.line.tx → (∀ y ∈ gone, goes y) →
          s.counters[j].event = some .announceDropped → s.counters[j].filter = .none →
          min (s.counters[j].value + gone.length) 4294967295 ≤ t.counters[j].value)

/-- What handled frames do to the claims, in a part within its laws and from a sender whose roster entry is not MISMATCHED. Another
station's CLAIM or TAKEN for a slot, and an ANNOUNCE that leaves its entry DISPUTED, end a QUEUED or SENDING claim there with LOST,
an earlier pending end being kept: one whose frame waits outside an attempt leaves, counted CLAIM_LOST, and the others stay with the
end recorded. An ARMED claim is lost to that TAKEN, counted, and leaves at that dispute, with no RELEASE in either case, and stands
through the CLAIM. COMMITTED and FIRING ones stand, suspect after a dispute. A RELEASE or MISSED changes no claim, and no frame
changes one of another slot. An own CLAIM for a slot held without an entry (met first: log 18) takes it off that list, and offers
RELEASE(FAULT) where it met EMPTY or FREE. -/
def Obligations.HandledFramesEndClaims : Prop :=
  ∀ (s : State) (f : Frame) (own : Bool) (rest : List RxFrame) (k : Nat), Running s → s.contest.searchDue = false →
    s.line.rx = ⟨f, own⟩ :: rest → (s.config.hall[f.sender]).isSome = true → (own = true ∨ f.sender ≠ s.ownId) →
    (s.rosterEntry f.sender).state ≠ .mismatched → k < s.slots → f.slot? = some k → f.inRange s.slots = true →
    let others := own = false
    let disputes := (∃ c b, s.viewAt k = .disputed c b) ∨ ∃ i a form c, f = .announce k i a form ∧
      some c ≠ (Form.ofCode form).map (fun fm => (⟨a, fm⟩ : CaseId)) ∧
      ((∃ b, s.viewAt k = .free (some c) b) ∨ ∃ b cl p, s.viewAt k = .claimed (some c) b cl p)
    let claim := others ∧ ∃ u d i p, f = .claim u d i k p
    let taken := others ∧ ∃ i p, f = .taken k i p
    let dispute := disputes ∧ ∃ i a form, f = .announce k i a form
    let waits := ∃ y ∈ s.line.tx, y.frame.isClaimFor k = true ∧ y.sending = false ∧ y.inAttempt = false
    ∃ t, exec .frameHandled s = .next t ∧
      (∀ x ∈ s.contest.claims, x.slot ≠ k → x ∈ t.contest.claims) ∧
      (∀ x, s.claimAt k = some x →
        (claim ∨ taken ∨ dispute → x.state = .queued ∨ x.state = .sending →
          (x.state = .queued ∧ waits → t.claimAt k = none ∧ (x.pendingEnd = none → ∀ i : Fin 4,
            s.counters[i].event = some .claimLost →
            s.counters[i].filter = .none ∨ s.counters[i].filter = .place x.target.place →
            t.counters[i].value = min (s.counters[i].value + 1) 4294967295)) ∧
          (¬(x.state = .queued ∧ waits) → t.claimAt k = some { x with pendingEnd := some (x.pendingEnd.getD .lost) })) ∧
        (taken ∨ dispute → x.state = .armed → t.claimAt k = none ∧
          ∀ r, (∃ y ∈ t.line.tx, y.frame = .release k r) → ∃ y ∈ s.line.tx, y.frame = .release k r) ∧
        (taken → x.state = .armed → ∀ i : Fin 4, s.counters[i].event = some .claimLost →
          s.counters[i].filter = .none ∨ s.counters[i].filter = .place x.target.place →
          t.counters[i].value = min (s.counters[i].value + 1) 4294967295) ∧
        (dispute → x.state = .committed ∨ x.state = .firing → t.claimAt k = some { x with suspect := true }) ∧
        (taken → x.state = .committed ∨ x.state = .firing → t.claimAt k = some x) ∧
        (claim → x.state = .armed ∨ x.state = .committed ∨ x.state = .firing → t.claimAt k = some x) ∧
        ((∃ i, f = .missed k i ∨ ∃ r, f = .release k i r) → t.claimAt k = some x)) ∧
      (∀ u d p, own = true → f = .claim u d s.ownId k p → k ∈ s.contest.orphans →
        t.contest.orphans = s.contest.orphans.erase k ∧ t.claimAt k = s.claimAt k ∧
        ((s.viewAt k).isFree = true ∨ s.viewAt k = .empty → ⟨.release k .fault, false, false, false, false⟩ ∈ t.line.tx) ∧
        ((s.viewAt k).isFree = false → s.viewAt k ≠ .empty → ∀ y ∈ t.line.tx, y ∈ s.line.tx ∨ y.frame.isAnnounce = true))

/-- The win decision, at the handling of the station's own CLAIM for a SENDING entry, by the entry before the frame. Met CLAIMED by
another station or DISPUTED it is lost: the entry leaves with no frame. Met FREE, EMPTY or CLAIMED by this station: with no pending
end, in good time, it is ARMED with its fire position; late it leaves and RELEASE(LATE) is queued; with pending end CANCELLED or
WITHDRAWN it leaves and RELEASE with that reason is queued; with LOST it leaves, with RELEASE(LOST) unless the entry was EMPTY. A
win, kept or given back, is counted CLAIM_WON and a leaving as LOST CLAIM_LOST, each once with the entry's place and never both. The
view entry is CLAIMED or DISPUTED afterwards, so that a search claims the slot anew in no station. -/
def Obligations.WinDecision : Prop :=
  ∀ (s : State) (u d k : Nat) (p : Fin 4) (rest : List RxFrame) (c : Claim),
    s.line.rx = ⟨.claim u d s.ownId k p, true⟩ :: rest → (s.config.hall[s.ownId]).isSome = true → k < s.slots →
    s.view.length = s.slots → (s.rosterEntry s.ownId).state ≠ .mismatched → k ∉ s.contest.orphans →
    s.claimAt k = some c → c.state = .sending →
    let lost := (∃ cs a, s.viewAt k = .disputed cs a) ∨ ∃ cs a i q, s.viewAt k = .claimed cs a i q ∧ i ≠ s.ownId
    let late := c.late = true ∨ pulsesToFire s k < s.timing.armLead
    ∃ t, exec .frameHandled s = .next t ∧
      (lost → t.claimAt k = none ∧
        ∀ r, (∃ x ∈ t.line.tx, x.frame = .release k r) → ∃ x ∈ s.line.tx, x.frame = .release k r) ∧
      (¬lost →
        (c.pendingEnd = none → ¬late →
          t.claimAt k = some { c with state := .armed, firePos := some ((s.divertPos + k * s.pitch) % s.loopLen) }) ∧
        (c.pendingEnd = none ∨ c.pendingEnd = some .expired → late ∨ c.pendingEnd = some .expired →
          (∃ x ∈ t.line.tx, x.frame = .release k .late) ∧ t.claimAt k = none) ∧
        (c.pendingEnd = some .cancelled → (∃ x ∈ t.line.tx, x.frame = .release k .cancelled) ∧ t.claimAt k = none) ∧
        (c.pendingEnd = some .withdrawn → (∃ x ∈ t.line.tx, x.frame = .release k .withdrawn) ∧ t.claimAt k = none) ∧
        (c.pendingEnd = some .lost → t.claimAt k = none ∧
          (s.viewAt k ≠ .empty → ∃ x ∈ t.line.tx, x.frame = .release k .lost))) ∧
      let asLost := (lost ∧ c.pendingEnd ≠ some .cancelled ∧ c.pendingEnd ≠ some .withdrawn) ∨ c.pendingEnd = some .lost
      let won := ¬lost ∧ c.pendingEnd ≠ some .lost
      (asLost → CountedOnce s t .claimLost c.target.place) ∧ (won → CountedOnce s t .claimWon c.target.place) ∧
      ∀ i : Fin 4, (s.counters[i].event = some .claimLost ∧ ¬asLost) ∨ (s.counters[i].event = some .claimWon ∧ ¬won) →
        t.counters[i] = s.counters[i]

/-- What a search chooses for a case: a line of a BUILDING place in the build order list that matches the case in article and form and
has an open need, in the current tier (urgency CLOSING where the tier's open need is 1, CURRENT otherwise) or in the next (AHEAD, the
current tier covered); records and claims together stay below S, and for AHEAD the lookahead sums below S − R; no other matching line
with room has a lower urgency, and none of the same urgency stands nearer the head of the list. It chooses some line wherever such a
place holds a matching line in its current tier, or, that tier covered, in the next tier with the room of AHEAD. -/
def Obligations.SearchChoosesTheRankedLine : Prop :=
  ∀ (s : State) (c : CaseId),
    (∀ (g : Target) (u : Urgency), bestLine s c = some (g, u) →
      g.place ∈ s.plans.buildOrder ∧ (s.place g.place).state = .building ∧
      (1 ≤ g.line ∧ ∃ l, s.lineAt g = some l ∧ l.case = c ∧ 1 ≤ l.openNeed) ∧
      s.staging.records.length + s.contest.claims.length < s.stagingSize ∧
      (∃ t n, (s.place g.place).currentTier = some t ∧ (s.place g.place).tierCount = some n ∧
        ((u = .closing ∧ g.tier = t ∧ tierNeed ((s.place g.place).tier t) = 1) ∨
         (u = .current ∧ g.tier = t ∧ tierNeed ((s.place g.place).tier t) ≠ 1) ∨
         (u = .ahead ∧ g.tier = t + 1 ∧ t < n ∧ tierCovered ((s.place g.place).tier t) = true ∧
           lookaheadRecords s + lookaheadClaims s < s.stagingSize - s.reserve))) ∧
      ∀ (i : Nat) (q : PlaceId) (h : Target) (v : Urgency), s.plans.buildOrder[i]? = some q →
        matchingLine s q c = some (h, v) → roomFor s v = true →
        u.code ≤ v.code ∧ (v = u → ∃ j : Nat, j ≤ i ∧ s.plans.buildOrder[j]? = some g.place)) ∧
    ∀ (p : PlaceId) (t n : Nat), p ∈ s.plans.buildOrder → (s.place p).state = .building →
      (s.place p).currentTier = some t → (s.place p).tierCount = some n →
      s.staging.records.length + s.contest.claims.length < s.stagingSize →
      ((∃ l ∈ (s.place p).tier t, l.case = c ∧ 1 ≤ l.openNeed) → (bestLine s c).isSome = true) ∧
      (t < n → tierCovered ((s.place p).tier t) = true →
        (∃ l ∈ (s.place p).tier (t + 1), l.case = c ∧ 1 ≤ l.openNeed) →
        lookaheadRecords s + lookaheadClaims s < s.stagingSize - s.reserve → (bestLine s c).isSome = true)

/-- The search that a handled ANNOUNCE causes in an ACTIVE station, the frame making the EMPTY entry of a reachable slot without a
claim FREE, and the slot being nearest of the candidates. With fewer than 6 frame places in use and a line chosen for the case, a
QUEUED entry is made for the slot with that line and urgency, a WAITING CLAIM frame is queued, and the claimed count of the line
rises with the claims made on it; with no line chosen the slot gets no claim, and at 6 frame places none is made at all. The slots
that a search examines are the candidates, each once, nearest first. In an ACTIVE station COMMIT PLAN, PLACED, REMOVE CASE, the
resumption of a place by AUTO recovery and the mark that makes a LISTENING station ACTIVE are their own effect followed by such a
search: the claims, frames and lines are those of a search of the state e that the effect leaves. There e is named: the place
BUILDING at tier 1 at the end of the list, the record placed or removed, the condition ended after the rest of the deglitch (log 2),
the realignment with the mark accepted. What a search reads of it is given against s: the view (slot 0 EMPTY after a forward
realignment alone), configuration, loop, claims, lines and records. -/
def Obligations.SearchQueuesClaims : Prop :=
  (∀ (s : State) (k : Nat) (c : CaseId) (i : Option Station), k < s.slots → s.viewAt k = .free (some c) i →
    reachable s k = true → s.claimAt k = none →
    (∀ j, j < s.slots → j ≠ k → isCandidate s j = true → pulsesToFire s k < pulsesToFire s j) →
    (bestLine s c = none → (search s).claimAt k = none) ∧ (6 ≤ framePlaces s → search s = s) ∧
    ∀ g u, bestLine s c = some (g, u) → framePlaces s < 6 →
      (search s).claimAt k = some ⟨k, g, u, .queued, none, none, false, false⟩ ∧
      ⟨.claim u k g.place, false, false, false, false⟩ ∈ (search s).line.tx) ∧
  (∀ s : State, s.contest.searchDue = false →
    let kept := fun e : State => e.view = s.view ∧ e.line = s.line ∧ e.loop = s.loop ∧ e.contest = s.contest ∧
      e.config = s.config ∧ e.part.state = .active
    let quiet := fun e : State => e.setContest { e.contest with searchDue := false }
    let searched := fun (c : Instr) (e : State) => ∃ t, exec c s = .next t ∧ t.contest = (search e).contest ∧
      t.line = (search e).line ∧ t.plans = (search e).plans ∧ t.staging = e.staging ∧ t.view = e.view
    (s.part.state = .active →
      (∀ p : Fin 4, s.plans.loader = some p → planProblem s (s.place p) = none → (s.watch p).state = .unwatched →
        let committed := setPlace s p { s.place p with state := .building, currentTier := some 1 }
        let e := startWatch (committed.setPlans
          { committed.plans with buildOrder := s.plans.buildOrder ++ [p], loader := none }) p
        searched .commitPlan e ∧ kept e ∧ e.staging = s.staging ∧ e.plans.buildOrder = s.plans.buildOrder ++ [p] ∧
          e.place p = { s.place p with state := .building, currentTier := some 1 } ∧ ∀ q, q ≠ p → e.place q = s.place q) ∧
      (∀ (a : BitVec 16) r, s.record? a.toNat = some r →
        (r.state = .placeable → let e := quiet (placeRecord s r)
          searched (.placed a) e ∧ kept e ∧
          e.staging.records.map (·.arrival) = (s.staging.records.map (·.arrival)).filter (fun n => decide (n ≠ a.toNat)) ∧
          ∀ g l, r.target = some g → s.lineAt g = some l →
            e.lineAt g = some { l with staged := l.staged - 1, placed := l.placed + 1 }) ∧
        ∀ reason : BitVec 8, reason.toNat < 2 →
          let e := quiet (removeRecord s r (decide (reason.toNat = 0)))
          searched (.removeCase a reason) e ∧ kept e ∧ e.plans.buildOrder = s.plans.buildOrder ∧
          e.staging.records = s.staging.records.filter (fun x => decide (x.arrival ≠ a.toNat)) ∧
          ∀ g l, r.target = some g → s.lineAt g = some l → e.lineAt g = some { l with staged := l.staged - 1 }) ∧
      ∀ p : Fin 4, s.policy.scope = .place → s.policy.recovery = .auto → (s.watch p).state = .rising →
        (s.place p).state = .suspended →
        let e := quiet (endPlaceCondition (elapse s (s.timing.placeDeglitch - (s.watch p).timer)) p)
        searched (.placeReadyTimer p) e ∧ e.view = s.view ∧ e.line.tx = s.line.tx ∧ e.contest = s.contest ∧
          e.config = s.config ∧ e.loop = { s.loop with stopTimer := e.loop.stopTimer } ∧
          e.staging.records.map (fun x => (x.slot, x.target)) = s.staging.records.map (fun x => (x.slot, x.target)) ∧
          lookaheadRecords e = lookaheadRecords s ∧ e.part.state = .active ∧ e.plans.buildOrder = s.plans.buildOrder ∧
          e.place p = { s.place p with state := .building } ∧ ∀ q, q ≠ p → e.place q = s.place q) ∧
    (s.part.state = .listening → 1 ≤ s.part.listeningMarks → s.loop.aligned = true → s.loop.markAwaited = true →
      let upper := s.loopLen ≤ s.loop.counter + s.timing.tolerance
      upper ∨ s.loop.counter ≤ s.timing.tolerance →
        let e := quiet (acceptMark (if upper then forwardRealignment s else backwardRealignment s))
        searched .indexMark e ∧ e.part.state = .active ∧ e.config = s.config ∧
          e.loop = { s.loop with counter := 0, markAwaited := false } ∧
          e.view = (if upper then s.view.set 0 .empty else s.view) ∧ e.plans.buildOrder = s.plans.buildOrder ∧
          e.staging.records.length = s.staging.records.length ∧
          (s.contest.claims = [] → e.contest = s.contest ∧ e.plans = s.plans ∧ e.staging = s.staging))) ∧
  ∀ s : State,
    ((candidates s).Perm ((List.range s.slots).filter (isCandidate s)) ∧
      (candidates s).Pairwise (fun j k => pulsesToFire s j ≤ pulsesToFire s k)) ∧
    ∀ (i : Station) (own : Bool) (k : Nat) (c : CaseId) (rest : List RxFrame),
      s.line.rx = ⟨.announce k i c.article c.form.code, own⟩ :: rest → (s.config.hall[i]).isSome = true →
      (own = true ∨ i ≠ s.ownId) → (s.rosterEntry i).state ≠ .mismatched → k < s.slots → s.view.length = s.slots →
      s.viewAt k = .empty → s.part.state = .active → reachable s k = true → s.claimAt k = none →
      (∀ j, j < s.slots → isCandidate s j = true → pulsesToFire s k < pulsesToFire s j) →
      ∃ t, exec .frameHandled s = .next t ∧ t.viewAt k = .free (some c) (some i) ∧ t.contest.searchDue = false ∧
        (∀ x ∈ s.contest.claims, x ∈ t.contest.claims) ∧
        (bestLine s c = none → t.claimAt k = none) ∧
        (6 ≤ framePlaces s → t.contest.claims = s.contest.claims ∧ t.plans = s.plans) ∧
        ∀ g u, bestLine s c = some (g, u) → framePlaces s < 6 →
          let on := fun r : State => (r.contest.claims.filter (fun x => decide (x.target = g))).length
          t.claimAt k = some ⟨k, g, u, .queued, none, none, false, false⟩ ∧
          ⟨.claim u k g.place, false, false, false, false⟩ ∈ t.line.tx ∧
          on s + 1 ≤ on t ∧ ∀ l, s.lineAt g = some l → ∃ l', t.lineAt g = some l' ∧ l'.case = l.case ∧
            l'.quantity = l.quantity ∧ l'.staged = l.staged ∧ l'.placed = l.placed ∧ l'.claimed + on s = l.claimed + on t
end

