-- ==== Sys2Proof/Laws/State.lean ====
section
/-! SUPPORT. Each field of the state after each replacement of a block, and what the configuration accessors read after it. -/

namespace Sys2Proof.Machine.State

variable (s : State)

section configBlock
variable (x : Configuration)
@[simp] theorem setConfig_config : (s.setConfig x).config = x := rfl
@[simp] theorem setConfig_pins : (s.setConfig x).pins = s.pins := rfl
@[simp] theorem setConfig_loop : (s.setConfig x).loop = s.loop := rfl
@[simp] theorem setConfig_gate : (s.setConfig x).gate = s.gate := rfl
@[simp] theorem setConfig_line : (s.setConfig x).line = s.line := rfl
@[simp] theorem setConfig_view : (s.setConfig x).view = s.view := rfl
@[simp] theorem setConfig_plans : (s.setConfig x).plans = s.plans := rfl
@[simp] theorem setConfig_contest : (s.setConfig x).contest = s.contest := rfl
@[simp] theorem setConfig_divert : (s.setConfig x).divert = s.divert := rfl
@[simp] theorem setConfig_staging : (s.setConfig x).staging = s.staging := rfl
@[simp] theorem setConfig_part : (s.setConfig x).part = s.part := rfl
@[simp] theorem setConfig_port : (s.setConfig x).port = s.port := rfl
@[simp] theorem setConfig_counters : (s.setConfig x).counters = s.counters := rfl
@[simp] theorem setConfig_pending : (s.setConfig x).pending = s.pending := rfl
end configBlock

section pinsBlock
variable (x : Pins)
@[simp] theorem setPins_config : (s.setPins x).config = s.config := rfl
@[simp] theorem setPins_pins : (s.setPins x).pins = x := rfl
@[simp] theorem setPins_loop : (s.setPins x).loop = s.loop := rfl
@[simp] theorem setPins_gate : (s.setPins x).gate = s.gate := rfl
@[simp] theorem setPins_line : (s.setPins x).line = s.line := rfl
@[simp] theorem setPins_view : (s.setPins x).view = s.view := rfl
@[simp] theorem setPins_plans : (s.setPins x).plans = s.plans := rfl
@[simp] theorem setPins_contest : (s.setPins x).contest = s.contest := rfl
@[simp] theorem setPins_divert : (s.setPins x).divert = s.divert := rfl
@[simp] theorem setPins_staging : (s.setPins x).staging = s.staging := rfl
@[simp] theorem setPins_part : (s.setPins x).part = s.part := rfl
@[simp] theorem setPins_port : (s.setPins x).port = s.port := rfl
@[simp] theorem setPins_counters : (s.setPins x).counters = s.counters := rfl
@[simp] theorem setPins_pending : (s.setPins x).pending = s.pending := rfl
@[simp] theorem setPins_slots : (s.setPins x).slots = s.slots := rfl
@[simp] theorem setPins_pitch : (s.setPins x).pitch = s.pitch := rfl
@[simp] theorem setPins_loopLen : (s.setPins x).loopLen = s.loopLen := rfl
@[simp] theorem setPins_timing : (s.setPins x).timing = s.timing := rfl
@[simp] theorem setPins_ownId : (s.setPins x).ownId = s.ownId := rfl
@[simp] theorem setPins_stagingSize : (s.setPins x).stagingSize = s.stagingSize := rfl
@[simp] theorem setPins_reserve : (s.setPins x).reserve = s.reserve := rfl
@[simp] theorem setPins_divertPos : (s.setPins x).divertPos = s.divertPos := rfl
@[simp] theorem setPins_gatePos : (s.setPins x).gatePos = s.gatePos := rfl
@[simp] theorem setPins_policy : (s.setPins x).policy = s.policy := rfl
end pinsBlock

section loopBlock
variable (x : LoopTracker)
@[simp] theorem setLoop_config : (s.setLoop x).config = s.config := rfl
@[simp] theorem setLoop_pins : (s.setLoop x).pins = s.pins := rfl
@[simp] theorem setLoop_loop : (s.setLoop x).loop = x := rfl
@[simp] theorem setLoop_gate : (s.setLoop x).gate = s.gate := rfl
@[simp] theorem setLoop_line : (s.setLoop x).line = s.line := rfl
@[simp] theorem setLoop_view : (s.setLoop x).view = s.view := rfl
@[simp] theorem setLoop_plans : (s.setLoop x).plans = s.plans := rfl
@[simp] theorem setLoop_contest : (s.setLoop x).contest = s.contest := rfl
@[simp] theorem setLoop_divert : (s.setLoop x).divert = s.divert := rfl
@[simp] theorem setLoop_staging : (s.setLoop x).staging = s.staging := rfl
@[simp] theorem setLoop_part : (s.setLoop x).part = s.part := rfl
@[simp] theorem setLoop_port : (s.setLoop x).port = s.port := rfl
@[simp] theorem setLoop_counters : (s.setLoop x).counters = s.counters := rfl
@[simp] theorem setLoop_pending : (s.setLoop x).pending = s.pending := rfl
@[simp] theorem setLoop_slots : (s.setLoop x).slots = s.slots := rfl
@[simp] theorem setLoop_pitch : (s.setLoop x).pitch = s.pitch := rfl
@[simp] theorem setLoop_loopLen : (s.setLoop x).loopLen = s.loopLen := rfl
@[simp] theorem setLoop_timing : (s.setLoop x).timing = s.timing := rfl
@[simp] theorem setLoop_ownId : (s.setLoop x).ownId = s.ownId := rfl
@[simp] theorem setLoop_stagingSize : (s.setLoop x).stagingSize = s.stagingSize := rfl
@[simp] theorem setLoop_reserve : (s.setLoop x).reserve = s.reserve := rfl
@[simp] theorem setLoop_divertPos : (s.setLoop x).divertPos = s.divertPos := rfl
@[simp] theorem setLoop_gatePos : (s.setLoop x).gatePos = s.gatePos := rfl
@[simp] theorem setLoop_policy : (s.setLoop x).policy = s.policy := rfl
end loopBlock

section gateBlock
variable (x : GateUnit)
@[simp] theorem setGate_config : (s.setGate x).config = s.config := rfl
@[simp] theorem setGate_pins : (s.setGate x).pins = s.pins := rfl
@[simp] theorem setGate_loop : (s.setGate x).loop = s.loop := rfl
@[simp] theorem setGate_gate : (s.setGate x).gate = x := rfl
@[simp] theorem setGate_line : (s.setGate x).line = s.line := rfl
@[simp] theorem setGate_view : (s.setGate x).view = s.view := rfl
@[simp] theorem setGate_plans : (s.setGate x).plans = s.plans := rfl
@[simp] theorem setGate_contest : (s.setGate x).contest = s.contest := rfl
@[simp] theorem setGate_divert : (s.setGate x).divert = s.divert := rfl
@[simp] theorem setGate_staging : (s.setGate x).staging = s.staging := rfl
@[simp] theorem setGate_part : (s.setGate x).part = s.part := rfl
@[simp] theorem setGate_port : (s.setGate x).port = s.port := rfl
@[simp] theorem setGate_counters : (s.setGate x).counters = s.counters := rfl
@[simp] theorem setGate_pending : (s.setGate x).pending = s.pending := rfl
@[simp] theorem setGate_slots : (s.setGate x).slots = s.slots := rfl
@[simp] theorem setGate_pitch : (s.setGate x).pitch = s.pitch := rfl
@[simp] theorem setGate_loopLen : (s.setGate x).loopLen = s.loopLen := rfl
@[simp] theorem setGate_timing : (s.setGate x).timing = s.timing := rfl
@[simp] theorem setGate_ownId : (s.setGate x).ownId = s.ownId := rfl
@[simp] theorem setGate_stagingSize : (s.setGate x).stagingSize = s.stagingSize := rfl
@[simp] theorem setGate_reserve : (s.setGate x).reserve = s.reserve := rfl
@[simp] theorem setGate_divertPos : (s.setGate x).divertPos = s.divertPos := rfl
@[simp] theorem setGate_gatePos : (s.setGate x).gatePos = s.gatePos := rfl
@[simp] theorem setGate_policy : (s.setGate x).policy = s.policy := rfl
end gateBlock

section lineBlock
variable (x : HallLine)
@[simp] theorem setLine_config : (s.setLine x).config = s.config := rfl
@[simp] theorem setLine_pins : (s.setLine x).pins = s.pins := rfl
@[simp] theorem setLine_loop : (s.setLine x).loop = s.loop := rfl
@[simp] theorem setLine_gate : (s.setLine x).gate = s.gate := rfl
@[simp] theorem setLine_line : (s.setLine x).line = x := rfl
@[simp] theorem setLine_view : (s.setLine x).view = s.view := rfl
@[simp] theorem setLine_plans : (s.setLine x).plans = s.plans := rfl
@[simp] theorem setLine_contest : (s.setLine x).contest = s.contest := rfl
@[simp] theorem setLine_divert : (s.setLine x).divert = s.divert := rfl
@[simp] theorem setLine_staging : (s.setLine x).staging = s.staging := rfl
@[simp] theorem setLine_part : (s.setLine x).part = s.part := rfl
@[simp] theorem setLine_port : (s.setLine x).port = s.port := rfl
@[simp] theorem setLine_counters : (s.setLine x).counters = s.counters := rfl
@[simp] theorem setLine_pending : (s.setLine x).pending = s.pending := rfl
@[simp] theorem setLine_slots : (s.setLine x).slots = s.slots := rfl
@[simp] theorem setLine_pitch : (s.setLine x).pitch = s.pitch := rfl
@[simp] theorem setLine_loopLen : (s.setLine x).loopLen = s.loopLen := rfl
@[simp] theorem setLine_timing : (s.setLine x).timing = s.timing := rfl
@[simp] theorem setLine_ownId : (s.setLine x).ownId = s.ownId := rfl
@[simp] theorem setLine_stagingSize : (s.setLine x).stagingSize = s.stagingSize := rfl
@[simp] theorem setLine_reserve : (s.setLine x).reserve = s.reserve := rfl
@[simp] theorem setLine_divertPos : (s.setLine x).divertPos = s.divertPos := rfl
@[simp] theorem setLine_gatePos : (s.setLine x).gatePos = s.gatePos := rfl
@[simp] theorem setLine_policy : (s.setLine x).policy = s.policy := rfl
end lineBlock

section viewBlock
variable (x : List ViewEntry)
@[simp] theorem setView_config : (s.setView x).config = s.config := rfl
@[simp] theorem setView_pins : (s.setView x).pins = s.pins := rfl
@[simp] theorem setView_loop : (s.setView x).loop = s.loop := rfl
@[simp] theorem setView_gate : (s.setView x).gate = s.gate := rfl
@[simp] theorem setView_line : (s.setView x).line = s.line := rfl
@[simp] theorem setView_view : (s.setView x).view = x := rfl
@[simp] theorem setView_plans : (s.setView x).plans = s.plans := rfl
@[simp] theorem setView_contest : (s.setView x).contest = s.contest := rfl
@[simp] theorem setView_divert : (s.setView x).divert = s.divert := rfl
@[simp] theorem setView_staging : (s.setView x).staging = s.staging := rfl
@[simp] theorem setView_part : (s.setView x).part = s.part := rfl
@[simp] theorem setView_port : (s.setView x).port = s.port := rfl
@[simp] theorem setView_counters : (s.setView x).counters = s.counters := rfl
@[simp] theorem setView_pending : (s.setView x).pending = s.pending := rfl
@[simp] theorem setView_slots : (s.setView x).slots = s.slots := rfl
@[simp] theorem setView_pitch : (s.setView x).pitch = s.pitch := rfl
@[simp] theorem setView_loopLen : (s.setView x).loopLen = s.loopLen := rfl
@[simp] theorem setView_timing : (s.setView x).timing = s.timing := rfl
@[simp] theorem setView_ownId : (s.setView x).ownId = s.ownId := rfl
@[simp] theorem setView_stagingSize : (s.setView x).stagingSize = s.stagingSize := rfl
@[simp] theorem setView_reserve : (s.setView x).reserve = s.reserve := rfl
@[simp] theorem setView_divertPos : (s.setView x).divertPos = s.divertPos := rfl
@[simp] theorem setView_gatePos : (s.setView x).gatePos = s.gatePos := rfl
@[simp] theorem setView_policy : (s.setView x).policy = s.policy := rfl
end viewBlock

section plansBlock
variable (x : PlanStore)
@[simp] theorem setPlans_config : (s.setPlans x).config = s.config := rfl
@[simp] theorem setPlans_pins : (s.setPlans x).pins = s.pins := rfl
@[simp] theorem setPlans_loop : (s.setPlans x).loop = s.loop := rfl
@[simp] theorem setPlans_gate : (s.setPlans x).gate = s.gate := rfl
@[simp] theorem setPlans_line : (s.setPlans x).line = s.line := rfl
@[simp] theorem setPlans_view : (s.setPlans x).view = s.view := rfl
@[simp] theorem setPlans_plans : (s.setPlans x).plans = x := rfl
@[simp] theorem setPlans_contest : (s.setPlans x).contest = s.contest := rfl
@[simp] theorem setPlans_divert : (s.setPlans x).divert = s.divert := rfl
@[simp] theorem setPlans_staging : (s.setPlans x).staging = s.staging := rfl
@[simp] theorem setPlans_part : (s.setPlans x).part = s.part := rfl
@[simp] theorem setPlans_port : (s.setPlans x).port = s.port := rfl
@[simp] theorem setPlans_counters : (s.setPlans x).counters = s.counters := rfl
@[simp] theorem setPlans_pending : (s.setPlans x).pending = s.pending := rfl
@[simp] theorem setPlans_slots : (s.setPlans x).slots = s.slots := rfl
@[simp] theorem setPlans_pitch : (s.setPlans x).pitch = s.pitch := rfl
@[simp] theorem setPlans_loopLen : (s.setPlans x).loopLen = s.loopLen := rfl
@[simp] theorem setPlans_timing : (s.setPlans x).timing = s.timing := rfl
@[simp] theorem setPlans_ownId : (s.setPlans x).ownId = s.ownId := rfl
@[simp] theorem setPlans_stagingSize : (s.setPlans x).stagingSize = s.stagingSize := rfl
@[simp] theorem setPlans_reserve : (s.setPlans x).reserve = s.reserve := rfl
@[simp] theorem setPlans_divertPos : (s.setPlans x).divertPos = s.divertPos := rfl
@[simp] theorem setPlans_gatePos : (s.setPlans x).gatePos = s.gatePos := rfl
@[simp] theorem setPlans_policy : (s.setPlans x).policy = s.policy := rfl
end plansBlock

section contestBlock
variable (x : ContestUnit)
@[simp] theorem setContest_config : (s.setContest x).config = s.config := rfl
@[simp] theorem setContest_pins : (s.setContest x).pins = s.pins := rfl
@[simp] theorem setContest_loop : (s.setContest x).loop = s.loop := rfl
@[simp] theorem setContest_gate : (s.setContest x).gate = s.gate := rfl
@[simp] theorem setContest_line : (s.setContest x).line = s.line := rfl
@[simp] theorem setContest_view : (s.setContest x).view = s.view := rfl
@[simp] theorem setContest_plans : (s.setContest x).plans = s.plans := rfl
@[simp] theorem setContest_contest : (s.setContest x).contest = x := rfl
@[simp] theorem setContest_divert : (s.setContest x).divert = s.divert := rfl
@[simp] theorem setContest_staging : (s.setContest x).staging = s.staging := rfl
@[simp] theorem setContest_part : (s.setContest x).part = s.part := rfl
@[simp] theorem setContest_port : (s.setContest x).port = s.port := rfl
@[simp] theorem setContest_counters : (s.setContest x).counters = s.counters := rfl
@[simp] theorem setContest_pending : (s.setContest x).pending = s.pending := rfl
@[simp] theorem setContest_slots : (s.setContest x).slots = s.slots := rfl
@[simp] theorem setContest_pitch : (s.setContest x).pitch = s.pitch := rfl
@[simp] theorem setContest_loopLen : (s.setContest x).loopLen = s.loopLen := rfl
@[simp] theorem setContest_timing : (s.setContest x).timing = s.timing := rfl
@[simp] theorem setContest_ownId : (s.setContest x).ownId = s.ownId := rfl
@[simp] theorem setContest_stagingSize : (s.setContest x).stagingSize = s.stagingSize := rfl
@[simp] theorem setContest_reserve : (s.setContest x).reserve = s.reserve := rfl
@[simp] theorem setContest_divertPos : (s.setContest x).divertPos = s.divertPos := rfl
@[simp] theorem setContest_gatePos : (s.setContest x).gatePos = s.gatePos := rfl
@[simp] theorem setContest_policy : (s.setContest x).policy = s.policy := rfl
end contestBlock

section divertBlock
variable (x : DivertUnit)
@[simp] theorem setDivert_config : (s.setDivert x).config = s.config := rfl
@[simp] theorem setDivert_pins : (s.setDivert x).pins = s.pins := rfl
@[simp] theorem setDivert_loop : (s.setDivert x).loop = s.loop := rfl
@[simp] theorem setDivert_gate : (s.setDivert x).gate = s.gate := rfl
@[simp] theorem setDivert_line : (s.setDivert x).line = s.line := rfl
@[simp] theorem setDivert_view : (s.setDivert x).view = s.view := rfl
@[simp] theorem setDivert_plans : (s.setDivert x).plans = s.plans := rfl
@[simp] theorem setDivert_contest : (s.setDivert x).contest = s.contest := rfl
@[simp] theorem setDivert_divert : (s.setDivert x).divert = x := rfl
@[simp] theorem setDivert_staging : (s.setDivert x).staging = s.staging := rfl
@[simp] theorem setDivert_part : (s.setDivert x).part = s.part := rfl
@[simp] theorem setDivert_port : (s.setDivert x).port = s.port := rfl
@[simp] theorem setDivert_counters : (s.setDivert x).counters = s.counters := rfl
@[simp] theorem setDivert_pending : (s.setDivert x).pending = s.pending := rfl
@[simp] theorem setDivert_slots : (s.setDivert x).slots = s.slots := rfl
@[simp] theorem setDivert_pitch : (s.setDivert x).pitch = s.pitch := rfl
@[simp] theorem setDivert_loopLen : (s.setDivert x).loopLen = s.loopLen := rfl
@[simp] theorem setDivert_timing : (s.setDivert x).timing = s.timing := rfl
@[simp] theorem setDivert_ownId : (s.setDivert x).ownId = s.ownId := rfl
@[simp] theorem setDivert_stagingSize : (s.setDivert x).stagingSize = s.stagingSize := rfl
@[simp] theorem setDivert_reserve : (s.setDivert x).reserve = s.reserve := rfl
@[simp] theorem setDivert_divertPos : (s.setDivert x).divertPos = s.divertPos := rfl
@[simp] theorem setDivert_gatePos : (s.setDivert x).gatePos = s.gatePos := rfl
@[simp] theorem setDivert_policy : (s.setDivert x).policy = s.policy := rfl
end divertBlock

section stagingBlock
variable (x : StagingTable)
@[simp] theorem setStaging_config : (s.setStaging x).config = s.config := rfl
@[simp] theorem setStaging_pins : (s.setStaging x).pins = s.pins := rfl
@[simp] theorem setStaging_loop : (s.setStaging x).loop = s.loop := rfl
@[simp] theorem setStaging_gate : (s.setStaging x).gate = s.gate := rfl
@[simp] theorem setStaging_line : (s.setStaging x).line = s.line := rfl
@[simp] theorem setStaging_view : (s.setStaging x).view = s.view := rfl
@[simp] theorem setStaging_plans : (s.setStaging x).plans = s.plans := rfl
@[simp] theorem setStaging_contest : (s.setStaging x).contest = s.contest := rfl
@[simp] theorem setStaging_divert : (s.setStaging x).divert = s.divert := rfl
@[simp] theorem setStaging_staging : (s.setStaging x).staging = x := rfl
@[simp] theorem setStaging_part : (s.setStaging x).part = s.part := rfl
@[simp] theorem setStaging_port : (s.setStaging x).port = s.port := rfl
@[simp] theorem setStaging_counters : (s.setStaging x).counters = s.counters := rfl
@[simp] theorem setStaging_pending : (s.setStaging x).pending = s.pending := rfl
@[simp] theorem setStaging_slots : (s.setStaging x).slots = s.slots := rfl
@[simp] theorem setStaging_pitch : (s.setStaging x).pitch = s.pitch := rfl
@[simp] theorem setStaging_loopLen : (s.setStaging x).loopLen = s.loopLen := rfl
@[simp] theorem setStaging_timing : (s.setStaging x).timing = s.timing := rfl
@[simp] theorem setStaging_ownId : (s.setStaging x).ownId = s.ownId := rfl
@[simp] theorem setStaging_stagingSize : (s.setStaging x).stagingSize = s.stagingSize := rfl
@[simp] theorem setStaging_reserve : (s.setStaging x).reserve = s.reserve := rfl
@[simp] theorem setStaging_divertPos : (s.setStaging x).divertPos = s.divertPos := rfl
@[simp] theorem setStaging_gatePos : (s.setStaging x).gatePos = s.gatePos := rfl
@[simp] theorem setStaging_policy : (s.setStaging x).policy = s.policy := rfl
end stagingBlock

section partBlock
variable (x : FaultUnit)
@[simp] theorem setPart_config : (s.setPart x).config = s.config := rfl
@[simp] theorem setPart_pins : (s.setPart x).pins = s.pins := rfl
@[simp] theorem setPart_loop : (s.setPart x).loop = s.loop := rfl
@[simp] theorem setPart_gate : (s.setPart x).gate = s.gate := rfl
@[simp] theorem setPart_line : (s.setPart x).line = s.line := rfl
@[simp] theorem setPart_view : (s.setPart x).view = s.view := rfl
@[simp] theorem setPart_plans : (s.setPart x).plans = s.plans := rfl
@[simp] theorem setPart_contest : (s.setPart x).contest = s.contest := rfl
@[simp] theorem setPart_divert : (s.setPart x).divert = s.divert := rfl
@[simp] theorem setPart_staging : (s.setPart x).staging = s.staging := rfl
@[simp] theorem setPart_part : (s.setPart x).part = x := rfl
@[simp] theorem setPart_port : (s.setPart x).port = s.port := rfl
@[simp] theorem setPart_counters : (s.setPart x).counters = s.counters := rfl
@[simp] theorem setPart_pending : (s.setPart x).pending = s.pending := rfl
@[simp] theorem setPart_slots : (s.setPart x).slots = s.slots := rfl
@[simp] theorem setPart_pitch : (s.setPart x).pitch = s.pitch := rfl
@[simp] theorem setPart_loopLen : (s.setPart x).loopLen = s.loopLen := rfl
@[simp] theorem setPart_timing : (s.setPart x).timing = s.timing := rfl
@[simp] theorem setPart_ownId : (s.setPart x).ownId = s.ownId := rfl
@[simp] theorem setPart_stagingSize : (s.setPart x).stagingSize = s.stagingSize := rfl
@[simp] theorem setPart_reserve : (s.setPart x).reserve = s.reserve := rfl
@[simp] theorem setPart_divertPos : (s.setPart x).divertPos = s.divertPos := rfl
@[simp] theorem setPart_gatePos : (s.setPart x).gatePos = s.gatePos := rfl
@[simp] theorem setPart_policy : (s.setPart x).policy = s.policy := rfl
end partBlock

section portBlock
variable (x : CellPort)
@[simp] theorem setPort_config : (s.setPort x).config = s.config := rfl
@[simp] theorem setPort_pins : (s.setPort x).pins = s.pins := rfl
@[simp] theorem setPort_loop : (s.setPort x).loop = s.loop := rfl
@[simp] theorem setPort_gate : (s.setPort x).gate = s.gate := rfl
@[simp] theorem setPort_line : (s.setPort x).line = s.line := rfl
@[simp] theorem setPort_view : (s.setPort x).view = s.view := rfl
@[simp] theorem setPort_plans : (s.setPort x).plans = s.plans := rfl
@[simp] theorem setPort_contest : (s.setPort x).contest = s.contest := rfl
@[simp] theorem setPort_divert : (s.setPort x).divert = s.divert := rfl
@[simp] theorem setPort_staging : (s.setPort x).staging = s.staging := rfl
@[simp] theorem setPort_part : (s.setPort x).part = s.part := rfl
@[simp] theorem setPort_port : (s.setPort x).port = x := rfl
@[simp] theorem setPort_counters : (s.setPort x).counters = s.counters := rfl
@[simp] theorem setPort_pending : (s.setPort x).pending = s.pending := rfl
@[simp] theorem setPort_slots : (s.setPort x).slots = s.slots := rfl
@[simp] theorem setPort_pitch : (s.setPort x).pitch = s.pitch := rfl
@[simp] theorem setPort_loopLen : (s.setPort x).loopLen = s.loopLen := rfl
@[simp] theorem setPort_timing : (s.setPort x).timing = s.timing := rfl
@[simp] theorem setPort_ownId : (s.setPort x).ownId = s.ownId := rfl
@[simp] theorem setPort_stagingSize : (s.setPort x).stagingSize = s.stagingSize := rfl
@[simp] theorem setPort_reserve : (s.setPort x).reserve = s.reserve := rfl
@[simp] theorem setPort_divertPos : (s.setPort x).divertPos = s.divertPos := rfl
@[simp] theorem setPort_gatePos : (s.setPort x).gatePos = s.gatePos := rfl
@[simp] theorem setPort_policy : (s.setPort x).policy = s.policy := rfl
end portBlock

section countersBlock
variable (x : Vector Counter 4)
@[simp] theorem setCounters_config : (s.setCounters x).config = s.config := rfl
@[simp] theorem setCounters_pins : (s.setCounters x).pins = s.pins := rfl
@[simp] theorem setCounters_loop : (s.setCounters x).loop = s.loop := rfl
@[simp] theorem setCounters_gate : (s.setCounters x).gate = s.gate := rfl
@[simp] theorem setCounters_line : (s.setCounters x).line = s.line := rfl
@[simp] theorem setCounters_view : (s.setCounters x).view = s.view := rfl
@[simp] theorem setCounters_plans : (s.setCounters x).plans = s.plans := rfl
@[simp] theorem setCounters_contest : (s.setCounters x).contest = s.contest := rfl
@[simp] theorem setCounters_divert : (s.setCounters x).divert = s.divert := rfl
@[simp] theorem setCounters_staging : (s.setCounters x).staging = s.staging := rfl
@[simp] theorem setCounters_part : (s.setCounters x).part = s.part := rfl
@[simp] theorem setCounters_port : (s.setCounters x).port = s.port := rfl
@[simp] theorem setCounters_counters : (s.setCounters x).counters = x := rfl
@[simp] theorem setCounters_pending : (s.setCounters x).pending = s.pending := rfl
@[simp] theorem setCounters_slots : (s.setCounters x).slots = s.slots := rfl
@[simp] theorem setCounters_pitch : (s.setCounters x).pitch = s.pitch := rfl
@[simp] theorem setCounters_loopLen : (s.setCounters x).loopLen = s.loopLen := rfl
@[simp] theorem setCounters_timing : (s.setCounters x).timing = s.timing := rfl
@[simp] theorem setCounters_ownId : (s.setCounters x).ownId = s.ownId := rfl
@[simp] theorem setCounters_stagingSize : (s.setCounters x).stagingSize = s.stagingSize := rfl
@[simp] theorem setCounters_reserve : (s.setCounters x).reserve = s.reserve := rfl
@[simp] theorem setCounters_divertPos : (s.setCounters x).divertPos = s.divertPos := rfl
@[simp] theorem setCounters_gatePos : (s.setCounters x).gatePos = s.gatePos := rfl
@[simp] theorem setCounters_policy : (s.setCounters x).policy = s.policy := rfl
end countersBlock

section pendingBlock
variable (x : List Instr)
@[simp] theorem setPending_config : (s.setPending x).config = s.config := rfl
@[simp] theorem setPending_pins : (s.setPending x).pins = s.pins := rfl
@[simp] theorem setPending_loop : (s.setPending x).loop = s.loop := rfl
@[simp] theorem setPending_gate : (s.setPending x).gate = s.gate := rfl
@[simp] theorem setPending_line : (s.setPending x).line = s.line := rfl
@[simp] theorem setPending_view : (s.setPending x).view = s.view := rfl
@[simp] theorem setPending_plans : (s.setPending x).plans = s.plans := rfl
@[simp] theorem setPending_contest : (s.setPending x).contest = s.contest := rfl
@[simp] theorem setPending_divert : (s.setPending x).divert = s.divert := rfl
@[simp] theorem setPending_staging : (s.setPending x).staging = s.staging := rfl
@[simp] theorem setPending_part : (s.setPending x).part = s.part := rfl
@[simp] theorem setPending_port : (s.setPending x).port = s.port := rfl
@[simp] theorem setPending_counters : (s.setPending x).counters = s.counters := rfl
@[simp] theorem setPending_pending : (s.setPending x).pending = x := rfl
@[simp] theorem setPending_slots : (s.setPending x).slots = s.slots := rfl
@[simp] theorem setPending_pitch : (s.setPending x).pitch = s.pitch := rfl
@[simp] theorem setPending_loopLen : (s.setPending x).loopLen = s.loopLen := rfl
@[simp] theorem setPending_timing : (s.setPending x).timing = s.timing := rfl
@[simp] theorem setPending_ownId : (s.setPending x).ownId = s.ownId := rfl
@[simp] theorem setPending_stagingSize : (s.setPending x).stagingSize = s.stagingSize := rfl
@[simp] theorem setPending_reserve : (s.setPending x).reserve = s.reserve := rfl
@[simp] theorem setPending_divertPos : (s.setPending x).divertPos = s.divertPos := rfl
@[simp] theorem setPending_gatePos : (s.setPending x).gatePos = s.gatePos := rfl
@[simp] theorem setPending_policy : (s.setPending x).policy = s.policy := rfl
end pendingBlock

end Sys2Proof.Machine.State
end

