-- ==== Sys2Proof/Laws/Blocks.lean ====
section
/-! SUPPORT. Replacing one block of a running part by another that keeps that block's law. -/

namespace Sys2Proof.Laws

open Sys2Proof.Machine Sys2Proof.Safety

variable {s : State}

theorem running_setPins (h : Running s) (x : Pins) : Running (s.setPins x) :=
  ⟨h.started, h.loopPos, h.lane, h.loop, h.gate, h.line, h.view, h.plans, h.tables, h.arrivals, h.output, h.notices,
    h.counters⟩

theorem running_setPending (h : Running s) (x : List Instr) : Running (s.setPending x) :=
  ⟨h.started, h.loopPos, h.lane, h.loop, h.gate, h.line, h.view, h.plans, h.tables, h.arrivals, h.output, h.notices,
    h.counters⟩

theorem running_setLoop (h : Running s) {x : LoopTracker} (hx : loopLaw s.loopLen x) : Running (s.setLoop x) :=
  ⟨h.started, h.loopPos, h.lane, hx, h.gate, h.line, h.view, h.plans, h.tables, h.arrivals, h.output, h.notices,
    h.counters⟩

theorem running_setGate (h : Running s) {x : GateUnit} (hx : gateLaw x) : Running (s.setGate x) :=
  ⟨h.started, h.loopPos, h.lane, h.loop, hx, h.line, h.view, h.plans, h.tables, h.arrivals, h.output, h.notices,
    h.counters⟩

theorem running_setLine (h : Running s) {x : HallLine} (hx : lineLaw x) : Running (s.setLine x) :=
  ⟨h.started, h.loopPos, h.lane, h.loop, h.gate, hx, h.view, h.plans, h.tables, h.arrivals, h.output, h.notices,
    h.counters⟩

theorem running_setView (h : Running s) {x : List ViewEntry} (hx : x.length = s.view.length) : Running (s.setView x) :=
  ⟨h.started, h.loopPos, h.lane, h.loop, h.gate, h.line, hx.trans h.view, h.plans, h.tables, h.arrivals, h.output,
    h.notices, h.counters⟩

theorem running_setPlans (h : Running s) {x : PlanStore} (hx : planLaw x) : Running (s.setPlans x) :=
  ⟨h.started, h.loopPos, h.lane, h.loop, h.gate, h.line, h.view, hx, h.tables, h.arrivals, h.output, h.notices,
    h.counters⟩

theorem running_setContest (h : Running s) {x : ContestUnit}
    (hx : tableLaw s.slots s.stagingSize x.claims s.staging.records) : Running (s.setContest x) :=
  ⟨h.started, h.loopPos, h.lane, h.loop, h.gate, h.line, h.view, h.plans, hx, h.arrivals, h.output, h.notices,
    h.counters⟩

theorem running_setDivert (h : Running s) {x : DivertUnit} (hx : outputLaw x) : Running (s.setDivert x) :=
  ⟨h.started, h.loopPos, h.lane, h.loop, h.gate, h.line, h.view, h.plans, h.tables, h.arrivals, hx, h.notices,
    h.counters⟩

theorem running_setStaging (h : Running s) {x : StagingTable}
    (ht : tableLaw s.slots s.stagingSize s.contest.claims x.records) (ha : arrivalLaw x) : Running (s.setStaging x) :=
  ⟨h.started, h.loopPos, h.lane, h.loop, h.gate, h.line, h.view, h.plans, ht, ha, h.output, h.notices, h.counters⟩

theorem running_setPart (h : Running s) {x : FaultUnit} (hx : x.state ≠ .start) : Running (s.setPart x) :=
  ⟨hx, h.loopPos, h.lane, h.loop, h.gate, h.line, h.view, h.plans, h.tables, h.arrivals, h.output, h.notices,
    h.counters⟩

theorem running_setPort (h : Running s) {x : CellPort} (hx : noticeLaw x) : Running (s.setPort x) :=
  ⟨h.started, h.loopPos, h.lane, h.loop, h.gate, h.line, h.view, h.plans, h.tables, h.arrivals, h.output, hx,
    h.counters⟩

theorem running_setCounters (h : Running s) {x : Vector Counter 4} (hx : counterLaw x) : Running (s.setCounters x) :=
  ⟨h.started, h.loopPos, h.lane, h.loop, h.gate, h.line, h.view, h.plans, h.tables, h.arrivals, h.output, h.notices, hx⟩

end Sys2Proof.Laws
end

