-- ==== Sys2Proof/Laws/Ops.lean ====
section
/-! SUPPORT. The shared operations of Machine/Ops.lean: which blocks each can change, and that a running part stays within its laws. -/

namespace Sys2Proof.Laws

open Sys2Proof.Machine Sys2Proof.Safety

variable {s : State}

/-! ### The stuck timer (R79) -/

theorem timedBy_append (timer : Option Nat) (a b : List Bool) : timedBy timer (a ++ b) = timedBy (timedBy timer a) b :=
  List.foldl_append

/-- The last bit time decides whether the timer runs: a recessive one halts it. -/
theorem timedBy_concat_recessive (timer : Option Nat) (a : List Bool) : timedBy timer (a ++ [true]) = none := by
  simp [timedBy]

theorem timedBy_concat_dominant (timer : Option Nat) (a : List Bool) :
    timedBy timer (a ++ [false]) = some ((timedBy timer a).getD 0) := by
  simp [timedBy]

/-- Bit times add nothing to the timer: it stands where it stood, or at zero, or is halted. -/
theorem timedBy_le {n : Nat} (levels : List Bool) {timer : Option Nat} (h : ∀ m, timer = some m → m ≤ n) :
    ∀ m, timedBy timer levels = some m → m ≤ n := by
  induction levels generalizing timer with
  | nil => exact h
  | cons r levels ih =>
    refine ih (timer := if r then none else some (timer.getD 0)) fun m hm => ?_
    cases r <;> cases timer <;> simp_all
    omega

/-! ### Reports -/

theorem counter_take_le (c : Counter) (e : CounterEvent) (i : Option Station) (p : Option PlaceId)
    (h : c.value ≤ Config.counterMax) : (c.take e i p).value ≤ Config.counterMax := by
  unfold Counter.take
  split
  · exact Nat.min_le_right _ _
  · exact h

theorem report_only (s : State) (e : CounterEvent) (i : Option Station) (p : Option PlaceId) :
    report s e i p = s.setCounters (report s e i p).counters := rfl

theorem counterLaw_report (h : counterLaw s.counters) (e : CounterEvent) (i : Option Station) (p : Option PlaceId) :
    counterLaw (report s e i p).counters := by
  intro k
  have := h k
  match k with
  | 0 => exact counter_take_le _ _ _ _ this
  | 1 => exact counter_take_le _ _ _ _ this
  | 2 => exact counter_take_le _ _ _ _ this
  | 3 => exact counter_take_le _ _ _ _ this

theorem running_report (h : Running s) (e : CounterEvent) (i : Option Station) (p : Option PlaceId) :
    Running (report s e i p) := running_setCounters h (counterLaw_report h.counters e i p)

theorem running_reportPlain (h : Running s) (e : CounterEvent) : Running (reportPlain s e) := running_report h e _ _
theorem running_reportPlace (h : Running s) (e : CounterEvent) (p : PlaceId) : Running (reportPlace s e p) :=
  running_report h e _ _
theorem running_reportSender (h : Running s) (e : CounterEvent) (i : Station) : Running (reportSender s e i) :=
  running_report h e _ _

theorem reportTimes_only (s : State) (e : CounterEvent) (n : Nat) :
    reportTimes s e n = s.setCounters (reportTimes s e n).counters := by
  induction n generalizing s with
  | zero => rfl
  | succ n ih => rw [reportTimes, ih]; rfl

theorem running_reportTimes (h : Running s) (e : CounterEvent) (n : Nat) : Running (reportTimes s e n) := by
  induction n generalizing s with
  | zero => exact h
  | succ n ih => exact ih (running_reportPlain h e)

theorem sampleOccupancy_only (s : State) : sampleOccupancy s = s.setCounters (sampleOccupancy s).counters := by
  unfold sampleOccupancy
  dsimp only
  split <;> rfl

theorem counterLaw_set (h : counterLaw s.counters) {i : Nat} (hi : i < 4) {c : Counter}
    (hc : c.value ≤ Config.counterMax) : counterLaw (s.counters.set i c hi) := by
  intro k
  have hk := h k
  simp only [Fin.getElem_fin] at hk ⊢
  rw [Vector.getElem_set]
  split
  · exact hc
  · exact hk

theorem running_sampleOccupancy (h : Running s) : Running (sampleOccupancy s) := by
  unfold sampleOccupancy
  dsimp only
  split
  · exact running_setCounters h (counterLaw_set h.counters _ (Nat.min_le_right _ _))
  · exact running_setCounters h (counterLaw_set h.counters _ (Nat.min_le_right _ _))
  · exact h

/-! ### Notices and faults -/

theorem running_setFault (h : Running s) (f : FaultId) (e : FaultEntry) : Running (setFault s f e) :=
  running_setPart h h.started

theorem noticeLaw_append {p : CellPort} (n : Notice) (h : p.notices.length < Config.noticeCapacity) :
    noticeLaw { p with notices := p.notices ++ [n], attn := true } := by
  refine ⟨?_, ?_⟩
  · simp only [List.length_append, List.length_cons, List.length_nil]; omega
  · simp

theorem running_offerNotice (h : Running s) (n : Notice) : Running (offerNotice s n) := by
  unfold offerNotice
  split
  · exact running_setPort h (noticeLaw_append n ‹_›)
  · exact running_setFault h _ _

/-- A notice changes the notice queue with ATTN, or the fault record. -/
theorem offerNotice_only (s : State) (n : Notice) :
    offerNotice s n = (s.setPort (offerNotice s n).port).setPart (offerNotice s n).part := by
  unfold offerNotice
  split <;> rfl

theorem running_recordFault (h : Running s) (f : FaultId) (d : Nat) : Running (recordFault s f d) :=
  running_offerNotice (running_setFault h _ _) _

theorem recordFault_only (s : State) (f : FaultId) (d : Nat) :
    recordFault s f d = (s.setPort (recordFault s f d).port).setPart (recordFault s f d).part := by
  unfold recordFault
  rw [offerNotice_only]; rfl

theorem running_endCondition (h : Running s) (f : FaultId) : Running (endCondition s f) := running_setFault h _ _

/-! ### The transmit queue -/

theorem running_setTx (h : Running s) (q : List TxFrame) : Running (setTx s q) := running_setLine h h.line

theorem running_offerFrame (h : Running s) (f : OutFrame) : Running (offerFrame s f) := by
  unfold offerFrame offerAnnounce offerOther
  split
  · split
    · exact running_reportPlain h _
    · exact running_setTx h _
  · split
    · exact running_setTx h _
    · split
      · exact running_setTx (running_reportPlain h _) _
      · exact running_setTx h _

/-- An offered frame changes the transmit queue and the counters alone. -/
theorem offerFrame_only (s : State) (f : OutFrame) :
    offerFrame s f = (s.setLine (offerFrame s f).line).setCounters (offerFrame s f).counters := by
  unfold offerFrame offerAnnounce offerOther
  split
  · split <;> rfl
  · split
    · rfl
    · split <;> rfl

theorem running_withdrawAnnounces (h : Running s) (p : OutFrame → Bool) : Running (withdrawAnnounces s p) :=
  running_reportTimes (running_setTx h _) _ _

theorem withdrawAnnounces_only (s : State) (p : OutFrame → Bool) :
    withdrawAnnounces s p =
      (s.setLine (withdrawAnnounces s p).line).setCounters (withdrawAnnounces s p).counters := by
  unfold withdrawAnnounces
  rw [reportTimes_only]; rfl

theorem running_offerWithdraw (h : Running s) (r : Nat) : Running (offerWithdraw s r) :=
  running_offerFrame (running_setTx h _) _

theorem running_offerJoin (h : Running s) : Running (offerJoin s) := running_offerFrame (running_setTx h _) _

theorem running_offerReplyJoin (h : Running s) : Running (offerReplyJoin s) := by
  unfold offerReplyJoin
  split
  · exact h
  · exact running_offerFrame h _

theorem running_enterOwnFrame (h : Running s) (f : Frame) : Running (enterOwnFrame s f) := by
  unfold enterOwnFrame
  split
  · refine running_setLine h ⟨?_, h.line.2.1, h.line.2.2⟩
    simp only [List.length_append, List.length_cons, List.length_nil]; omega
  · exact running_setLine h h.line

/-! ### Places and lines -/

/-- The places after one is replaced. -/
theorem setPlace_get (s : State) (p q : PlaceId) (x : Place) :
    (setPlace s p x).plans.places[q] = if p = q then x else s.plans.places[q] := by
  simp only [setPlace, State.setPlans, Fin.getElem_fin]
  rw [Vector.getElem_set]
  by_cases e : p = q
  · subst e; simp
  · have : p.val ≠ q.val := fun h => e (Fin.ext h)
    simp [this, e]

/-- A place replaced by one that builds, or loads, exactly when the old one did. -/
theorem planLaw_setPlace (h : planLaw s.plans) (p : PlaceId) {x : Place}
    (hb : (x.state = .building ∨ x.state = .suspended) ↔
      ((s.place p).state = .building ∨ (s.place p).state = .suspended))
    (hl : x.state = .loading ↔ (s.place p).state = .loading)
    (ht : x.currentTier.isSome = true → (x.state = .building ∨ x.state = .suspended)) :
    planLaw (setPlace s p x).plans := by
  refine ⟨h.once, fun q => ?_, fun q => ?_, fun q => ?_⟩
  · rw [setPlace_get]
    split
    · rename_i e; subst e; rw [hb]; exact h.building p
    · exact h.building q
  · rw [setPlace_get]
    split
    · rename_i e; subst e; rw [hl]; exact h.loading p
    · exact h.loading q
  · rw [setPlace_get]
    split
    · exact ht
    · exact h.tier q

theorem running_setPlace (h : Running s) (p : PlaceId) {x : Place} (hx : x.state = (s.place p).state)
    (ht : x.currentTier.isSome = true → (x.state = .building ∨ x.state = .suspended)) :
    Running (setPlace s p x) :=
  running_setPlans h (planLaw_setPlace h.plans p (by rw [hx]) (by rw [hx]) ht)

theorem running_modifyLine (h : Running s) (t : Target) (f : Line → Line) : Running (modifyLine s t f) :=
  running_setPlace h _ rfl (h.plans.tier _)

theorem modifyLine_only (s : State) (t : Target) (f : Line → Line) :
    modifyLine s t f = s.setPlans (modifyLine s t f).plans := rfl

/-! ### Responses -/

theorem running_respond (h : Running s) (r : Result) (d : BitVec 88) : Running (respond s r d) :=
  running_setPort h h.notices

theorem running_answer (h : Running s) (r : Result) : Running (answer s r) := running_respond h r 0

end Sys2Proof.Laws
end

