-- ==== Sys2Proof/Laws/Contest.lean ====
section
/-! SUPPORT. The operations of Machine/Contest.lean: a running part stays within its laws, and a search makes no second entry for a slot. -/

namespace Sys2Proof.Laws

open Sys2Proof.Machine Sys2Proof.Safety

variable {s : State}

/-- A fold of operations that each keep a running part running keeps it running. -/
theorem running_foldl {α : Type} (f : State → α → State) (hf : ∀ s a, Running s → Running (f s a)) (l : List α)
    (h : Running s) : Running (l.foldl f s) := by
  induction l generalizing s with
  | nil => exact h
  | cons a l ih => exact ih (hf s a h)

/-! ### The claim table -/

theorem tableLaw_map {slots size : Nat} {cs : List Claim} {rs : List StagingRecord} (h : tableLaw slots size cs rs)
    (g : Claim → Claim) (hg : ∀ c, (g c).slot = c.slot) : tableLaw slots size (cs.map g) rs := by
  have e : (cs.map g).map (·.slot) = cs.map (·.slot) := by
    rw [List.map_map]; congr 1; funext c; exact hg c
  refine ⟨by simpa using h.bound, by rw [e]; exact h.once, ?_, by simpa using h.room⟩
  intro c hc
  obtain ⟨d, hd, rfl⟩ := List.mem_map.1 hc
  rw [hg]; exact h.onLoop d hd

theorem tableLaw_filter {slots size : Nat} {cs : List Claim} {rs : List StagingRecord} (h : tableLaw slots size cs rs)
    (q : Claim → Bool) : tableLaw slots size (cs.filter q) rs := by
  have l := List.length_filter_le q cs
  refine ⟨l.trans h.bound, ?_, fun c hc => h.onLoop c (List.mem_of_mem_filter hc), ?_⟩
  · exact h.once.sublist (List.filter_sublist.map _)
  · have := h.room; omega

theorem tableLaw_append {slots size : Nat} {cs : List Claim} {rs : List StagingRecord} (h : tableLaw slots size cs rs)
    (c : Claim) (hb : cs.length < Config.framePlaceLimit) (hn : c.slot ∉ cs.map (·.slot)) (hs : c.slot < slots)
    (hr : rs.length + cs.length < size) : tableLaw slots size (cs ++ [c]) rs := by
  refine ⟨?_, ?_, ?_, ?_⟩
  · simp only [List.length_append, List.length_cons, List.length_nil]; omega
  · rw [List.map_append, List.nodup_append]
    refine ⟨h.once, by simp, ?_⟩
    intro a ha b hb'
    simp only [List.map_cons, List.map_nil, List.mem_singleton] at hb'
    rintro rfl
    exact hn (hb' ▸ ha)
  · intro d hd
    rcases List.mem_append.1 hd with hd | hd
    · exact h.onLoop d hd
    · simp only [List.mem_singleton] at hd; subst hd; exact hs
  · simp only [List.length_append, List.length_cons, List.length_nil]; omega

theorem running_modifyClaim (h : Running s) (k : Nat) (f : Claim → Claim) (hf : ∀ c, (f c).slot = c.slot) :
    Running (modifyClaim s k f) := by
  refine running_setContest h (tableLaw_map h.tables _ ?_)
  intro c
  split
  · exact hf c
  · rfl

theorem running_markSearch (h : Running s) : Running (markSearch s) := running_setContest h h.tables

theorem running_dropClaim (h : Running s) (c : Claim) : Running (dropClaim s c) :=
  running_modifyLine (running_setContest h (tableLaw_filter h.tables _)) _ _

theorem running_leaveClaim (h : Running s) (c : Claim) : Running (leaveClaim s c) :=
  running_markSearch (running_dropClaim h c)

theorem running_reportEnd (h : Running s) (c : Claim) (e : PendingEnd) : Running (reportEnd s c e) := by
  cases e
  · exact running_reportPlace h _ _
  · exact running_reportPlace h _ _
  · exact h
  · exact h

theorem running_leaveWithEnd (h : Running s) (c : Claim) (e : PendingEnd) : Running (leaveWithEnd s c e) :=
  running_leaveClaim (running_reportEnd h c e) c

theorem running_cancelTest (h : Running s) (p : PlaceId) : Running (cancelTest s p) := by
  unfold cancelTest
  split
  · rename_i hc
    refine running_offerNotice (running_setPlans h (planLaw_setPlace h.plans p ?_ ?_ ?_)) _
    · rw [hc.1]; simp [Place.empty]
    · rw [hc.1]; simp [Place.empty]
    · simp [Place.empty]
  · exact h

theorem running_endUncommitted (h : Running s) (k : Nat) (e : PendingEnd) : Running (endUncommitted s k e) := by
  unfold endUncommitted
  split
  · exact h
  · rename_i c _
    have h1 : ∀ x, Running (modifyClaim s k (fun d => { d with pendingEnd := x })) :=
      fun x => running_modifyClaim h k _ (fun _ => rfl)
    dsimp only
    split
    · split
      · exact running_leaveWithEnd (running_setTx (h1 _) _) _ _
      · exact running_setTx (h1 _) _
    · exact h1 _
    · exact h
    · exact h
    · exact h

theorem running_endAndTest (h : Running s) (k : Nat) (e : PendingEnd) : Running (endAndTest s k e) := by
  unfold endAndTest
  split
  · exact h
  · exact running_cancelTest (running_endUncommitted h k e) _

theorem running_cancelClaim (h : Running s) (k : Nat) : Running (cancelClaim s k) := by
  unfold cancelClaim
  split
  · exact h
  · split
    · exact running_endUncommitted h k _
    · exact running_endUncommitted h k _
    · exact running_offerFrame (running_leaveClaim h _) _
    · exact h
    · exact h

theorem running_cancelClaimsOf (h : Running s) (p : PlaceId) : Running (cancelClaimsOf s p) :=
  running_foldl _ (fun _ _ h => running_cancelClaim h _) _ h

theorem running_withdrawClaim (h : Running s) (k : Nat) : Running (withdrawClaim s k) := by
  unfold withdrawClaim
  split
  · exact h
  · split
    · exact running_endAndTest h k _
    · exact running_endAndTest h k _
    · exact running_cancelTest (running_offerFrame (running_leaveClaim h _) _) _
    · exact h
    · exact h

theorem running_withdrawClaims (h : Running s) : Running (withdrawClaims s) :=
  running_foldl _ (fun _ _ h => running_withdrawClaim h _) _ h

theorem running_addOrphan (h : Running s) (k : Nat) : Running (addOrphan s k) := running_setContest h h.tables

theorem running_faultClaim (h : Running s) (k : Nat) : Running (faultClaim s k) := by
  unfold faultClaim
  split
  · exact h
  · rename_i c _
    have h1 := running_leaveClaim h c
    refine running_cancelTest ?_ _
    split
    · exact running_setTx h1 _
    · exact running_addOrphan h1 k
    · exact running_offerFrame h1 _
    · exact running_offerFrame h1 _
    · exact running_offerFrame h1 _

theorem running_faultClaims (h : Running s) : Running (faultClaims s) :=
  running_foldl _ (fun _ _ h => running_faultClaim h _) _ h

/-! ### The search -/

theorem framePlaces_ge (s : State) : s.contest.claims.length ≤ framePlaces s := by
  unfold framePlaces; omega

/-- No entry for a slot: the slot is none of the slots held. -/
theorem claimAt_none_iff (s : State) (k : Nat) : s.claimAt k = none ↔ k ∉ s.contest.claims.map (·.slot) := by
  unfold State.claimAt
  rw [List.find?_eq_none]
  constructor
  · intro h hm
    obtain ⟨c, hc, rfl⟩ := List.mem_map.1 hm
    exact h c hc (by simp)
  · intro h c hc e
    simp only [decide_eq_true_eq] at e
    exact h (e ▸ List.mem_map_of_mem hc)

/-- R107: the room condition leaves a place of the lane. -/
theorem roomFor_lt {u : Urgency} (h : roomFor s u = true) :
    s.staging.records.length + s.contest.claims.length < s.stagingSize := by
  unfold roomFor at h
  simp only [Bool.and_eq_true, decide_eq_true_eq] at h
  exact h.1

/-- R105, R107, R109: the line chosen meets its room condition. -/
theorem bestLine_room {c : CaseId} {m : Target × Urgency} (h : bestLine s c = some m) : roomFor s m.2 = true := by
  unfold bestLine at h
  have key : ∀ (l : List PlaceId) (b : Option (Target × Urgency)), (∀ x, b = some x → roomFor s x.2 = true) →
      ∀ x, l.foldl (fun best p =>
        match matchingLine s p c with
        | some m => if roomFor s m.2 then betterLine best m else best
        | none => best) b = some x → roomFor s x.2 = true := by
    intro l
    induction l with
    | nil => intro b hb x hx; exact hb x hx
    | cons p l ih =>
      intro b hb x hx
      refine ih _ ?_ x hx
      intro y hy
      dsimp only at hy
      split at hy
      · split at hy
        · rename_i hr
          unfold betterLine at hy
          split at hy
          · split at hy
            · rw [Option.some.injEq] at hy; rw [← hy]; exact hr
            · exact hb y hy
          · rw [Option.some.injEq] at hy; rw [← hy]; exact hr
        · exact hb y hy
      · exact hb y hy
  exact key _ none (by simp) m h

/-- A queued claim changes the plans, the claim table, the transmit queue and the counters. -/
theorem queueClaim_only (s : State) (k : Nat) (t : Target) (u : Urgency) :
    queueClaim s k t u = (((s.setPlans (queueClaim s k t u).plans).setContest (queueClaim s k t u).contest).setLine
      (queueClaim s k t u).line).setCounters (queueClaim s k t u).counters := by
  unfold queueClaim
  rw [offerFrame_only]; rfl

theorem queueClaim_claims (s : State) (k : Nat) (t : Target) (u : Urgency) :
    (queueClaim s k t u).contest.claims = s.contest.claims ++
      [{ slot := k, target := t, urgency := u, state := .queued, firePos := none, pendingEnd := none, late := false,
         suspect := false }] := by
  unfold queueClaim
  rw [offerFrame_only]; rfl

theorem running_queueClaim (h : Running s) {k : Nat} (t : Target) (u : Urgency) (hp : framePlaces s < 6)
    (hk : k < s.slots) (hn : s.claimAt k = none) (hr : roomFor s u = true) : Running (queueClaim s k t u) := by
  unfold queueClaim
  refine running_offerFrame (running_modifyLine (running_setContest h (tableLaw_append h.tables _ ?_ ?_ hk ?_)) _ _) _
  · exact Nat.lt_of_le_of_lt (framePlaces_ge s) hp
  · exact (claimAt_none_iff s k).1 hn
  · exact roomFor_lt hr

/-- What the search needs of the slots still to be examined. -/
def Open (s : State) (l : List Nat) : Prop := ∀ k ∈ l, k < s.slots ∧ s.claimAt k = none

theorem open_queueClaim {l : List Nat} {j : Nat} (t : Target) (u : Urgency) (h : Open s l) (hj : j ∉ l) :
    Open (queueClaim s j t u) l := by
  intro k hk
  have e : (queueClaim s j t u).slots = s.slots := by rw [queueClaim_only]; rfl
  refine ⟨by rw [e]; exact (h k hk).1, ?_⟩
  rw [claimAt_none_iff, queueClaim_claims]
  have := (claimAt_none_iff s k).1 (h k hk).2
  simp only [List.map_append, List.map_cons, List.map_nil, List.mem_append, List.mem_singleton, not_or]
  exact ⟨this, fun e => hj (e ▸ hk)⟩

theorem running_searchSlot (h : Running s) {k : Nat} {l : List Nat} (ho : Open s (k :: l)) (hk : k ∉ l) :
    Running (searchSlot s k) ∧ Open (searchSlot s k) l := by
  have hl : Open s l := fun j hj => ho j (List.mem_cons_of_mem _ hj)
  obtain ⟨h1, h2⟩ := ho k List.mem_cons_self
  unfold searchSlot
  split
  · exact ⟨h, hl⟩
  · rename_i hf
    split
    · split
      · rename_i m hm
        exact ⟨running_queueClaim h _ _ (Nat.lt_of_not_le hf) h1 h2 (bestLine_room hm), open_queueClaim _ _ hl hk⟩
      · exact ⟨h, hl⟩
    · exact ⟨h, hl⟩

/-- Sorting keeps the elements. -/
theorem insertBy_perm {α : Type} (less : α → α → Bool) (x : α) (l : List α) : (insertBy less x l).Perm (x :: l) := by
  induction l with
  | nil => exact List.Perm.refl _
  | cons y ys ih =>
    unfold insertBy
    split
    · exact List.Perm.refl _
    · exact (ih.cons y).trans (List.Perm.swap x y ys)

theorem sortBy_perm {α : Type} (less : α → α → Bool) (l : List α) : (sortBy less l).Perm l := by
  have key : ∀ (l acc : List α), (l.foldl (fun acc x => insertBy less x acc) acc).Perm (l ++ acc) := by
    intro l
    induction l with
    | nil => intro acc; exact List.Perm.refl _
    | cons x xs ih =>
      intro acc
      refine (ih _).trans ?_
      refine ((insertBy_perm less x acc).append_left xs).trans ?_
      exact List.perm_middle
  have := key l []
  simpa [sortBy] using this

theorem open_candidates (s : State) : Open s (candidates s) := by
  intro k hk
  have := (sortBy_perm _ _).mem_iff.1 hk
  rw [List.mem_filter, List.mem_range] at this
  refine ⟨this.1, ?_⟩
  have h2 := this.2
  unfold isCandidate at h2
  split at h2
  · simp only [Bool.and_eq_true, Option.isNone_iff_eq_none] at h2; exact h2.2
  · exact absurd h2 (by simp)

theorem nodup_candidates (s : State) : (candidates s).Nodup :=
  (sortBy_perm _ _).nodup_iff.2 (List.nodup_range.filter _)

theorem running_search (h : Running s) : Running (search s) := by
  have key : ∀ (l : List Nat) (s : State), Running s → Open s l → l.Nodup → Running (l.foldl searchSlot s) := by
    intro l
    induction l with
    | nil => intro s h _ _; exact h
    | cons k l ih =>
      intro s h ho hn
      obtain ⟨h1, h2⟩ := running_searchSlot h ho (List.nodup_cons.1 hn).1
      exact ih _ h1 h2 (List.nodup_cons.1 hn).2
  exact key _ s h (open_candidates s) (nodup_candidates s)

theorem running_runSearch (h : Running s) : Running (runSearch s) := by
  unfold runSearch
  dsimp only
  split
  · exact running_search (running_setContest h h.tables)
  · exact running_setContest h h.tables

/-! ### Positions reached -/

theorem running_testClaim (h : Running s) (k : Nat) : Running (testClaim s k) := by
  unfold testClaim
  split
  · exact h
  · split
    · split
      · exact h
      · exact running_endAndTest (running_modifyClaim h k (fun d => { d with late := true }) (fun _ => rfl)) k _
    · split
      · exact h
      · exact running_modifyClaim h k _ (fun _ => rfl)
    · split
      · exact running_modifyClaim h k _ (fun _ => rfl)
      · exact h
    · exact h
    · exact h

theorem running_testClaims (h : Running s) : Running (testClaims s) :=
  running_foldl _ (fun _ _ h => running_testClaim h _) _ h

end Sys2Proof.Laws
end

