-- ==== Sys2Proof/Laws/Staging.lean ====
section
/-! SUPPORT. The operations of Machine/Staging.lean and Machine/Outcome.lean: a running part stays within its laws. -/

namespace Sys2Proof.Laws

open Sys2Proof.Machine Sys2Proof.Safety

variable {s : State}

/-! ### Arrival numbers (R144) -/

theorem skipHeld_cases (rs : List StagingRecord) (fuel n : Nat) (hn : n < 65536) :
    skipHeld rs fuel n < 65536 ∧ (skipHeld rs fuel n ∉ rs.map (·.arrival) ∨
      ((∀ i < fuel, (n + i) % 65536 ∈ rs.map (·.arrival)) ∧ skipHeld rs fuel n = (n + fuel) % 65536)) := by
  induction fuel generalizing n with
  | zero => exact ⟨hn, Or.inr ⟨fun i hi => absurd hi (Nat.not_lt_zero i), by
      simp only [skipHeld, Nat.add_zero]; exact (Nat.mod_eq_of_lt hn).symm⟩⟩
  | succ fuel ih =>
    unfold skipHeld
    by_cases hh : rs.any (fun r => decide (r.arrival = n)) = true
    · simp only [hh, if_true]
      obtain ⟨h1, h2⟩ := ih ((n + 1) % 65536) (Nat.mod_lt _ (by decide))
      refine ⟨h1, ?_⟩
      rcases h2 with h2 | ⟨h2, h3⟩
      · exact Or.inl h2
      · refine Or.inr ⟨fun i hi => ?_, ?_⟩
        · cases i with
          | zero =>
            simp only [List.any_eq_true, decide_eq_true_eq] at hh
            obtain ⟨r, hr, e⟩ := hh
            rw [Nat.add_zero, Nat.mod_eq_of_lt hn, ← e]
            exact List.mem_map_of_mem hr
          | succ i =>
            have := h2 i (Nat.lt_of_succ_lt_succ hi)
            rw [Nat.mod_add_mod] at this
            rw [show n + (i + 1) = n + 1 + i by omega]; exact this
        · rw [h3, Nat.mod_add_mod]; congr 1; omega
    · simp only [hh]
      refine ⟨hn, Or.inl ?_⟩
      intro hm
      obtain ⟨r, hr, e⟩ := List.mem_map.1 hm
      exact hh (List.any_eq_true.2 ⟨r, hr, by simpa using e⟩)

theorem skipHeld_fresh (rs : List StagingRecord) (n : Nat) (hn : n < 65536) (hl : rs.length < 65536) :
    skipHeld rs rs.length n ∉ rs.map (·.arrival) ∧ skipHeld rs rs.length n < 65536 := by
  obtain ⟨h1, h2⟩ := skipHeld_cases rs rs.length n hn
  refine ⟨?_, h1⟩
  rcases h2 with h2 | ⟨h2, h3⟩
  · exact h2
  · intro hm
    rw [h3] at hm
    have all : ∀ i ∈ Finset.range (rs.length + 1), (n + i) % 65536 ∈ (rs.map (·.arrival)).toFinset := by
      intro i hi
      rw [Finset.mem_range] at hi
      rw [List.mem_toFinset]
      rcases Nat.lt_succ_iff_lt_or_eq.1 hi with hi | rfl
      · exact h2 i hi
      · exact hm
    have inj : Set.InjOn (fun i => (n + i) % 65536) (Finset.range (rs.length + 1) : Set Nat) := by
      intro a ha b hb e
      simp only [Finset.coe_range, Set.mem_Iio] at ha hb
      simp only at e
      omega
    have c := Finset.card_le_card_of_injOn _ all inj
    have := List.toFinset_card_le (rs.map (·.arrival))
    simp only [Finset.card_range, List.length_map] at c this
    omega

/-! ### Records -/

theorem arrivalLaw_map {t : StagingTable} (h : arrivalLaw t) (g : StagingRecord → StagingRecord)
    (hg : ∀ r, (g r).arrival = r.arrival) : arrivalLaw { t with records := t.records.map g } := by
  have e : (t.records.map g).map (·.arrival) = t.records.map (·.arrival) := by
    rw [List.map_map]; congr 1; funext r; exact hg r
  exact ⟨by simpa only [e] using h.once, by simpa only [e] using h.fresh, h.width⟩

theorem arrivalLaw_filter {t : StagingTable} (h : arrivalLaw t) (q : StagingRecord → Bool) :
    arrivalLaw { t with records := t.records.filter q } :=
  ⟨h.once.sublist (List.filter_sublist.map _), fun hm => h.fresh ((List.filter_sublist.map _).mem hm), h.width⟩

theorem tableLaw_records {slots size : Nat} {cs : List Claim} {rs qs : List StagingRecord}
    (h : tableLaw slots size cs rs) (hq : qs.length + cs.length ≤ size) : tableLaw slots size cs qs :=
  ⟨h.bound, h.once, h.onLoop, hq⟩

/-- Records re-marked in their places, each keeping its arrival number. -/
theorem running_setRecords_map (h : Running s) (g : StagingRecord → StagingRecord)
    (hg : ∀ r, (g r).arrival = r.arrival) : Running (setRecords s (s.staging.records.map g)) := by
  refine running_setStaging h (tableLaw_records h.tables ?_) (arrivalLaw_map h.arrivals g hg)
  rw [List.length_map]; exact h.tables.room

theorem running_setRecords_filter (h : Running s) (q : StagingRecord → Bool) :
    Running (setRecords s (s.staging.records.filter q)) := by
  refine running_setStaging h (tableLaw_records h.tables ?_) (arrivalLaw_filter h.arrivals q)
  have h1 := List.length_filter_le q s.staging.records
  have h2 := h.tables.room
  show (s.staging.records.filter q).length + s.contest.claims.length ≤ s.stagingSize
  omega

theorem running_makeRecord (h : Running s) (k : Nat) (c : CaseId) (t : Option Target) (st : RecordState)
    (hr : s.staging.records.length + s.contest.claims.length < s.stagingSize) : Running (makeRecord s k c t st) := by
  have hl : (s.staging.records ++ [StagingRecord.mk s.staging.nextArrival k c t st]).length < 65536 := by
    have := h.lane
    simp only [List.length_append, List.length_cons, List.length_nil]; omega
  have fresh := skipHeld_fresh (s.staging.records ++ [StagingRecord.mk s.staging.nextArrival k c t st])
    ((s.staging.nextArrival + 1) % 65536) (Nat.mod_lt _ (by decide)) hl
  unfold makeRecord
  dsimp only
  refine running_setStaging h (tableLaw_records h.tables ?_) (arrivalLaw.mk ?_ fresh.1 fresh.2)
  · simp only [List.length_append, List.length_cons, List.length_nil]; omega
  · dsimp only
    rw [List.map_append, List.nodup_append]
    refine ⟨h.arrivals.once, by simp, ?_⟩
    intro a ha b hb
    simp only [List.map_cons, List.map_nil, List.mem_singleton] at hb
    rintro rfl
    exact h.arrivals.fresh (hb ▸ ha)

theorem running_stageTaken (h : Running s) (c : Claim) (case : CaseId)
    (hr : s.staging.records.length + s.contest.claims.length < s.stagingSize) : Running (stageTaken s c case) := by
  unfold stageTaken
  dsimp only
  have made := fun t st => running_makeRecord h c.slot case t st hr
  split
  iterate 2 exact running_offerNotice (running_modifyLine (made _ _) _ _) _
  all_goals exact running_offerNotice (made _ _) _

theorem running_promoteRecords (h : Running s) (p : PlaceId) (t : Nat) : Running (promoteRecords s p t) := by
  unfold promoteRecords
  refine running_foldl _ (fun _ _ h => running_offerNotice h _) _ (running_setRecords_map h _ ?_)
  intro r; split <;> rfl

theorem running_demoteRecords (h : Running s) (p : PlaceId) : Running (demoteRecords s p) := by
  refine running_setRecords_map h _ ?_
  intro r; split <;> rfl

theorem running_orphanRecords (h : Running s) (p : PlaceId) : Running (orphanRecords s p) := by
  unfold orphanRecords
  refine running_foldl _ (fun _ _ h => running_offerNotice h _) _ ?_
  have h1 : Running (setRecords s (s.staging.records.map (fun r =>
      if r.forPlace p then { r with state := .orphan, target := none } else r))) := by
    refine running_setRecords_map h _ ?_
    intro r; split <;> rfl
  exact running_setPlace h1 p rfl (h1.plans.tier p)

/-! ### Watches and places -/

theorem running_setWatch (h : Running s) (p : PlaceId) (w : Watch) : Running (setWatch s p w) :=
  running_setPart h h.started

theorem running_stopWatch (h : Running s) (p : PlaceId) : Running (stopWatch s p) := by
  unfold stopWatch
  split
  · exact running_setWatch h _ _
  · exact running_setWatch h _ _
  · exact h
  · exact h
  · exact h

/-- A place of the build order list changes between BUILDING and SUSPENDED. -/
theorem running_setPlace_build (h : Running s) (p : PlaceId) {x : Place}
    (hp : (s.place p).state = .building ∨ (s.place p).state = .suspended)
    (hx : x.state = .building ∨ x.state = .suspended) : Running (setPlace s p x) := by
  refine running_setPlans h (planLaw_setPlace h.plans p ⟨fun _ => hp, fun _ => hx⟩ ?_ fun _ => hx)
  rcases hp with hp | hp <;> rcases hx with hx | hx <;> rw [hp, hx] <;> simp

/-- A place leaves the build order list as it stops building. -/
theorem planLaw_leave (h : planLaw s.plans) (p : PlaceId) {x : Place}
    (hp : (s.place p).state = .building ∨ (s.place p).state = .suspended)
    (hx : x.state = .complete ∨ x.state = .cancelling) (ht : x.currentTier = none) : planLaw (leaveBuildOrder (setPlace s p x) p).plans := by
  refine ⟨h.once.filter _, fun q => ?_, fun q => ?_, fun q => ?_⟩
  · show q ∈ s.plans.buildOrder.filter (fun q => decide (q ≠ p)) ↔
      ((setPlace s p x).plans.places[q].state = .building ∨ (setPlace s p x).plans.places[q].state = .suspended)
    rw [setPlace_get, List.mem_filter]
    by_cases e : p = q
    · subst e
      rcases hx with hx | hx <;> rw [if_pos rfl, hx] <;> simp
    · rw [if_neg e, h.building q, decide_eq_true_eq]
      exact ⟨fun x => x.1, fun x => ⟨x, fun e' => e e'.symm⟩⟩
  · show s.plans.loader = some q ↔ ((setPlace s p x).plans.places[q].state = .loading)
    rw [setPlace_get]
    split
    · rename_i e; subst e
      have : s.plans.loader = some p ↔ (s.place p).state = .loading := h.loading p
      rw [this]
      rcases hx with hx | hx <;> rcases hp with hp | hp <;> rw [hx, hp] <;> simp
    · exact h.loading q
  · show ((setPlace s p x).plans.places[q].currentTier.isSome = true →
      ((setPlace s p x).plans.places[q].state = .building ∨ (setPlace s p x).plans.places[q].state = .suspended))
    rw [setPlace_get]
    split
    · rw [ht]; simp
    · exact h.tier q

theorem running_leave (h : Running s) (p : PlaceId) {x : Place}
    (hp : (s.place p).state = .building ∨ (s.place p).state = .suspended)
    (hx : x.state = .complete ∨ x.state = .cancelling) (ht : x.currentTier = none) : Running (leaveBuildOrder (setPlace s p x) p) := by
  have e : leaveBuildOrder (setPlace s p x) p = s.setPlans (leaveBuildOrder (setPlace s p x) p).plans := rfl
  rw [e]
  exact running_setPlans h (planLaw_leave h.plans p hp hx ht)

/-- R19: a place with a current tier is BUILDING or SUSPENDED. -/
theorem builds_of_tier (h : Running s) {p : PlaceId} {t : Nat} (ht : (s.place p).currentTier = some t) :
    (s.place p).state = .building ∨ (s.place p).state = .suspended :=
  h.plans.tier p (by rw [show s.plans.places[p].currentTier = some t from ht]; rfl)

theorem running_advanceTier (h : Running s) (p : PlaceId) (t : Nat)
    (hp : (s.place p).state = .building ∨ (s.place p).state = .suspended) : Running (advanceTier s p t) :=
  running_markSearch (running_promoteRecords (running_offerNotice (running_setPlace h p
    (x := { s.place p with currentTier := some (t + 1) }) rfl fun _ => hp) _) _ _)

theorem running_completePlace (h : Running s) (p : PlaceId)
    (hp : (s.place p).state = .building ∨ (s.place p).state = .suspended) : Running (completePlace s p) :=
  running_offerNotice (running_stopWatch (running_leave h p
    (x := { s.place p with state := .complete, currentTier := none }) hp (Or.inl rfl) rfl) p) _

theorem running_tierTest (h : Running s) (p : PlaceId) : Running (tierTest s p) := by
  unfold tierTest
  split
  · rename_i ht _
    split
    · split
      · exact running_advanceTier h _ _ (builds_of_tier h ht)
      · exact running_completePlace h p (builds_of_tier h ht)
    · exact h
  · exact h

theorem running_suspendPlace (h : Running s) (p : PlaceId) : Running (suspendPlace s p) := by
  unfold suspendPlace
  split
  · rename_i hb
    unfold State.building at hb
    exact running_demoteRecords (running_cancelClaimsOf (running_stopWatch
      (running_setPlace_build h p (Or.inl (of_decide_eq_true hb)) (Or.inr rfl)) _) _) _
  · exact h

theorem running_cancelPlace (h : Running s) (p : PlaceId)
    (hp : (s.place p).state = .building ∨ (s.place p).state = .suspended) : Running (cancelPlace s p) :=
  running_cancelTest (running_orphanRecords (running_cancelClaimsOf (running_stopWatch
    (running_leave h p (x := { s.place p with state := .cancelling, currentTier := none }) hp (Or.inr rfl) rfl) p) p) p) p

/-! ### Fire and outcome -/

theorem running_setFire_keep (h : Running s) {f g : Fire} (hf : s.divert.fire = some f) (hg : g.dwell.isSome = f.dwell.isSome) :
    Running (setFire s (some g)) := by
  refine running_setDivert h ?_
  intro ho
  obtain ⟨f', e, hd⟩ := h.output ho
  rw [hf, Option.some.injEq] at e
  exact ⟨g, rfl, by rw [hg, e]; exact hd⟩

theorem running_outputOff (h : Running s) (f : Option Fire) : Running (setFire (setOutput s false) f) := by
  have e : setFire (setOutput s false) f = s.setDivert { s.divert with output := false, fire := f } := rfl
  rw [e]
  refine running_setDivert h ?_
  intro ho; exact absurd ho (by simp)

theorem running_setOutput_false (h : Running s) : Running (setOutput s false) := by
  refine running_setDivert h ?_
  intro ho; exact absurd ho (by simp)

theorem running_outcomeMissed (h : Running s) (k : Nat) : Running (outcomeMissed s k) := by
  unfold outcomeMissed
  split
  · exact running_cancelTest (running_offerFrame (running_leaveClaim h _) _) _
  · exact h

/-- A claim of the table that leaves makes room for its record. -/
theorem dropClaim_room (h : Running s) {c : Claim} (hc : c ∈ s.contest.claims) :
    (dropClaim s c).staging.records.length + (dropClaim s c).contest.claims.length < (dropClaim s c).stagingSize := by
  have hlt : (s.contest.claims.filter (fun d => decide (d.slot ≠ c.slot))).length < s.contest.claims.length :=
    List.length_filter_lt_length_iff_exists.2 ⟨c, hc, by simp⟩
  have := h.tables.room
  show s.staging.records.length + (s.contest.claims.filter (fun d => decide (d.slot ≠ c.slot))).length < s.stagingSize
  omega

theorem running_outcomeTaken (h : Running s) (k : Nat) : Running (outcomeTaken s k) := by
  unfold outcomeTaken
  split
  · rename_i c hc
    have hm : c ∈ s.contest.claims := List.mem_of_find?_eq_some hc
    exact running_cancelTest (running_offerFrame (running_stageTaken (running_dropClaim h c) c _ (dropClaim_room h hm)) _) _
  · exact h

theorem running_closeMissed (h : Running s) {f : Fire} (hf : s.divert.fire = some f) : Running (closeMissed s f) :=
  running_outcomeMissed (running_offerNotice (running_reportPlace
    (running_setFire_keep h hf (g := { f with window := none }) rfl) _ _) _) _

theorem running_confirmTaken (h : Running s) {f : Fire} (hf : s.divert.fire = some f) : Running (confirmTaken s f) :=
  running_outcomeTaken (running_reportPlace (running_setFire_keep h hf (g := { f with window := none }) rfl) _ _) _

theorem running_discardFire (h : Running s) : Running (discardFire s) := by
  unfold discardFire
  split
  · rename_i f hf
    split
    · rename_i hd
      refine running_setDivert h ?_
      intro ho
      obtain ⟨f', e, hd'⟩ := h.output ho
      rw [hf, Option.some.injEq] at e
      subst e
      rw [hd.1] at hd'
      exact absurd hd' (by simp)
    · exact h
  · exact h

/-- The output is turned on with a new fire, whatever the fire before. -/
theorem running_newFire (h : Running s) (o : Option Fire) {f : Fire} (hf : f.dwell.isSome = true) :
    Running (setFire (setOutput (setFire s o) true) (some f)) := by
  have e : setFire (setOutput (setFire s o) true) (some f) =
    s.setDivert { s.divert with output := true, fire := some f } := rfl
  rw [e]
  exact running_setDivert h fun _ => ⟨f, rfl, hf⟩

theorem running_newFire' (h : Running s) {f : Fire} (hf : f.dwell.isSome = true) :
    Running (setFire (setOutput s true) (some f)) := running_newFire h s.divert.fire hf

theorem running_fireClaim (h : Running s) (c : Claim) : Running (fireClaim s c) := by
  unfold fireClaim
  refine running_modifyClaim ?_ _ (fun d => { d with state := .firing }) (fun _ => rfl)
  unfold closeEarlierFire
  split
  · rename_i f hf
    split
    · exact running_newFire (running_closeMissed h hf) none rfl
    · exact running_newFire h none rfl
  · exact running_newFire' h rfl

theorem running_fireReached (h : Running s) (r : Nat → Bool) : Running (fireReached s r) := by
  unfold fireReached
  split
  · split
    · exact running_fireClaim h _
    · exact h
  · exact h

/-! ### Withdrawal and faults -/

theorem running_moveTo (h : Running s) {st : Participation} (hs : st ≠ .start) : Running (moveTo s st) := by
  unfold moveTo
  split
  · exact h
  · exact running_offerNotice (running_setPart h hs) _

theorem running_enterListening (h : Running s) : Running (enterListening s) := by
  have h1 : Running (moveTo s .listening) := running_moveTo h (by decide)
  exact running_offerJoin (running_setPart h1 h1.started)

theorem running_orderlyWithdraw (h : Running s) (r : Nat) : Running (orderlyWithdraw s r) := by
  unfold orderlyWithdraw
  split
  · exact running_offerWithdraw h r
  · exact running_withdrawAnnounces (running_withdrawClaims (running_offerWithdraw (running_moveTo h (by decide)) r)) _

theorem running_stopDivert (h : Running s) : Running (stopDivert s) := by
  unfold stopDivert
  dsimp only
  split
  · split
    · exact running_offerNotice (running_reportPlace (running_outputOff h none) _ _) _
    · exact running_outputOff h none
  · exact running_setOutput_false h

theorem running_emptyView (h : Running s) : Running (emptyView s) := running_setView h (List.length_map _)

theorem running_immediateWithdraw (h : Running s) (code : Nat) : Running (immediateWithdraw s code) :=
  running_withdrawAnnounces (running_emptyView (running_faultClaims (running_stopDivert
    (running_offerWithdraw (running_moveTo h (by decide)) code)))) _

theorem running_raiseImmediate (h : Running s) (f : FaultId) : Running (raiseImmediate s f) :=
  running_immediateWithdraw (running_recordFault h f 0) _

theorem running_raiseSlip (h : Running s) (c : SlipCause) : Running (raiseSlip s c) := by
  have h1 : Running (s.setPart { s.part with slipCause := some c }) :=
    running_setPart h (x := { s.part with slipCause := some c }) h.started
  have h2 := running_recordFault h1 .indexSlip c.code
  exact running_immediateWithdraw h2 FaultId.indexSlip.code

theorem running_raiseCfgMismatch (h : Running s) : Running (raiseCfgMismatch s) :=
  running_orderlyWithdraw (running_recordFault h _ _) _

theorem running_watchdogViolation (h : Running s) : Running (watchdogViolation s) := by
  have h2 := running_recordFault (running_setPart h (x := { s.part with watchdog := .stopped, watchdogTimer := 0 })
    h.started) .watchdog 0
  unfold watchdogViolation
  dsimp only
  split
  · exact running_orderlyWithdraw h2 _
  · exact h2

theorem running_raisePlaceNotReady (h : Running s) (p : PlaceId) : Running (raisePlaceNotReady s p) := by
  have h1 := running_recordFault h (.placeNotReady p) p.val
  unfold raisePlaceNotReady
  dsimp only
  split
  · exact running_suspendPlace h1 p
  · exact running_orderlyWithdraw (running_foldl _ (fun _ _ h => running_suspendPlace h _) _ h1) _

theorem running_startWatch (h : Running s) (p : PlaceId) : Running (startWatch s p) := by
  unfold startWatch
  split
  · exact running_setWatch h _ _
  · exact running_raisePlaceNotReady h p
  · exact running_raisePlaceNotReady h p
  · exact h
  · exact h

theorem running_resumePlace (h : Running s) (p : PlaceId) : Running (resumePlace s p) := by
  unfold resumePlace
  split
  · rename_i hp
    exact running_markSearch (running_startWatch (running_promoteRecords
      (running_setPlace_build h p (Or.inr hp) (Or.inl rfl)) _ _) p)
  · exact h

theorem running_resumeAll (h : Running s) : Running (resumeAll s) :=
  running_foldl _ (fun _ _ h => running_resumePlace h _) _ h

end Sys2Proof.Laws
end

