-- ==== Sys2Proof/Laws/Belt.lean ====
section
/-! SUPPORT. The operations of Machine/Gate.lean, Machine/Divert.lean and Machine/Loop.lean: a running part stays within its laws. -/

namespace Sys2Proof.Laws

open Sys2Proof.Machine Sys2Proof.Safety

variable {s : State}

/-! ### The gate -/

theorem running_setGateDeglitch (h : Running s) (d : GateDeglitch) : Running (setGateDeglitch s d) :=
  running_setGate h h.gate

theorem running_setEdges (h : Running s) {es : List PendingEdge} (hl : es.length ≤ Config.edgeCapacity) :
    Running (setEdges s es) := running_setGate h ⟨hl, h.gate.2⟩

theorem running_acceptEdge (h : Running s) (c : Nat) : Running (acceptEdge s c) := by
  unfold acceptEdge
  dsimp only
  split
  · rename_i hl
    refine running_setEdges h ?_
    simp only [List.length_append, List.length_cons, List.length_nil]; omega
  · refine running_reportPlain (running_setEdges h ?_) _
    have := h.gate.1
    simp only [List.length_append, List.length_cons, List.length_nil, List.length_drop, Config.edgeCapacity] at *; omega

theorem running_ageEdges (h : Running s) : Running (ageEdges s) := by
  refine running_reportTimes (running_setEdges h ?_) _ _
  have := h.gate.1
  exact (List.length_filter_le _ _).trans (by rw [List.length_map]; exact this)

theorem running_gateDeglitchPulse (h : Running s) : Running (gateDeglitchPulse s) := by
  unfold gateDeglitchPulse
  split
  · split
    · dsimp only
      split
      · exact running_acceptEdge (running_setGateDeglitch h _) _
      · exact running_setGateDeglitch h _
    · exact running_setGateDeglitch h _
  · split <;> exact running_setGateDeglitch h _
  · exact h
  · exact h

theorem running_gatePulse (h : Running s) : Running (gatePulse s) := running_gateDeglitchPulse (running_ageEdges h)

theorem running_lapEdges (h : Running s) (k : Nat) : Running (lapEdges s k) :=
  running_setEdges h (by rw [List.length_map]; exact h.gate.1)

theorem running_resolveEdge (h : Running s) (e : PendingEdge) (c : CaseId) : Running (resolveEdge s e c) := by
  unfold resolveEdge
  split
  · exact running_offerFrame h _
  · exact h

theorem running_takeReport (h : Running s) (chars : List ScanChar) : Running (takeReport s chars) := by
  unfold takeReport
  split
  · exact running_reportPlain h _
  · rename_i e rest he
    have hl : rest.length ≤ Config.edgeCapacity := by
      have := h.gate.1
      rw [he, List.length_cons] at this; omega
    split
    · exact running_resolveEdge (running_setEdges h hl) _ _
    · exact running_reportPlain (running_setEdges h hl) _

theorem running_takeCharacter (h : Running s) (c : ScanChar) : Running (takeCharacter s c) := by
  unfold takeCharacter
  dsimp only
  split
  · rename_i hl
    exact running_setGate h (x := { s.gate with report := s.gate.report ++ [c], gap := 0 }) ⟨h.gate.1, hl⟩
  · exact running_takeReport (running_setGate h (x := { s.gate with report := [], gap := 0 })
      ⟨h.gate.1, Nat.succ_pos _⟩) _

theorem running_endReport (h : Running s) : Running (endReport s) :=
  running_takeReport (running_setGate h (x := { s.gate with report := [], gap := 0 }) ⟨h.gate.1, Nat.succ_pos _⟩) _

theorem running_gateRise (h : Running s) : Running (gateRise s) := by
  have h1 := running_setPins h { s.pins with gateEye := true }
  unfold gateRise
  dsimp only
  split
  · split
    · exact running_setGateDeglitch h1 _
    · exact running_setGateDeglitch h1 _
    · exact h1
    · exact h1
  · exact h1

theorem running_gateFall (h : Running s) : Running (gateFall s) := by
  have h1 := running_setPins h { s.pins with gateEye := false }
  unfold gateFall
  dsimp only
  split
  · split
    · exact running_setGateDeglitch h1 _
    · exact running_setGateDeglitch h1 _
    · exact h1
    · exact h1
  · exact h1

/-! ### The divert -/

theorem running_setConfirm (h : Running s) (d : ConfirmDeglitch) : Running (setConfirm s d) :=
  running_setDivert h h.output

theorem running_fireCountsPulse (h : Running s) : Running (fireCountsPulse s) := by
  unfold fireCountsPulse
  split
  · rename_i f hf
    exact running_setFire_keep h hf (by simp)
  · exact h

theorem running_judgeConfirm (h : Running s) : Running (judgeConfirm s) := by
  unfold judgeConfirm
  split
  · rename_i f hf
    split
    · exact running_confirmTaken h hf
    · exact running_reportPlain h _
  · exact running_reportPlain h _

theorem running_confirmPulse (h : Running s) : Running (confirmPulse s) := by
  unfold confirmPulse
  split
  · split
    · exact running_judgeConfirm (running_setConfirm h _)
    · exact running_setConfirm h _
  · split <;> exact running_setConfirm h _
  · exact h
  · exact h

theorem running_endDwell (h : Running s) : Running (endDwell s) := by
  unfold endDwell
  split
  · split
    · split
      · exact running_outputOff h _
      · exact h
    · exact h
  · exact h

theorem running_endWindow (h : Running s) : Running (endWindow s) := by
  unfold endWindow
  split
  · rename_i f hf
    split
    · split
      · exact running_closeMissed h hf
      · exact h
    · exact h
  · exact h

theorem running_divertPulse (h : Running s) : Running (divertPulse s) :=
  running_discardFire (running_endWindow (running_endDwell (running_confirmPulse (running_fireCountsPulse h))))

theorem running_confirmRise (h : Running s) : Running (confirmRise s) := by
  have h1 := running_setPins h { s.pins with confirmEye := true }
  have h2 := running_setDivert h1 (x := { s.divert with jamTimer := some 0 }) h.output
  unfold confirmRise
  dsimp only
  split
  · split
    · exact running_setConfirm h2 _
    · exact running_setConfirm h2 _
    · exact h2
    · exact h2
  · exact h1

theorem running_endJam (h : Running s) : Running (endJam s) := by
  unfold endJam
  split
  · exact running_endCondition (running_setDivert h (x := { s.divert with jam := false }) h.output) _
  · exact h

theorem running_confirmFall (h : Running s) : Running (confirmFall s) := by
  have h1 := running_setPins h { s.pins with confirmEye := false }
  have h2 := running_endJam (running_setDivert h1 (x := { s.divert with jamTimer := none }) h.output)
  unfold confirmFall
  dsimp only
  split
  · split
    · exact running_setConfirm h2 _
    · exact running_setConfirm h2 _
    · exact h2
    · exact h2
  · exact h1

/-! ### The loop -/

theorem running_noteTravel (h : Running s) : Running (noteTravel s) := by
  have h1 := running_setLoop h (x := { s.loop with running := true, stopTimer := some 0 }) h.loop
  unfold noteTravel
  dsimp only
  split
  · exact h1
  · exact running_offerNotice h1 _

theorem running_inductionPassage (h : Running s) (k : Nat) : Running (inductionPassage s k) :=
  running_withdrawAnnounces (running_lapEdges (running_setView h (List.length_set ..)) k) _

theorem running_countPulse (h : Running s) : Running (countPulse s) :=
  running_setLoop h ⟨Nat.mod_lt _ h.loopPos, Nat.succ_pos _⟩

theorem running_checkMissing (h : Running s) : Running (checkMissing s) := by
  unfold checkMissing
  split
  · exact running_raiseSlip (running_setLoop h (x := { s.loop with markAwaited := false }) h.loop) _
  · exact h

theorem running_reachPosition (h : Running s) : Running (reachPosition s) := by
  have h1 := running_divertPulse (running_gatePulse h)
  unfold reachPosition
  dsimp only
  refine running_fireReached ?_ _
  split
  · exact running_testClaims h1
  · exact h1

theorem running_passSlot (h : Running s) : Running (passSlot s) := by
  unfold passSlot
  split
  · exact running_inductionPassage h _
  · exact h

theorem running_sampleBoundary (h : Running s) : Running (sampleBoundary s) := by
  unfold sampleBoundary
  split
  · exact running_sampleOccupancy h
  · exact h

theorem running_forwardPulse (h : Running s) : Running (forwardPulse s) := by
  unfold forwardPulse
  split
  · exact running_sampleBoundary (running_runSearch (running_passSlot (running_reachPosition (running_checkMissing
      (running_countPulse (running_noteTravel h))))))
  · exact h

theorem running_reversePulse (h : Running s) : Running (reversePulse s) := by
  unfold reversePulse
  split
  · have h1 := running_noteTravel h
    dsimp only
    split
    · rename_i hn
      exact running_setLoop h1 (x := { (noteTravel s).loop with reverseTally := _ }) ⟨h1.loop.1, hn⟩
    · exact running_runSearch (running_raiseImmediate (running_setLoop h1
        (x := { (noteTravel s).loop with reverseTally := 0 }) ⟨h1.loop.1, Nat.succ_pos _⟩) _)
  · exact h

theorem running_realign (h : Running s) : Running (realign s) :=
  running_setLoop h (x := { s.loop with counter := 0, markAwaited := false }) ⟨h.loopPos, h.loop.2⟩

theorem running_acceptMark (h : Running s) : Running (acceptMark s) := by
  unfold acceptMark
  split
  · have h1 := running_setPart h (x := { s.part with listeningMarks := s.part.listeningMarks + 1 }) h.started
    dsimp only
    split
    · exact running_markSearch (running_moveTo h1 (by decide))
    · exact h1
  · exact h

theorem running_firstAlignment (h : Running s) : Running (firstAlignment s) :=
  running_acceptMark (running_setLoop h (x := { s.loop with counter := 0, aligned := true, markAwaited := false })
    ⟨h.loopPos, h.loop.2⟩)

theorem running_sweepPosition (h : Running s) : Running (sweepPosition s) :=
  running_testClaims (running_setLoop h (x := { s.loop with counter := (s.loop.counter + 1) % s.loopLen })
    ⟨Nat.mod_lt _ h.loopPos, h.loop.2⟩)

theorem running_forwardRealignment (h : Running s) : Running (forwardRealignment s) :=
  running_inductionPassage (running_realign (running_foldl _ (fun _ _ h => running_sweepPosition h) _
    (running_fireReached h _))) 0

theorem running_backwardRealignment (h : Running s) : Running (backwardRealignment s) :=
  running_testClaims (running_realign h)

theorem running_slip (h : Running s) : Running (slip s) := running_realign (running_raiseSlip h _)

theorem running_sampleRealignment (h : Running s) : Running (sampleRealignment s) := by
  unfold sampleRealignment
  split
  · exact running_sampleOccupancy h
  · exact h

theorem running_indexMark (h : Running s) : Running (indexMark s) := by
  unfold indexMark
  split
  · split
    · exact running_runSearch (running_firstAlignment h)
    · split
      · split
        · exact running_sampleRealignment (running_runSearch (running_acceptMark (running_forwardRealignment h)))
        · exact h
      · split
        · split
          · exact running_runSearch (running_acceptMark (running_backwardRealignment h))
          · exact h
        · exact running_runSearch (running_slip h)
  · exact h

end Sys2Proof.Laws
end

