-- ==== Sys2Proof/Laws/Line.lean ====
section
/-! SUPPORT. The operations of Machine/HallLine.lean and Machine/Handling.lean: a running part stays within its laws. -/

namespace Sys2Proof.Laws

open Sys2Proof.Machine Sys2Proof.Safety

variable {s : State}

/-! ### Attempts and sends -/

theorem running_setLineState (h : Running s) (st : LineState) (n : Nat) : Running (setLineState s st n) :=
  running_setLine h h.line

theorem running_timeLevels (h : Running s) (levels : List Bool) : Running (timeLevels s levels) :=
  running_setLine h ⟨h.line.1, h.line.2.1, timedBy_le levels h.line.2.2⟩

theorem running_startBit (h : Running s) : Running (startBit s) := by
  unfold startBit
  split
  · exact running_timeLevels (running_setLineState h _ _) _
  · exact running_timeLevels (running_setLineState h _ _) _
  · exact running_timeLevels h _
  · exact h

theorem running_lineBecomesFree (h : Running s) : Running (lineBecomesFree s) := by
  unfold lineBecomesFree
  split
  · exact running_timeLevels (running_setLineState h _ _) _
  · exact h

theorem running_setAttempt (h : Running s) (a : Option Attempt) : Running (setAttempt s a) := running_setLine h h.line

theorem running_beginAttempt (h : Running s) (t : TxFrame) : Running (beginAttempt s t) :=
  running_setAttempt (running_timeLevels (running_setLineState (running_setTx h _) _ _) _) _

theorem running_sendAttempt (h : Running s) : Running (sendAttempt s) := by
  unfold sendAttempt
  split
  · split
    · exact running_beginAttempt h _
    · exact h
  · exact h

theorem running_modifyInAttempt (h : Running s) (f : TxFrame → TxFrame) : Running (modifyInAttempt s f) :=
  running_setTx h _

theorem running_removeInAttempt (h : Running s) : Running (removeInAttempt s) := running_setTx h _

theorem running_claimBeginsSend (h : Running s) (t : TxFrame) : Running (claimBeginsSend s t) := by
  unfold claimBeginsSend
  split
  · split
    · exact running_addOrphan h _
    · exact running_modifyClaim h _ _ (fun _ => rfl)
  · exact h

theorem running_beginSend (h : Running s) (t : TxFrame) : Running (beginSend s t) := by
  unfold beginSend
  split
  · exact running_report (running_setLine h (x := { s.line with repeatCount := s.line.repeatCount + 1 }) h.line) _ _ _
  · have h1 := running_modifyInAttempt h (fun x => { x with sending := true, withdrawAsked := false })
    exact running_claimBeginsSend (running_setLine h1 (x := { (modifyInAttempt s (fun x =>
      { x with sending := true, withdrawAsked := false })).line with repeatCount := 1 }) h1.line) t

theorem running_tellWithdrawn (h : Running s) (t : TxFrame) : Running (tellWithdrawn s t) := by
  unfold tellWithdrawn
  split
  · exact running_reportPlain h _
  · split
    · exact h
    · split
      · exact running_cancelTest (running_leaveWithEnd h _ _) _
      · exact h
  · exact h

theorem running_loseAttempt (h : Running s) (t : TxFrame) : Running (loseAttempt s t) := by
  unfold loseAttempt
  split
  · exact running_tellWithdrawn (running_removeInAttempt h) t
  · exact running_modifyInAttempt h _

theorem running_arbitrationEnd (h : Running s) (read : List Byte) : Running (arbitrationEnd s read) := by
  unfold arbitrationEnd
  split
  · split
    · exact h
    · have h1 := running_timeLevels h
      dsimp only
      split
      · exact running_runSearch (running_loseAttempt (running_setAttempt (h1 _) none) _)
      · exact running_setAttempt (running_beginSend (h1 _) _) _
  · exact h

/-! ### Frames received -/

theorem running_setAnswer (h : Running s) (a : EndSlotAnswer) : Running (setAnswer s a) := running_setLine h h.line

theorem running_judgeOwn (h : Running s) (a : Attempt) (b : Bool) : Running (judgeOwn s a b) := by
  unfold judgeOwn
  dsimp only
  split
  · exact running_report (running_setAttempt h _) _ _ _
  · exact running_setAttempt h _

theorem running_countCheckError (h : Running s) : Running (countCheckError s) := by
  unfold countCheckError
  dsimp only
  split
  · rename_i hn
    exact running_setLine h (x := { s.line with checkErrors := s.line.checkErrors + 1 }) ⟨h.line.1, hn, h.line.2.2⟩
  · exact running_raiseImmediate (running_setLine h (x := { s.line with checkErrors := 0 })
      ⟨h.line.1, Nat.succ_pos _, h.line.2.2⟩) _

theorem running_receiveBroken (h : Running s) : Running (receiveBroken s) :=
  running_countCheckError (running_reportPlain (running_setAnswer (running_setLineState h _ _) _) _)

theorem running_receiveWhole (h : Running s) (f : Frame) : Running (receiveWhole s f) := by
  have h1 := running_setLineState h .carrying 0
  have h2 := running_setLine h1 (x := { (setLineState s .carrying 0).line with checkErrors := 0 })
    ⟨h1.line.1, Nat.succ_pos _, h1.line.2.2⟩
  unfold receiveWhole
  dsimp only
  split
  · rename_i hl
    refine running_setAnswer (running_setLine h2
      (x := { s.line with state := .carrying, recessiveRun := 0, checkErrors := 0, rx := s.line.rx ++ [⟨f, false⟩] })
      ⟨?_, h2.line.2.1, h2.line.2.2⟩) _
    show (s.line.rx ++ [(⟨f, false⟩ : RxFrame)]).length ≤ Config.rxCapacity
    simp only [List.length_append, List.length_cons, List.length_nil]; omega
  · exact running_reportSender (running_setAnswer h2 _) _ _

theorem running_receiveHeard (h : Running s) (bytes : List Byte) (e : Bool) : Running (receiveHeard s bytes e) := by
  unfold receiveHeard
  split
  · exact running_receiveWhole h _
  · exact running_receiveBroken h

theorem running_frameReceived (h : Running s) (bytes : List Byte) (e : Bool) : Running (frameReceived s bytes e) := by
  unfold frameReceived
  split
  · exact h
  · exact h
  all_goals
    split
    · split
      · exact running_judgeOwn (running_timeLevels h _) _ _
      · exact h
    · split
      · exact running_runSearch (running_receiveHeard (running_timeLevels h _) _ _)
      · exact h

/-! ### The end of a frame -/

theorem running_countSent (h : Running s) (f : OutFrame) : Running (countSent s f) := by
  unfold countSent
  split
  · exact running_reportPlain h _
  · exact running_reportPlace h _ _
  · exact running_reportPlain h _
  all_goals exact h

theorem running_freeFramePlace (h : Running s) (f : OutFrame) : Running (freeFramePlace s f) := by
  unfold freeFramePlace
  split
  · exact running_markSearch h
  · exact h

theorem running_retireFrame (h : Running s) : Running (retireFrame s) :=
  running_setLine (running_removeInAttempt h) h.line

theorem running_completeSend (h : Running s) (t : TxFrame) (f : Frame) : Running (completeSend s t f) :=
  running_freeFramePlace (running_enterOwnFrame (running_countSent (running_retireFrame h) _) f) _

theorem running_abandonSend (h : Running s) (t : TxFrame) (f : Frame) : Running (abandonSend s t f) :=
  running_freeFramePlace (running_enterOwnFrame (running_countSent
    (running_recordFault (running_retireFrame h) .frameAbandoned 0) _) f) _

theorem running_sendOutcome (h : Running s) (t : TxFrame) (f : Frame) (r : Bool) : Running (sendOutcome s t f r) := by
  unfold sendOutcome
  split
  · split
    · exact running_abandonSend h t f
    · exact running_modifyInAttempt h _
  · exact running_completeSend h t f

theorem running_afterFrame (h : Running s) : Running (afterFrame s) := running_setLine h h.line

theorem running_judged (h : Running s) (a : Attempt) : Running (judged s a) := by
  unfold judged
  split
  · exact running_judgeOwn h _ _
  · exact h

theorem running_endOwnSend (h : Running s) (a : Attempt) (r : Bool) : Running (endOwnSend s a r) := by
  have h1 := running_judged h a
  unfold endOwnSend
  dsimp only
  split
  · exact running_runSearch (running_afterFrame (running_sendOutcome h1 _ _ _))
  · exact running_afterFrame h1

theorem running_frameEnd (h : Running s) (a r : Bool) : Running (frameEnd s a r) := by
  have h1 := running_timeLevels h [!a, !r]
  unfold frameEnd
  dsimp only
  split
  · exact h
  · exact h
  · exact h
  · split
    · split
      · exact running_endOwnSend h1 _ _
      · exact h
    · exact running_afterFrame h1

theorem running_enterHeld (h : Running s) : Running (enterHeld s) := by
  unfold enterHeld
  split
  · split
    · rename_i f _ hl
      refine running_setLine h ⟨?_, h.line.2.1, h.line.2.2⟩
      show (s.line.rx ++ [(⟨f, true⟩ : RxFrame)]).length ≤ Config.rxCapacity
      simp only [List.length_append, List.length_cons, List.length_nil]; omega
    · exact h
  · exact h

/-! ### The stuck line -/

theorem running_settleHeard (h : Running s) : Running (settleHeard s) := by
  unfold settleHeard
  split
  · exact running_receiveBroken h
  · exact h

theorem running_settleFrame (h : Running s) : Running (settleFrame s) := by
  unfold settleFrame
  split
  · exact h
  · exact h
  all_goals
    split
    · split
      · dsimp only
        refine running_afterFrame (running_sendOutcome ?_ _ _ _)
        split
        · exact running_judgeOwn h _ _
        · exact h
      · exact running_afterFrame (running_settleHeard (running_loseAttempt (running_setAttempt h none) _))
    · exact running_afterFrame (running_settleHeard h)

theorem running_stickLine (h : Running s) : Running (stickLine s) := by
  have h1 := running_settleFrame h
  refine running_recordFault (running_setLine h1 (x := { (settleFrame s).line with
    recessiveRun := 0, stuck := true, stuckTimer := some Config.stuckLimit })
    ⟨h1.line.1, h1.line.2.1, fun n hn => ?_⟩) .lineStuck 0
  injection hn with hn
  exact hn ▸ Nat.le_refl _

theorem running_lineStuckEnd (h : Running s) : Running (lineStuckEnd s) := by
  unfold lineStuckEnd
  split
  · exact running_endCondition (running_setLine h
      (x := { s.line with state := .seeking, recessiveRun := 1, stuck := false, stuckTimer := none })
      ⟨h.line.1, h.line.2.1, fun _ hn => nomatch hn⟩) _
  · exact h

/-! ### Handling -/

theorem running_updateRoster (h : Running s) (f : Frame) : Running (updateRoster s f) :=
  running_setPart h h.started

theorem running_applyJoin (h : Running s) (b : RosterEntry) (d : Nat) : Running (applyJoin s b d) := by
  unfold applyJoin
  split
  · exact h
  · split
    · exact running_raiseCfgMismatch h
    · split
      · exact h
      · split
        · exact h
        · exact running_offerReplyJoin h

theorem running_setViewEntry (h : Running s) (k : Nat) (e : ViewEntry) : Running (setViewEntry s k e) :=
  running_setView h (List.length_set ..)

theorem running_lossCause (h : Running s) (k : Nat) : Running (lossCause s k) := running_endAndTest h k _

theorem running_othersTaken (h : Running s) (k : Nat) : Running (othersTaken s k) := by
  unfold othersTaken
  split
  · exact h
  · split
    · exact running_lossCause h k
    · exact running_lossCause h k
    · exact running_cancelTest (running_leaveWithEnd h _ _) _
    · exact h
    · exact h

theorem running_disputeClaim (h : Running s) (k : Nat) : Running (disputeClaim s k) := by
  unfold disputeClaim
  split
  · exact h
  · split
    · exact running_lossCause h k
    · exact running_lossCause h k
    · exact running_cancelTest (running_leaveClaim h _) _
    · exact running_modifyClaim h k _ (fun _ => rfl)
    · exact running_modifyClaim h k _ (fun _ => rfl)

theorem running_orphanHandled (h : Running s) (k : Nat) (b : ViewEntry) : Running (orphanHandled s k b) := by
  have h1 := running_setContest h (x := { s.contest with orphans := s.contest.orphans.erase k }) h.tables
  unfold orphanHandled
  dsimp only
  split
  · exact running_offerFrame h1 _
  · exact running_offerFrame h1 _
  · exact h1
  · exact h1

theorem running_loseClaim (h : Running s) (c : Claim) : Running (loseClaim s c) := by
  unfold loseClaim
  split <;> exact running_leaveWithEnd h _ _

theorem running_winAndRelease (h : Running s) (c : Claim) (r : ReleaseReason) : Running (winAndRelease s c r) :=
  running_offerFrame (running_leaveClaim (running_reportPlace h _ _) c) _

theorem running_armClaim (h : Running s) (c : Claim) : Running (armClaim s c) :=
  running_modifyClaim (running_reportPlace h _ _) _ _ (fun _ => rfl)

theorem running_winClaim (h : Running s) (c : Claim) (b : ViewEntry) : Running (winClaim s c b) := by
  unfold winClaim
  split
  · split
    · exact running_leaveWithEnd h _ _
    all_goals exact running_offerFrame (running_leaveWithEnd h _ _) _
  · exact running_winAndRelease h _ _
  · exact running_winAndRelease h _ _
  · exact running_winAndRelease h _ _
  · split
    · exact running_winAndRelease h _ _
    · exact running_armClaim h _

theorem running_winDecision (h : Running s) (c : Claim) (b : ViewEntry) : Running (winDecision s c b) := by
  have key : ∀ lost : Bool, Running (cancelTest (if lost then loseClaim s c else winClaim s c b) c.target.place) := by
    intro lost
    cases lost
    · exact running_cancelTest (running_winClaim h c b) _
    · exact running_cancelTest (running_loseClaim h c) _
  exact key _

theorem running_ownClaimHandled (h : Running s) (k : Nat) (b : ViewEntry) : Running (ownClaimHandled s k b) := by
  unfold ownClaimHandled
  split
  · exact running_orphanHandled h k b
  · split
    · split
      · exact running_winDecision h _ _
      · exact h
    · exact h

theorem running_retestAnnounces (h : Running s) (k : Nat) (b : ViewEntry) : Running (retestAnnounces s k b) := by
  unfold retestAnnounces
  split
  · exact h
  · exact running_withdrawAnnounces h _

theorem running_markIfFreed (h : Running s) (k : Nat) (b : ViewEntry) : Running (markIfFreed s k b) := by
  unfold markIfFreed
  split
  · exact running_markSearch h
  · exact h

theorem running_applyAnnounce (h : Running s) (k : Nat) (i : Station) (c : CaseId) :
    Running (applyAnnounce s k i c) := by
  have h1 := running_setViewEntry h k (viewAnnounce (s.viewAt k) c i)
  unfold applyAnnounce
  dsimp only
  refine running_retestAnnounces (running_markIfFreed ?_ k _) k _
  split
  · exact running_disputeClaim h1 k
  · exact h1

theorem running_applyClaim (h : Running s) (own : Bool) (k : Nat) (i : Station) (p : PlaceId) :
    Running (applyClaim s own k i p) := by
  have h1 := running_setViewEntry h k (viewClaim (s.viewAt k) i p)
  unfold applyClaim
  dsimp only
  refine running_retestAnnounces ?_ k _
  split
  · exact running_ownClaimHandled h1 k _
  · split
    · split
      · exact running_lossCause h1 k
      · exact h1
    · exact h1

theorem running_applyRelease (h : Running s) (k : Nat) (i : Station) : Running (applyRelease s k i) :=
  running_retestAnnounces (running_markIfFreed (running_setViewEntry h k _) k _) k _

theorem running_applyTaken (h : Running s) (own : Bool) (k : Nat) : Running (applyTaken s own k) := by
  have h1 := running_setViewEntry h k (viewTaken (s.viewAt k))
  unfold applyTaken
  dsimp only
  refine running_retestAnnounces ?_ k _
  split
  · exact h1
  · exact running_othersTaken h1 k

theorem running_applyFrame (h : Running s) (own : Bool) (f : Frame) : Running (applyFrame s own f) := by
  unfold applyFrame
  split
  · exact running_applyTaken h own _
  · exact running_applyRelease h _ _
  · exact running_applyRelease h _ _
  · exact running_applyClaim h own _ _ _
  · split
    · exact running_applyAnnounce h _ _ _
    · exact h
  all_goals exact h

theorem running_reportAnnounce (h : Running s) (f : Frame) : Running (reportAnnounce s f) := by
  unfold reportAnnounce
  split
  · exact running_reportSender h _ _
  · exact h

theorem running_dispatchFrame (h : Running s) (own : Bool) (f : Frame) : Running (dispatchFrame s own f) := by
  have h1 := running_updateRoster (running_reportAnnounce h f) f
  unfold dispatchFrame
  dsimp only
  split
  · exact running_applyJoin h1 _ _
  · split
    · exact h1
    · exact running_applyFrame h1 own f

theorem running_handleFrame (h : Running s) (r : RxFrame) : Running (handleFrame s r) := by
  unfold handleFrame
  split
  · exact running_reportSender h _ _
  · split
    · exact running_reportSender h _ _
    · split
      · exact running_reportSender h _ _
      · split
        · exact h
        · exact running_dispatchFrame h _ _

theorem running_frameHandled (h : Running s) : Running (frameHandled s) := by
  unfold frameHandled
  split
  · rename_i r rest hr
    refine running_runSearch (running_handleFrame (running_enterHeld (running_setLine h
      (x := { s.line with rx := rest }) ⟨?_, h.line.2.1, h.line.2.2⟩)) r)
    have := h.line.1
    rw [hr, List.length_cons] at this
    exact Nat.le_of_succ_le this
  · exact h

end Sys2Proof.Laws
end

