-- ==== Sys2Proof/Laws/Commands.lean ====
section
/-! SUPPORT. The operations of Machine/Time.lean, Port.lean, Setup.lean, Plans.lean, Placement.lean, Reads.lean and Counters.lean: a running part stays within its laws, and GO makes an idle part run within them. -/

namespace Sys2Proof.Laws

open Sys2Proof.Machine Sys2Proof.Safety

variable {s : State}

/-! ### Time -/

theorem advance_le {bound ms n : Nat} (h : n ≤ bound) : advance bound ms n ≤ bound :=
  Nat.max_le.2 ⟨h, Nat.min_le_right _ _⟩

/-- R57: the stuck timer stays at most 2 ms as time passes. -/
theorem lineLaw_elapse {l : HallLine} (h : lineLaw l) (ms : Nat) :
    lineLaw { l with stuckTimer := l.stuckTimer.map (advance Config.stuckLimit ms) } :=
  ⟨h.1, h.2.1, fun n hn => by
    obtain ⟨m, hm, rfl⟩ := Option.map_eq_some_iff.1 hn
    exact advance_le (h.2.2 m hm)⟩

theorem running_elapse (h : Running s) (ms : Nat) : Running (elapse s ms) := by
  have h1 := running_setLoop h (x := { s.loop with stopTimer := s.loop.stopTimer.map (advance s.timing.stopTime ms) })
    h.loop
  have h2 := running_setGate h1 (x := { s.gate with gap := advance Config.reportGap ms s.gate.gap }) h.gate
  unfold elapse
  dsimp only
  split
  · exact running_setPart (running_setLine (running_setDivert h1 (x := { s.divert with
      jamTimer := s.divert.jamTimer.map (advance s.timing.jamTime ms) }) h.output) (lineLaw_elapse h.line ms)) h.started
  · exact running_setPart (running_setLine (running_setDivert h2 (x := { s.divert with
      jamTimer := s.divert.jamTimer.map (advance s.timing.jamTime ms) }) h.output) (lineLaw_elapse h.line ms)) h.started

theorem running_stopLoop (h : Running s) : Running (stopLoop s) :=
  running_offerNotice (running_setLoop h (x := { s.loop with running := false, stopTimer := none }) h.loop) _

theorem running_jamDivert (h : Running s) : Running (jamDivert s) :=
  running_raiseImmediate (running_setDivert h (x := { s.divert with jamTimer := none, jam := true }) h.output) _

theorem running_endPlaceCondition (h : Running s) (p : PlaceId) : Running (endPlaceCondition s p) := by
  have h1 := fun w => running_setWatch (running_endCondition h (.placeNotReady p)) p w
  unfold endPlaceCondition
  dsimp only
  split
  · exact running_resumePlace (h1 _) p
  · exact h1 _

theorem running_placeTimerEnd (h : Running s) (p : PlaceId) : Running (placeTimerEnd s p) := by
  unfold placeTimerEnd
  split
  · exact running_raisePlaceNotReady (running_setWatch h _ _) p
  · exact running_endPlaceCondition h p
  all_goals exact h

theorem running_whenDue (h : Running s) (due : State → Bool) (f : State → State) (hf : ∀ s, Running s → Running (f s)) :
    Running (whenDue due f s) := by
  unfold whenDue
  split
  · exact running_runSearch (hf s h)
  · exact h

theorem running_tick (h : Running s) : Running (tick s) := by
  unfold tick
  refine running_whenDue (running_foldl _ (fun s p h => running_whenDue h _ _
    fun s h => running_placeTimerEnd h p) _ ?_) _ _ fun _ h => running_watchdogViolation h
  exact running_whenDue (running_whenDue (running_whenDue (running_whenDue (running_elapse h 1) _ _
    fun _ h => running_stopLoop h) _ _ fun _ h => running_endReport h) _ _ fun _ h => running_jamDivert h) _ _
    fun _ h => running_stickLine h

theorem running_loopStopped (h : Running s) : Running (loopStopped s) := by
  unfold loopStopped
  split
  · exact running_stopLoop (running_elapse h _)
  · exact h

theorem running_reportGapTimeout (h : Running s) : Running (reportGapTimeout s) := by
  unfold reportGapTimeout
  split
  · exact h
  · exact running_endReport (running_elapse h _)

theorem running_divertJam (h : Running s) : Running (divertJam s) := by
  unfold divertJam
  split
  · exact running_runSearch (running_jamDivert (running_elapse h _))
  · exact h

theorem running_lineStuck (h : Running s) : Running (lineStuck s) := by
  unfold lineStuck
  split
  · exact running_runSearch (running_stickLine (running_elapse h _))
  · exact h

theorem running_placeReadyTimer (h : Running s) (p : PlaceId) : Running (placeReadyTimer s p) := by
  unfold placeReadyTimer
  split
  · exact running_runSearch (running_placeTimerEnd (running_elapse h _) p)
  · exact h

theorem running_watchdogExpiry (h : Running s) : Running (watchdogExpiry s) := by
  unfold watchdogExpiry
  split
  · exact running_runSearch (running_watchdogViolation (running_elapse h _))
  · exact h

theorem running_placeReadyRise (h : Running s) (p : PlaceId) : Running (placeReadyRise s p) := by
  have h1 : Running (setPlaceReady s p true) := running_setPins h _
  unfold placeReadyRise
  dsimp only
  split
  · exact running_setWatch h1 _ _
  · exact running_setWatch h1 _ _
  all_goals exact h1

theorem running_placeReadyFall (h : Running s) (p : PlaceId) : Running (placeReadyFall s p) := by
  have h1 : Running (setPlaceReady s p false) := running_setPins h _
  unfold placeReadyFall
  dsimp only
  split
  · exact running_setWatch h1 _ _
  · exact running_setWatch h1 _ _
  all_goals exact h1

/-! ### Upkeep -/

theorem running_setWatchdog (h : Running s) (w : WatchdogState) : Running (setWatchdog s w) :=
  running_setPart h h.started

theorem running_keepalive (h : Running s) : Running (keepalive s) := by
  unfold keepalive
  split
  · split
    · exact running_setWatchdog h _
    · exact running_runSearch (running_watchdogViolation h)
  · exact h

theorem running_clearRecord (h : Running s) : Running (clearRecord s) :=
  running_foldl _ (fun _ _ h => running_setFault h _ _) _ h

theorem running_resumeCleared (h : Running s) (f : FaultId) : Running (resumeCleared s f) := by
  unfold resumeCleared
  split
  · exact running_resumePlace h _
  · exact h

theorem running_clearEffects (h : Running s) (l : List FaultId) : Running (clearEffects s l) := by
  unfold clearEffects
  split
  · split
    · exact running_foldl _ (fun _ _ h => running_resumeCleared h _) _ h
    · exact h
  · split
    · exact running_resumeAll h
    · exact h

theorem running_clearFaults (h : Running s) : Running (clearFaults s) :=
  running_runSearch (running_clearEffects (running_clearRecord h) _)

/-! ### Configuration and GO -/

/-- R181: a configuration command after GO changes the response alone. -/
theorem running_configure (h : Running s) (b : Bool) (c : Configuration) : Running (configure s b c) := by
  unfold configure
  rw [if_pos h.started]
  exact running_answer h _

/-- R183, check 2: with no station out of order, the own station has its divert on the loop, so the loop has a length. -/
theorem loopPos_of_noProblem (h : configProblem s = none) : 0 < s.loopLen := by
  unfold configProblem at h
  split at h
  · simp at h
  · rename_i ho
    split at h
    · simp at h
    · rename_i hf
      have ho' : s.ownPresent = true := by simpa using ho
      unfold State.ownPresent at ho'
      rw [Option.any_eq_true_iff_get] at ho'
      obtain ⟨_, ho'⟩ := ho'
      rw [List.find?_eq_none] at hf
      have all : ∀ i : Station, i ∈ allStations := by decide
      have hb := hf _ (all (s.config.own.get ‹_›).id)
      rw [Option.isSome_iff_exists] at ho'
      obtain ⟨p, hp⟩ := ho'
      unfold badOrder at hb
      rw [hp] at hb
      simp only [Option.any_some, Bool.not_eq_true', Bool.not_eq_false, Bool.and_eq_true, decide_eq_true_eq] at hb
      omega

/-- The blocks as GO starts them run within their laws, in any state but START. -/
theorem running_startBlocks (h : Idle s) (hl : 0 < s.loopLen) {x : FaultUnit} (hx : x.state ≠ .start) :
    Running ((startBlocks s).setPart x) := by
  refine ⟨hx, hl, h.lane, ⟨hl, Nat.succ_pos _⟩, ⟨Nat.zero_le _, Nat.succ_pos _⟩,
    ⟨Nat.zero_le _, Nat.succ_pos _, fun _ hn => nomatch hn⟩, List.length_replicate, ?_, ?_, ?_, ?_, ?_, h.counters⟩
  · show planLaw s.plans
    rw [h.plans]
    exact ⟨by decide, by decide, by decide, by decide⟩
  · show tableLaw s.slots s.stagingSize s.contest.claims s.staging.records
    rw [h.contest, h.staging]
    exact ⟨Nat.zero_le _, List.nodup_nil, by simp [ContestUnit.reset], Nat.zero_le _⟩
  · show arrivalLaw s.staging
    rw [h.staging]
    exact ⟨List.nodup_nil, by simp [StagingTable.reset], by decide⟩
  · intro ho
    exact absurd ho (by simp [startBlocks, DivertUnit.reset])
  · exact ⟨by show s.port.notices.length ≤ _; rw [h.notices]; exact Nat.zero_le _,
      by show s.port.attn = !s.port.notices.isEmpty; rw [h.notices, h.attn]; rfl⟩

/-- R160, R183: GO makes an idle part run. -/
theorem running_go (h : Idle s) (hl : 0 < s.loopLen) : Running (startStation (startBlocks s)) := by
  unfold startStation enterListening moveTo
  dsimp only
  rw [if_neg (by show ¬ s.part.state = .listening; rw [h.part]; decide)]
  have h1 := fun x hx => running_offerNotice (running_startBlocks h hl (x := x) hx) (.participation .listening)
  refine running_offerJoin (running_setPart ?_ ?_)
  · exact h1 { s.part with state := .listening, digest := some (hallDigest (startBlocks s)), watchdog := _, watchdogTimer := 0 }
      (by simp)
  · exact (h1 { s.part with state := .listening, digest := some (hallDigest (startBlocks s)), watchdog := _, watchdogTimer := 0 }
      (by simp)).started

/-! ### Plans -/

/-- R21: a place that is EMPTY becomes LOADING as the loader opens for it. -/
theorem planLaw_open (h : Running s) (p : PlaceId) {x : Place} (hl : s.plans.loader = none)
    (hp : (s.place p).state = .empty) (hx : x.state = .loading) (ht : x.currentTier = none) :
    planLaw { (setPlace s p x).plans with loader := some p } := by
  refine ⟨h.plans.once, fun q => ?_, fun q => ?_, fun q => ?_⟩
  · dsimp only
    rw [setPlace_get]
    show q ∈ s.plans.buildOrder ↔ _
    rw [h.plans.building q]
    split
    · rename_i e; subst e
      rw [show s.plans.places[p].state = PlaceState.empty from hp, hx]; simp
    · exact Iff.rfl
  · dsimp only
    rw [setPlace_get]
    split
    · rename_i e; subst e; simp [hx]
    · rename_i e
      have := h.plans.loading q
      rw [hl] at this
      simp only [Option.some.injEq, e, false_iff]
      exact fun x => absurd (this.2 x) (by simp)
  · dsimp only
    rw [setPlace_get]
    split
    · rw [ht]; simp
    · exact h.plans.tier q

theorem running_openPlan (h : Running s) (p : PlaceId) (r : BitVec 32) (n : Nat) (hl : s.plans.loader = none)
    (hp : (s.place p).state = .empty) : Running (openPlan s p r n) :=
  running_answer (running_setPlans h (planLaw_open h p (x := ⟨.loading, some r, some n, none, List.replicate Config.maxTiers []⟩)
    hl hp rfl rfl)) _

theorem running_openPlanChecked (h : Running s) (p : Nat) (r : BitVec 32) (n : Nat) :
    Running (openPlanChecked s p r n) := by
  unfold openPlanChecked
  split
  · exact running_answer h _
  · split
    · exact running_answer h _
    · split
      · exact running_answer h _
      · rename_i hl
        split
        · exact running_answer h _
        · rename_i hp
          exact running_openPlan h _ _ _ (by simpa using hl) (by simpa using hp)

theorem running_addLine (h : Running s) (p : PlaceId) (t : Nat) (c : CaseId) (q : Nat) : Running (addLine s p t c q) :=
  running_answer (running_setPlace h p (x := { s.place p with
    tiers := (s.place p).tiers.modify (t - 1) (· ++ [Line.mk c q 0 0 0]) }) rfl (h.plans.tier p)) _

theorem running_addLineChecked (h : Running s) (t a f q : Nat) : Running (addLineChecked s t a f q) := by
  unfold addLineChecked
  split
  · exact running_answer h _
  · split
    · exact running_answer h _
    · split
      · exact running_answer h _
      · split
        · exact running_answer h _
        · exact running_addLine h _ _ _ _

/-- The loader closes, and its place goes on to BUILDING, at the tail of the build order, or back to EMPTY. -/
theorem planLaw_close (h : planLaw s.plans) {p : PlaceId} (hl : s.plans.loader = some p) {x : Place} {order : List PlaceId}
    (ho : (x.state = .building ∧ order = s.plans.buildOrder ++ [p]) ∨
      (x.state = .empty ∧ x.currentTier = none ∧ order = s.plans.buildOrder)) :
    planLaw { (setPlace s p x).plans with buildOrder := order, loader := none } := by
  have hp : (s.place p).state = .loading := (h.loading p).1 hl
  have hn : p ∉ s.plans.buildOrder := by
    intro hm
    have := (h.building p).1 hm
    rw [show s.plans.places[p].state = PlaceState.loading from hp] at this
    simp at this
  refine ⟨?_, fun q => ?_, fun q => ?_, fun q => ?_⟩
  · rcases ho with ⟨_, rfl⟩ | ⟨_, _, rfl⟩
    · rw [List.nodup_append]
      refine ⟨h.once, by simp, ?_⟩
      intro a ha b hb
      rw [List.mem_singleton] at hb
      rintro rfl
      exact hn (hb ▸ ha)
    · exact h.once
  · dsimp only
    rw [setPlace_get]
    split
    · rename_i e; subst e
      rcases ho with ⟨hx, rfl⟩ | ⟨hx, _, rfl⟩
      · rw [hx]; simp
      · rw [hx]; simp [hn]
    · rename_i e
      rcases ho with ⟨_, rfl⟩ | ⟨_, _, rfl⟩
      · rw [List.mem_append, List.mem_singleton, h.building q]
        exact ⟨fun x => x.resolve_right (fun y => e y.symm), Or.inl⟩
      · exact h.building q
  · dsimp only
    rw [setPlace_get]
    split
    · rcases ho with ⟨hx, _⟩ | ⟨hx, _, _⟩ <;> rw [hx] <;> simp
    · rename_i e
      have := h.loading q
      rw [hl, Option.some.injEq] at this
      simp only [reduceCtorEq, false_iff]
      exact fun x => e (this.2 x)
  · dsimp only
    rw [setPlace_get]
    split
    · rcases ho with ⟨hx, _⟩ | ⟨_, hx, _⟩
      · exact fun _ => Or.inl hx
      · rw [hx]; simp
    · exact h.tier q

theorem running_commitPlan (h : Running s) {p : PlaceId} (hl : s.plans.loader = some p) : Running (commitPlan s p) := by
  have h1 := running_setPlans h (planLaw_close h.plans hl (x := { s.place p with state := .building, currentTier := some 1 })
    (Or.inl ⟨rfl, rfl⟩))
  unfold commitPlan
  exact running_answer (running_runSearch (running_markSearch (running_startWatch h1 p))) _

theorem running_commitPlanChecked (h : Running s) : Running (commitPlanChecked s) := by
  unfold commitPlanChecked
  split
  · exact running_answer h _
  · split
    · exact running_respond h _ _
    · exact running_commitPlan h ‹_›

theorem running_abandonPlanChecked (h : Running s) : Running (abandonPlanChecked s) := by
  unfold abandonPlanChecked
  split
  · exact running_answer h _
  · exact running_answer (running_setPlans h (planLaw_close h.plans ‹_› (x := Place.empty) (Or.inr ⟨rfl, rfl, rfl⟩))) _

theorem running_releasePalletChecked (h : Running s) (n : Nat) : Running (releasePalletChecked s n) := by
  unfold releasePalletChecked
  split
  · exact running_answer h _
  · split
    · rename_i p _ hp
      refine running_answer (running_setPlans h (planLaw_setPlace h.plans p ?_ ?_ ?_)) _
      · rw [hp]; simp [Place.empty]
      · rw [hp]; simp [Place.empty]
      · simp [Place.empty]
    · exact running_answer h _

theorem running_cancelPalletChecked (h : Running s) (n : Nat) : Running (cancelPalletChecked s n) := by
  unfold cancelPalletChecked
  split
  · exact running_answer h _
  · split
    · exact running_answer (running_runSearch (running_cancelPlace h _ (Or.inl ‹_›))) _
    · exact running_answer (running_runSearch (running_cancelPlace h _ (Or.inr ‹_›))) _
    all_goals exact running_answer h _

/-! ### Placement -/

theorem running_dropRecord (h : Running s) (a : Nat) : Running (dropRecord s a) := running_setRecords_filter h _

theorem running_placeRecord (h : Running s) (r : StagingRecord) : Running (placeRecord s r) := by
  unfold placeRecord
  split
  · exact running_markSearch (running_tierTest (running_modifyLine (running_dropRecord h _) _ _) _)
  · exact running_markSearch (running_dropRecord h _)

theorem running_placedChecked (h : Running s) (a : Nat) : Running (placedChecked s a) := by
  unfold placedChecked
  split
  · exact running_answer h _
  · split
    · exact running_answer (running_runSearch (running_placeRecord h _)) _
    · exact running_answer h _

theorem running_tallyRemoval (h : Running s) (d : Bool) : Running (tallyRemoval s d) := by
  unfold tallyRemoval
  split
  · exact running_setStaging h (x := { s.staging with damaged := _ }) h.tables
      ⟨h.arrivals.once, h.arrivals.fresh, h.arrivals.width⟩
  · exact running_setStaging h (x := { s.staging with returned := _ }) h.tables
      ⟨h.arrivals.once, h.arrivals.fresh, h.arrivals.width⟩

theorem running_removeRecord (h : Running s) (r : StagingRecord) (d : Bool) : Running (removeRecord s r d) := by
  unfold removeRecord
  dsimp only
  refine running_markSearch (running_tallyRemoval ?_ d)
  split
  · exact running_modifyLine (running_dropRecord h _) _ _
  · exact running_dropRecord h _

theorem running_removeCaseChecked (h : Running s) (a r : Nat) : Running (removeCaseChecked s a r) := by
  unfold removeCaseChecked
  split
  · exact running_answer h _
  · split
    · exact running_answer h _
    · exact running_answer (running_runSearch (running_removeRecord h _ _)) _

theorem running_acceptRecord (h : Running s) (r : StagingRecord) : Running (acceptRecord s r) := by
  have h1 : Running (setRecords s (s.staging.records.map (fun x =>
      if x.arrival = r.arrival then { x with state := acceptedState s r } else x))) := by
    refine running_setRecords_map h _ ?_
    intro x; split <;> rfl
  unfold acceptRecord
  dsimp only
  split
  · exact running_offerNotice h1 _
  · exact h1

theorem running_acceptSuspectChecked (h : Running s) (a : Nat) : Running (acceptSuspectChecked s a) := by
  unfold acceptSuspectChecked
  split
  · exact running_answer h _
  · split
    · exact running_answer (running_acceptRecord h _) _
    · exact running_answer h _

/-! ### Reads and counters -/

theorem running_showFaults (h : Running s) : Running (showFaults s) :=
  running_foldl _ (fun _ _ h => running_setFault h _ _) _ h

theorem running_readLine (h : Running s) (p t l : Nat) : Running (readLine s p t l) := by
  unfold readLine
  split
  · exact running_answer h _
  · split
    · exact running_answer h _
    · split
      · exact running_respond h _ _
      · exact running_answer h _

theorem running_readRecord (h : Running s) (i : Nat) : Running (readRecord s i) := by
  unfold readRecord
  split
  · exact running_respond h _ _
  · exact running_answer h _

theorem running_setCounterChecked (h : Running s) (c e k v : Nat) : Running (setCounterChecked s c e k v) := by
  unfold setCounterChecked
  split
  · split
    · exact running_answer h _
    · exact running_answer (running_setCounters h (counterLaw_set h.counters _ (Nat.zero_le _))) _
  · exact running_answer h _

end Sys2Proof.Laws
end

