-- ==== Sys2Proof/Laws/Frames.lean ====
section
/-! SUPPORT. What the shared operations leave unchanged: one frame lemma for each operation below the rows. -/

namespace Sys2Proof.Laws

open Sys2Proof.Machine

/-- A fold over an operation that keeps a part of the state keeps it. -/
theorem foldl_keeps {α β : Type} (g : State → β) {f : State → α → State} (h : ∀ s a, g (f s a) = g s) (l : List α)
    (s : State) : g (l.foldl f s) = g s := by
  induction l generalizing s with
  | nil => rfl
  | cons a l ih => rw [List.foldl_cons, ih, h]

@[simp] theorem foldl_config {α : Type} {f : State → α → State} (h : ∀ s a, (f s a).config = s.config) (l : List α)
    (s : State) : (l.foldl f s).config = s.config := foldl_keeps (fun s => s.config) h l s
@[simp] theorem foldl_pins {α : Type} {f : State → α → State} (h : ∀ s a, (f s a).pins = s.pins) (l : List α)
    (s : State) : (l.foldl f s).pins = s.pins := foldl_keeps (fun s => s.pins) h l s
@[simp] theorem foldl_loop {α : Type} {f : State → α → State} (h : ∀ s a, (f s a).loop = s.loop) (l : List α)
    (s : State) : (l.foldl f s).loop = s.loop := foldl_keeps (fun s => s.loop) h l s
@[simp] theorem foldl_gate {α : Type} {f : State → α → State} (h : ∀ s a, (f s a).gate = s.gate) (l : List α)
    (s : State) : (l.foldl f s).gate = s.gate := foldl_keeps (fun s => s.gate) h l s
@[simp] theorem foldl_line {α : Type} {f : State → α → State} (h : ∀ s a, (f s a).line = s.line) (l : List α)
    (s : State) : (l.foldl f s).line = s.line := foldl_keeps (fun s => s.line) h l s
@[simp] theorem foldl_line_state {α : Type} {f : State → α → State} (h : ∀ s a, (f s a).line.state = s.line.state) (l : List α)
    (s : State) : (l.foldl f s).line.state = s.line.state := foldl_keeps (fun s => s.line.state) h l s
@[simp] theorem foldl_line_rx {α : Type} {f : State → α → State} (h : ∀ s a, (f s a).line.rx = s.line.rx) (l : List α)
    (s : State) : (l.foldl f s).line.rx = s.line.rx := foldl_keeps (fun s => s.line.rx) h l s
@[simp] theorem foldl_line_attempt {α : Type} {f : State → α → State} (h : ∀ s a, (f s a).line.attempt = s.line.attempt) (l : List α)
    (s : State) : (l.foldl f s).line.attempt = s.line.attempt := foldl_keeps (fun s => s.line.attempt) h l s
@[simp] theorem foldl_view {α : Type} {f : State → α → State} (h : ∀ s a, (f s a).view = s.view) (l : List α)
    (s : State) : (l.foldl f s).view = s.view := foldl_keeps (fun s => s.view) h l s
@[simp] theorem foldl_plans {α : Type} {f : State → α → State} (h : ∀ s a, (f s a).plans = s.plans) (l : List α)
    (s : State) : (l.foldl f s).plans = s.plans := foldl_keeps (fun s => s.plans) h l s
@[simp] theorem foldl_contest {α : Type} {f : State → α → State} (h : ∀ s a, (f s a).contest = s.contest) (l : List α)
    (s : State) : (l.foldl f s).contest = s.contest := foldl_keeps (fun s => s.contest) h l s
@[simp] theorem foldl_divert {α : Type} {f : State → α → State} (h : ∀ s a, (f s a).divert = s.divert) (l : List α)
    (s : State) : (l.foldl f s).divert = s.divert := foldl_keeps (fun s => s.divert) h l s
@[simp] theorem foldl_staging {α : Type} {f : State → α → State} (h : ∀ s a, (f s a).staging = s.staging) (l : List α)
    (s : State) : (l.foldl f s).staging = s.staging := foldl_keeps (fun s => s.staging) h l s
@[simp] theorem foldl_part {α : Type} {f : State → α → State} (h : ∀ s a, (f s a).part = s.part) (l : List α)
    (s : State) : (l.foldl f s).part = s.part := foldl_keeps (fun s => s.part) h l s
@[simp] theorem foldl_part_state {α : Type} {f : State → α → State} (h : ∀ s a, (f s a).part.state = s.part.state) (l : List α)
    (s : State) : (l.foldl f s).part.state = s.part.state := foldl_keeps (fun s => s.part.state) h l s
@[simp] theorem foldl_part_roster {α : Type} {f : State → α → State} (h : ∀ s a, (f s a).part.roster = s.part.roster) (l : List α)
    (s : State) : (l.foldl f s).part.roster = s.part.roster := foldl_keeps (fun s => s.part.roster) h l s
@[simp] theorem foldl_part_digest {α : Type} {f : State → α → State} (h : ∀ s a, (f s a).part.digest = s.part.digest) (l : List α)
    (s : State) : (l.foldl f s).part.digest = s.part.digest := foldl_keeps (fun s => s.part.digest) h l s
@[simp] theorem foldl_port {α : Type} {f : State → α → State} (h : ∀ s a, (f s a).port = s.port) (l : List α)
    (s : State) : (l.foldl f s).port = s.port := foldl_keeps (fun s => s.port) h l s
@[simp] theorem foldl_port_response {α : Type} {f : State → α → State} (h : ∀ s a, (f s a).port.response = s.port.response) (l : List α)
    (s : State) : (l.foldl f s).port.response = s.port.response := foldl_keeps (fun s => s.port.response) h l s
@[simp] theorem foldl_port_transaction {α : Type} {f : State → α → State} (h : ∀ s a, (f s a).port.transaction = s.port.transaction) (l : List α)
    (s : State) : (l.foldl f s).port.transaction = s.port.transaction := foldl_keeps (fun s => s.port.transaction) h l s
@[simp] theorem foldl_counters {α : Type} {f : State → α → State} (h : ∀ s a, (f s a).counters = s.counters) (l : List α)
    (s : State) : (l.foldl f s).counters = s.counters := foldl_keeps (fun s => s.counters) h l s
@[simp] theorem foldl_pending {α : Type} {f : State → α → State} (h : ∀ s a, (f s a).pending = s.pending) (l : List α)
    (s : State) : (l.foldl f s).pending = s.pending := foldl_keeps (fun s => s.pending) h l s

@[simp] theorem report_frame (s : State) (e : CounterEvent) (sender : Option Station) (place : Option PlaceId) :
    (report s e sender place).config = s.config ∧ (report s e sender place).pins = s.pins ∧
    (report s e sender place).loop = s.loop ∧ (report s e sender place).gate = s.gate ∧
    (report s e sender place).line = s.line ∧ (report s e sender place).view = s.view ∧
    (report s e sender place).plans = s.plans ∧ (report s e sender place).contest = s.contest ∧
    (report s e sender place).divert = s.divert ∧ (report s e sender place).staging = s.staging ∧
    (report s e sender place).part = s.part ∧ (report s e sender place).port = s.port ∧
    (report s e sender place).pending = s.pending := by
  unfold report; simp

@[simp] theorem reportPlain_frame (s : State) (e : CounterEvent) :
    (reportPlain s e).config = s.config ∧ (reportPlain s e).pins = s.pins ∧ (reportPlain s e).loop = s.loop ∧
    (reportPlain s e).gate = s.gate ∧ (reportPlain s e).line = s.line ∧ (reportPlain s e).view = s.view ∧
    (reportPlain s e).plans = s.plans ∧ (reportPlain s e).contest = s.contest ∧ (reportPlain s e).divert = s.divert ∧
    (reportPlain s e).staging = s.staging ∧ (reportPlain s e).part = s.part ∧ (reportPlain s e).port = s.port ∧
    (reportPlain s e).pending = s.pending := by
  unfold reportPlain; simp

@[simp] theorem reportPlace_frame (s : State) (e : CounterEvent) (p : PlaceId) :
    (reportPlace s e p).config = s.config ∧ (reportPlace s e p).pins = s.pins ∧ (reportPlace s e p).loop = s.loop ∧
    (reportPlace s e p).gate = s.gate ∧ (reportPlace s e p).line = s.line ∧ (reportPlace s e p).view = s.view ∧
    (reportPlace s e p).plans = s.plans ∧ (reportPlace s e p).contest = s.contest ∧
    (reportPlace s e p).divert = s.divert ∧ (reportPlace s e p).staging = s.staging ∧
    (reportPlace s e p).part = s.part ∧ (reportPlace s e p).port = s.port ∧
    (reportPlace s e p).pending = s.pending := by
  unfold reportPlace; simp

@[simp] theorem reportSender_frame (s : State) (e : CounterEvent) (i : Station) :
    (reportSender s e i).config = s.config ∧ (reportSender s e i).pins = s.pins ∧ (reportSender s e i).loop = s.loop ∧
    (reportSender s e i).gate = s.gate ∧ (reportSender s e i).line = s.line ∧ (reportSender s e i).view = s.view ∧
    (reportSender s e i).plans = s.plans ∧ (reportSender s e i).contest = s.contest ∧
    (reportSender s e i).divert = s.divert ∧ (reportSender s e i).staging = s.staging ∧
    (reportSender s e i).part = s.part ∧ (reportSender s e i).port = s.port ∧
    (reportSender s e i).pending = s.pending := by
  unfold reportSender; simp

@[simp] theorem reportTimes_frame (s : State) (e : CounterEvent) (n : Nat) :
    (reportTimes s e n).config = s.config ∧ (reportTimes s e n).pins = s.pins ∧ (reportTimes s e n).loop = s.loop ∧
    (reportTimes s e n).gate = s.gate ∧ (reportTimes s e n).line = s.line ∧ (reportTimes s e n).view = s.view ∧
    (reportTimes s e n).plans = s.plans ∧ (reportTimes s e n).contest = s.contest ∧
    (reportTimes s e n).divert = s.divert ∧ (reportTimes s e n).staging = s.staging ∧
    (reportTimes s e n).part = s.part ∧ (reportTimes s e n).port = s.port ∧
    (reportTimes s e n).pending = s.pending := by
  induction n generalizing s with
  | zero => simp [reportTimes]
  | succ k ih => simp [reportTimes, ih]

@[simp] theorem sampleOccupancy_frame (s : State) :
    (sampleOccupancy s).config = s.config ∧ (sampleOccupancy s).pins = s.pins ∧ (sampleOccupancy s).loop = s.loop ∧
    (sampleOccupancy s).gate = s.gate ∧ (sampleOccupancy s).line = s.line ∧ (sampleOccupancy s).view = s.view ∧
    (sampleOccupancy s).plans = s.plans ∧ (sampleOccupancy s).contest = s.contest ∧
    (sampleOccupancy s).divert = s.divert ∧ (sampleOccupancy s).staging = s.staging ∧
    (sampleOccupancy s).part = s.part ∧ (sampleOccupancy s).port = s.port ∧
    (sampleOccupancy s).pending = s.pending := by
  unfold sampleOccupancy; dsimp only; (repeat' split) <;> simp

@[simp] theorem setFault_frame (s : State) (f : FaultId) (e : FaultEntry) :
    (setFault s f e).config = s.config ∧ (setFault s f e).pins = s.pins ∧ (setFault s f e).loop = s.loop ∧
    (setFault s f e).gate = s.gate ∧ (setFault s f e).line = s.line ∧ (setFault s f e).view = s.view ∧
    (setFault s f e).plans = s.plans ∧ (setFault s f e).contest = s.contest ∧ (setFault s f e).divert = s.divert ∧
    (setFault s f e).staging = s.staging ∧ (setFault s f e).part.state = s.part.state ∧
    (setFault s f e).part.roster = s.part.roster ∧ (setFault s f e).part.digest = s.part.digest ∧
    (setFault s f e).port = s.port ∧ (setFault s f e).counters = s.counters ∧
    (setFault s f e).pending = s.pending := by
  unfold setFault; simp

@[simp] theorem offerNotice_frame (s : State) (n : Notice) :
    (offerNotice s n).config = s.config ∧ (offerNotice s n).pins = s.pins ∧ (offerNotice s n).loop = s.loop ∧
    (offerNotice s n).gate = s.gate ∧ (offerNotice s n).line = s.line ∧ (offerNotice s n).view = s.view ∧
    (offerNotice s n).plans = s.plans ∧ (offerNotice s n).contest = s.contest ∧ (offerNotice s n).divert = s.divert ∧
    (offerNotice s n).staging = s.staging ∧ (offerNotice s n).part.state = s.part.state ∧
    (offerNotice s n).part.roster = s.part.roster ∧ (offerNotice s n).part.digest = s.part.digest ∧
    (offerNotice s n).port.response = s.port.response ∧ (offerNotice s n).port.transaction = s.port.transaction ∧
    (offerNotice s n).counters = s.counters ∧ (offerNotice s n).pending = s.pending := by
  unfold offerNotice; (repeat' split) <;> simp

@[simp] theorem recordFault_frame (s : State) (f : FaultId) (detail : Nat) :
    (recordFault s f detail).config = s.config ∧ (recordFault s f detail).pins = s.pins ∧
    (recordFault s f detail).loop = s.loop ∧ (recordFault s f detail).gate = s.gate ∧
    (recordFault s f detail).line = s.line ∧ (recordFault s f detail).view = s.view ∧
    (recordFault s f detail).plans = s.plans ∧ (recordFault s f detail).contest = s.contest ∧
    (recordFault s f detail).divert = s.divert ∧ (recordFault s f detail).staging = s.staging ∧
    (recordFault s f detail).part.state = s.part.state ∧ (recordFault s f detail).part.roster = s.part.roster ∧
    (recordFault s f detail).part.digest = s.part.digest ∧ (recordFault s f detail).port.response = s.port.response ∧
    (recordFault s f detail).port.transaction = s.port.transaction ∧ (recordFault s f detail).counters = s.counters ∧
    (recordFault s f detail).pending = s.pending := by
  unfold recordFault; simp

@[simp] theorem endCondition_frame (s : State) (f : FaultId) :
    (endCondition s f).config = s.config ∧ (endCondition s f).pins = s.pins ∧ (endCondition s f).loop = s.loop ∧
    (endCondition s f).gate = s.gate ∧ (endCondition s f).line = s.line ∧ (endCondition s f).view = s.view ∧
    (endCondition s f).plans = s.plans ∧ (endCondition s f).contest = s.contest ∧
    (endCondition s f).divert = s.divert ∧ (endCondition s f).staging = s.staging ∧
    (endCondition s f).part.state = s.part.state ∧ (endCondition s f).part.roster = s.part.roster ∧
    (endCondition s f).part.digest = s.part.digest ∧ (endCondition s f).port = s.port ∧
    (endCondition s f).counters = s.counters ∧ (endCondition s f).pending = s.pending := by
  unfold endCondition; simp

@[simp] theorem setTx_frame (s : State) (q : List TxFrame) :
    (setTx s q).config = s.config ∧ (setTx s q).pins = s.pins ∧ (setTx s q).loop = s.loop ∧ (setTx s q).gate = s.gate ∧
    (setTx s q).line.state = s.line.state ∧ (setTx s q).line.rx = s.line.rx ∧
    (setTx s q).line.attempt = s.line.attempt ∧ (setTx s q).view = s.view ∧ (setTx s q).plans = s.plans ∧
    (setTx s q).contest = s.contest ∧ (setTx s q).divert = s.divert ∧ (setTx s q).staging = s.staging ∧
    (setTx s q).part = s.part ∧ (setTx s q).port = s.port ∧ (setTx s q).counters = s.counters ∧
    (setTx s q).pending = s.pending := by
  unfold setTx; simp

@[simp] theorem offerAnnounce_frame (s : State) (f : OutFrame) :
    (offerAnnounce s f).config = s.config ∧ (offerAnnounce s f).pins = s.pins ∧ (offerAnnounce s f).loop = s.loop ∧
    (offerAnnounce s f).gate = s.gate ∧ (offerAnnounce s f).line.state = s.line.state ∧
    (offerAnnounce s f).line.rx = s.line.rx ∧ (offerAnnounce s f).line.attempt = s.line.attempt ∧
    (offerAnnounce s f).view = s.view ∧ (offerAnnounce s f).plans = s.plans ∧ (offerAnnounce s f).contest = s.contest ∧
    (offerAnnounce s f).divert = s.divert ∧ (offerAnnounce s f).staging = s.staging ∧
    (offerAnnounce s f).part = s.part ∧ (offerAnnounce s f).port = s.port ∧
    (offerAnnounce s f).pending = s.pending := by
  unfold offerAnnounce; (repeat' split) <;> simp

@[simp] theorem offerOther_frame (s : State) (f : OutFrame) :
    (offerOther s f).config = s.config ∧ (offerOther s f).pins = s.pins ∧ (offerOther s f).loop = s.loop ∧
    (offerOther s f).gate = s.gate ∧ (offerOther s f).line.state = s.line.state ∧
    (offerOther s f).line.rx = s.line.rx ∧ (offerOther s f).line.attempt = s.line.attempt ∧
    (offerOther s f).view = s.view ∧ (offerOther s f).plans = s.plans ∧ (offerOther s f).contest = s.contest ∧
    (offerOther s f).divert = s.divert ∧ (offerOther s f).staging = s.staging ∧ (offerOther s f).part = s.part ∧
    (offerOther s f).port = s.port ∧ (offerOther s f).pending = s.pending := by
  unfold offerOther; (repeat' split) <;> simp

@[simp] theorem offerFrame_frame (s : State) (f : OutFrame) :
    (offerFrame s f).config = s.config ∧ (offerFrame s f).pins = s.pins ∧ (offerFrame s f).loop = s.loop ∧
    (offerFrame s f).gate = s.gate ∧ (offerFrame s f).line.state = s.line.state ∧
    (offerFrame s f).line.rx = s.line.rx ∧ (offerFrame s f).line.attempt = s.line.attempt ∧
    (offerFrame s f).view = s.view ∧ (offerFrame s f).plans = s.plans ∧ (offerFrame s f).contest = s.contest ∧
    (offerFrame s f).divert = s.divert ∧ (offerFrame s f).staging = s.staging ∧ (offerFrame s f).part = s.part ∧
    (offerFrame s f).port = s.port ∧ (offerFrame s f).pending = s.pending := by
  unfold offerFrame; (repeat' split) <;> simp

@[simp] theorem withdrawAnnounces_frame (s : State) (p : OutFrame → Bool) :
    (withdrawAnnounces s p).config = s.config ∧ (withdrawAnnounces s p).pins = s.pins ∧
    (withdrawAnnounces s p).loop = s.loop ∧ (withdrawAnnounces s p).gate = s.gate ∧
    (withdrawAnnounces s p).line.state = s.line.state ∧ (withdrawAnnounces s p).line.rx = s.line.rx ∧
    (withdrawAnnounces s p).line.attempt = s.line.attempt ∧ (withdrawAnnounces s p).view = s.view ∧
    (withdrawAnnounces s p).plans = s.plans ∧ (withdrawAnnounces s p).contest = s.contest ∧
    (withdrawAnnounces s p).divert = s.divert ∧ (withdrawAnnounces s p).staging = s.staging ∧
    (withdrawAnnounces s p).part = s.part ∧ (withdrawAnnounces s p).port = s.port ∧
    (withdrawAnnounces s p).pending = s.pending := by
  unfold withdrawAnnounces; simp

@[simp] theorem offerWithdraw_frame (s : State) (reason : Nat) :
    (offerWithdraw s reason).config = s.config ∧ (offerWithdraw s reason).pins = s.pins ∧
    (offerWithdraw s reason).loop = s.loop ∧ (offerWithdraw s reason).gate = s.gate ∧
    (offerWithdraw s reason).line.state = s.line.state ∧ (offerWithdraw s reason).line.rx = s.line.rx ∧
    (offerWithdraw s reason).line.attempt = s.line.attempt ∧ (offerWithdraw s reason).view = s.view ∧
    (offerWithdraw s reason).plans = s.plans ∧ (offerWithdraw s reason).contest = s.contest ∧
    (offerWithdraw s reason).divert = s.divert ∧ (offerWithdraw s reason).staging = s.staging ∧
    (offerWithdraw s reason).part = s.part ∧ (offerWithdraw s reason).port = s.port ∧
    (offerWithdraw s reason).pending = s.pending := by
  unfold offerWithdraw; simp

@[simp] theorem offerJoin_frame (s : State) :
    (offerJoin s).config = s.config ∧ (offerJoin s).pins = s.pins ∧ (offerJoin s).loop = s.loop ∧
    (offerJoin s).gate = s.gate ∧ (offerJoin s).line.state = s.line.state ∧ (offerJoin s).line.rx = s.line.rx ∧
    (offerJoin s).line.attempt = s.line.attempt ∧ (offerJoin s).view = s.view ∧ (offerJoin s).plans = s.plans ∧
    (offerJoin s).contest = s.contest ∧ (offerJoin s).divert = s.divert ∧ (offerJoin s).staging = s.staging ∧
    (offerJoin s).part = s.part ∧ (offerJoin s).port = s.port ∧ (offerJoin s).pending = s.pending := by
  unfold offerJoin; simp

@[simp] theorem offerReplyJoin_frame (s : State) :
    (offerReplyJoin s).config = s.config ∧ (offerReplyJoin s).pins = s.pins ∧ (offerReplyJoin s).loop = s.loop ∧
    (offerReplyJoin s).gate = s.gate ∧ (offerReplyJoin s).line.state = s.line.state ∧
    (offerReplyJoin s).line.rx = s.line.rx ∧ (offerReplyJoin s).line.attempt = s.line.attempt ∧
    (offerReplyJoin s).view = s.view ∧ (offerReplyJoin s).plans = s.plans ∧ (offerReplyJoin s).contest = s.contest ∧
    (offerReplyJoin s).divert = s.divert ∧ (offerReplyJoin s).staging = s.staging ∧ (offerReplyJoin s).part = s.part ∧
    (offerReplyJoin s).port = s.port ∧ (offerReplyJoin s).pending = s.pending := by
  unfold offerReplyJoin; (repeat' split) <;> simp

@[simp] theorem enterOwnFrame_frame (s : State) (f : Frame) :
    (enterOwnFrame s f).config = s.config ∧ (enterOwnFrame s f).pins = s.pins ∧ (enterOwnFrame s f).loop = s.loop ∧
    (enterOwnFrame s f).gate = s.gate ∧ (enterOwnFrame s f).line.state = s.line.state ∧
    (enterOwnFrame s f).line.attempt = s.line.attempt ∧ (enterOwnFrame s f).view = s.view ∧
    (enterOwnFrame s f).plans = s.plans ∧ (enterOwnFrame s f).contest = s.contest ∧
    (enterOwnFrame s f).divert = s.divert ∧ (enterOwnFrame s f).staging = s.staging ∧
    (enterOwnFrame s f).part = s.part ∧ (enterOwnFrame s f).port = s.port ∧ (enterOwnFrame s f).counters = s.counters ∧
    (enterOwnFrame s f).pending = s.pending := by
  unfold enterOwnFrame; (repeat' split) <;> simp

@[simp] theorem setPlace_frame (s : State) (p : PlaceId) (x : Place) :
    (setPlace s p x).config = s.config ∧ (setPlace s p x).pins = s.pins ∧ (setPlace s p x).loop = s.loop ∧
    (setPlace s p x).gate = s.gate ∧ (setPlace s p x).line = s.line ∧ (setPlace s p x).view = s.view ∧
    (setPlace s p x).contest = s.contest ∧ (setPlace s p x).divert = s.divert ∧ (setPlace s p x).staging = s.staging ∧
    (setPlace s p x).part = s.part ∧ (setPlace s p x).port = s.port ∧ (setPlace s p x).counters = s.counters ∧
    (setPlace s p x).pending = s.pending := by
  unfold setPlace; simp

@[simp] theorem modifyLine_frame (s : State) (t : Target) (f : Line → Line) :
    (modifyLine s t f).config = s.config ∧ (modifyLine s t f).pins = s.pins ∧ (modifyLine s t f).loop = s.loop ∧
    (modifyLine s t f).gate = s.gate ∧ (modifyLine s t f).line = s.line ∧ (modifyLine s t f).view = s.view ∧
    (modifyLine s t f).contest = s.contest ∧ (modifyLine s t f).divert = s.divert ∧
    (modifyLine s t f).staging = s.staging ∧ (modifyLine s t f).part = s.part ∧ (modifyLine s t f).port = s.port ∧
    (modifyLine s t f).counters = s.counters ∧ (modifyLine s t f).pending = s.pending := by
  unfold modifyLine; simp

@[simp] theorem respond_frame (s : State) (r : Result) (data : BitVec 88) :
    (respond s r data).config = s.config ∧ (respond s r data).pins = s.pins ∧ (respond s r data).loop = s.loop ∧
    (respond s r data).gate = s.gate ∧ (respond s r data).line = s.line ∧ (respond s r data).view = s.view ∧
    (respond s r data).plans = s.plans ∧ (respond s r data).contest = s.contest ∧
    (respond s r data).divert = s.divert ∧ (respond s r data).staging = s.staging ∧ (respond s r data).part = s.part ∧
    (respond s r data).counters = s.counters ∧ (respond s r data).pending = s.pending := by
  unfold respond; simp

@[simp] theorem answer_frame (s : State) (r : Result) :
    (answer s r).config = s.config ∧ (answer s r).pins = s.pins ∧ (answer s r).loop = s.loop ∧
    (answer s r).gate = s.gate ∧ (answer s r).line = s.line ∧ (answer s r).view = s.view ∧
    (answer s r).plans = s.plans ∧ (answer s r).contest = s.contest ∧ (answer s r).divert = s.divert ∧
    (answer s r).staging = s.staging ∧ (answer s r).part = s.part ∧ (answer s r).counters = s.counters ∧
    (answer s r).pending = s.pending := by
  unfold answer; simp

@[simp] theorem setViewEntry_frame (s : State) (k : Nat) (e : ViewEntry) :
    (setViewEntry s k e).config = s.config ∧ (setViewEntry s k e).pins = s.pins ∧ (setViewEntry s k e).loop = s.loop ∧
    (setViewEntry s k e).gate = s.gate ∧ (setViewEntry s k e).line = s.line ∧ (setViewEntry s k e).plans = s.plans ∧
    (setViewEntry s k e).contest = s.contest ∧ (setViewEntry s k e).divert = s.divert ∧
    (setViewEntry s k e).staging = s.staging ∧ (setViewEntry s k e).part = s.part ∧
    (setViewEntry s k e).port = s.port ∧ (setViewEntry s k e).counters = s.counters ∧
    (setViewEntry s k e).pending = s.pending := by
  unfold setViewEntry; simp

@[simp] theorem setClaims_frame (s : State) (cs : List Claim) :
    (setClaims s cs).config = s.config ∧ (setClaims s cs).pins = s.pins ∧ (setClaims s cs).loop = s.loop ∧
    (setClaims s cs).gate = s.gate ∧ (setClaims s cs).line = s.line ∧ (setClaims s cs).view = s.view ∧
    (setClaims s cs).plans = s.plans ∧ (setClaims s cs).divert = s.divert ∧ (setClaims s cs).staging = s.staging ∧
    (setClaims s cs).part = s.part ∧ (setClaims s cs).port = s.port ∧ (setClaims s cs).counters = s.counters ∧
    (setClaims s cs).pending = s.pending := by
  unfold setClaims; simp

@[simp] theorem modifyClaim_frame (s : State) (k : Nat) (f : Claim → Claim) :
    (modifyClaim s k f).config = s.config ∧ (modifyClaim s k f).pins = s.pins ∧ (modifyClaim s k f).loop = s.loop ∧
    (modifyClaim s k f).gate = s.gate ∧ (modifyClaim s k f).line = s.line ∧ (modifyClaim s k f).view = s.view ∧
    (modifyClaim s k f).plans = s.plans ∧ (modifyClaim s k f).divert = s.divert ∧
    (modifyClaim s k f).staging = s.staging ∧ (modifyClaim s k f).part = s.part ∧ (modifyClaim s k f).port = s.port ∧
    (modifyClaim s k f).counters = s.counters ∧ (modifyClaim s k f).pending = s.pending := by
  unfold modifyClaim; simp

@[simp] theorem markSearch_frame (s : State) :
    (markSearch s).config = s.config ∧ (markSearch s).pins = s.pins ∧ (markSearch s).loop = s.loop ∧
    (markSearch s).gate = s.gate ∧ (markSearch s).line = s.line ∧ (markSearch s).view = s.view ∧
    (markSearch s).plans = s.plans ∧ (markSearch s).divert = s.divert ∧ (markSearch s).staging = s.staging ∧
    (markSearch s).part = s.part ∧ (markSearch s).port = s.port ∧ (markSearch s).counters = s.counters ∧
    (markSearch s).pending = s.pending := by
  unfold markSearch; simp

@[simp] theorem dropClaim_frame (s : State) (c : Claim) :
    (dropClaim s c).config = s.config ∧ (dropClaim s c).pins = s.pins ∧ (dropClaim s c).loop = s.loop ∧
    (dropClaim s c).gate = s.gate ∧ (dropClaim s c).line = s.line ∧ (dropClaim s c).view = s.view ∧
    (dropClaim s c).divert = s.divert ∧ (dropClaim s c).staging = s.staging ∧ (dropClaim s c).part = s.part ∧
    (dropClaim s c).port = s.port ∧ (dropClaim s c).counters = s.counters ∧ (dropClaim s c).pending = s.pending := by
  unfold dropClaim; simp

@[simp] theorem leaveClaim_frame (s : State) (c : Claim) :
    (leaveClaim s c).config = s.config ∧ (leaveClaim s c).pins = s.pins ∧ (leaveClaim s c).loop = s.loop ∧
    (leaveClaim s c).gate = s.gate ∧ (leaveClaim s c).line = s.line ∧ (leaveClaim s c).view = s.view ∧
    (leaveClaim s c).divert = s.divert ∧ (leaveClaim s c).staging = s.staging ∧ (leaveClaim s c).part = s.part ∧
    (leaveClaim s c).port = s.port ∧ (leaveClaim s c).counters = s.counters ∧
    (leaveClaim s c).pending = s.pending := by
  unfold leaveClaim; simp

@[simp] theorem reportEnd_frame (s : State) (c : Claim) (e : PendingEnd) :
    (reportEnd s c e).config = s.config ∧ (reportEnd s c e).pins = s.pins ∧ (reportEnd s c e).loop = s.loop ∧
    (reportEnd s c e).gate = s.gate ∧ (reportEnd s c e).line = s.line ∧ (reportEnd s c e).view = s.view ∧
    (reportEnd s c e).plans = s.plans ∧ (reportEnd s c e).contest = s.contest ∧ (reportEnd s c e).divert = s.divert ∧
    (reportEnd s c e).staging = s.staging ∧ (reportEnd s c e).part = s.part ∧ (reportEnd s c e).port = s.port ∧
    (reportEnd s c e).pending = s.pending := by
  unfold reportEnd; (repeat' split) <;> simp

@[simp] theorem leaveWithEnd_frame (s : State) (c : Claim) (e : PendingEnd) :
    (leaveWithEnd s c e).config = s.config ∧ (leaveWithEnd s c e).pins = s.pins ∧ (leaveWithEnd s c e).loop = s.loop ∧
    (leaveWithEnd s c e).gate = s.gate ∧ (leaveWithEnd s c e).line = s.line ∧ (leaveWithEnd s c e).view = s.view ∧
    (leaveWithEnd s c e).divert = s.divert ∧ (leaveWithEnd s c e).staging = s.staging ∧
    (leaveWithEnd s c e).part = s.part ∧ (leaveWithEnd s c e).port = s.port ∧
    (leaveWithEnd s c e).pending = s.pending := by
  unfold leaveWithEnd; simp

@[simp] theorem cancelTest_frame (s : State) (p : PlaceId) :
    (cancelTest s p).config = s.config ∧ (cancelTest s p).pins = s.pins ∧ (cancelTest s p).loop = s.loop ∧
    (cancelTest s p).gate = s.gate ∧ (cancelTest s p).line = s.line ∧ (cancelTest s p).view = s.view ∧
    (cancelTest s p).contest = s.contest ∧ (cancelTest s p).divert = s.divert ∧ (cancelTest s p).staging = s.staging ∧
    (cancelTest s p).part.state = s.part.state ∧ (cancelTest s p).part.roster = s.part.roster ∧
    (cancelTest s p).part.digest = s.part.digest ∧ (cancelTest s p).port.response = s.port.response ∧
    (cancelTest s p).port.transaction = s.port.transaction ∧ (cancelTest s p).counters = s.counters ∧
    (cancelTest s p).pending = s.pending := by
  unfold cancelTest; (repeat' split) <;> simp

@[simp] theorem endUncommitted_frame (s : State) (k : Nat) (cause : PendingEnd) :
    (endUncommitted s k cause).config = s.config ∧ (endUncommitted s k cause).pins = s.pins ∧
    (endUncommitted s k cause).loop = s.loop ∧ (endUncommitted s k cause).gate = s.gate ∧
    (endUncommitted s k cause).line.state = s.line.state ∧ (endUncommitted s k cause).line.rx = s.line.rx ∧
    (endUncommitted s k cause).line.attempt = s.line.attempt ∧ (endUncommitted s k cause).view = s.view ∧
    (endUncommitted s k cause).divert = s.divert ∧ (endUncommitted s k cause).staging = s.staging ∧
    (endUncommitted s k cause).part = s.part ∧ (endUncommitted s k cause).port = s.port ∧
    (endUncommitted s k cause).pending = s.pending := by
  unfold endUncommitted; dsimp only; (repeat' split) <;> simp

@[simp] theorem endAndTest_frame (s : State) (k : Nat) (cause : PendingEnd) :
    (endAndTest s k cause).config = s.config ∧ (endAndTest s k cause).pins = s.pins ∧
    (endAndTest s k cause).loop = s.loop ∧ (endAndTest s k cause).gate = s.gate ∧
    (endAndTest s k cause).line.state = s.line.state ∧ (endAndTest s k cause).line.rx = s.line.rx ∧
    (endAndTest s k cause).line.attempt = s.line.attempt ∧ (endAndTest s k cause).view = s.view ∧
    (endAndTest s k cause).divert = s.divert ∧ (endAndTest s k cause).staging = s.staging ∧
    (endAndTest s k cause).part.state = s.part.state ∧ (endAndTest s k cause).part.roster = s.part.roster ∧
    (endAndTest s k cause).part.digest = s.part.digest ∧ (endAndTest s k cause).port.response = s.port.response ∧
    (endAndTest s k cause).port.transaction = s.port.transaction ∧ (endAndTest s k cause).pending = s.pending := by
  unfold endAndTest; (repeat' split) <;> simp

@[simp] theorem cancelClaim_frame (s : State) (k : Nat) :
    (cancelClaim s k).config = s.config ∧ (cancelClaim s k).pins = s.pins ∧ (cancelClaim s k).loop = s.loop ∧
    (cancelClaim s k).gate = s.gate ∧ (cancelClaim s k).line.state = s.line.state ∧
    (cancelClaim s k).line.rx = s.line.rx ∧ (cancelClaim s k).line.attempt = s.line.attempt ∧
    (cancelClaim s k).view = s.view ∧ (cancelClaim s k).divert = s.divert ∧ (cancelClaim s k).staging = s.staging ∧
    (cancelClaim s k).part = s.part ∧ (cancelClaim s k).port = s.port ∧ (cancelClaim s k).pending = s.pending := by
  unfold cancelClaim; (repeat' split) <;> simp

@[simp] theorem cancelClaimsOf_frame (s : State) (p : PlaceId) :
    (cancelClaimsOf s p).config = s.config ∧ (cancelClaimsOf s p).pins = s.pins ∧ (cancelClaimsOf s p).loop = s.loop ∧
    (cancelClaimsOf s p).gate = s.gate ∧ (cancelClaimsOf s p).line.state = s.line.state ∧
    (cancelClaimsOf s p).line.rx = s.line.rx ∧ (cancelClaimsOf s p).line.attempt = s.line.attempt ∧
    (cancelClaimsOf s p).view = s.view ∧ (cancelClaimsOf s p).divert = s.divert ∧
    (cancelClaimsOf s p).staging = s.staging ∧ (cancelClaimsOf s p).part = s.part ∧
    (cancelClaimsOf s p).port = s.port ∧ (cancelClaimsOf s p).pending = s.pending := by
  unfold cancelClaimsOf; simp

@[simp] theorem withdrawClaim_frame (s : State) (k : Nat) :
    (withdrawClaim s k).config = s.config ∧ (withdrawClaim s k).pins = s.pins ∧ (withdrawClaim s k).loop = s.loop ∧
    (withdrawClaim s k).gate = s.gate ∧ (withdrawClaim s k).line.state = s.line.state ∧
    (withdrawClaim s k).line.rx = s.line.rx ∧ (withdrawClaim s k).line.attempt = s.line.attempt ∧
    (withdrawClaim s k).view = s.view ∧ (withdrawClaim s k).divert = s.divert ∧
    (withdrawClaim s k).staging = s.staging ∧ (withdrawClaim s k).part.state = s.part.state ∧
    (withdrawClaim s k).part.roster = s.part.roster ∧ (withdrawClaim s k).part.digest = s.part.digest ∧
    (withdrawClaim s k).port.response = s.port.response ∧ (withdrawClaim s k).port.transaction = s.port.transaction ∧
    (withdrawClaim s k).pending = s.pending := by
  unfold withdrawClaim; (repeat' split) <;> simp

@[simp] theorem withdrawClaims_frame (s : State) :
    (withdrawClaims s).config = s.config ∧ (withdrawClaims s).pins = s.pins ∧ (withdrawClaims s).loop = s.loop ∧
    (withdrawClaims s).gate = s.gate ∧ (withdrawClaims s).line.state = s.line.state ∧
    (withdrawClaims s).line.rx = s.line.rx ∧ (withdrawClaims s).line.attempt = s.line.attempt ∧
    (withdrawClaims s).view = s.view ∧ (withdrawClaims s).divert = s.divert ∧ (withdrawClaims s).staging = s.staging ∧
    (withdrawClaims s).part.state = s.part.state ∧ (withdrawClaims s).part.roster = s.part.roster ∧
    (withdrawClaims s).part.digest = s.part.digest ∧ (withdrawClaims s).port.response = s.port.response ∧
    (withdrawClaims s).port.transaction = s.port.transaction ∧ (withdrawClaims s).pending = s.pending := by
  unfold withdrawClaims; simp

@[simp] theorem addOrphan_frame (s : State) (k : Nat) :
    (addOrphan s k).config = s.config ∧ (addOrphan s k).pins = s.pins ∧ (addOrphan s k).loop = s.loop ∧
    (addOrphan s k).gate = s.gate ∧ (addOrphan s k).line = s.line ∧ (addOrphan s k).view = s.view ∧
    (addOrphan s k).plans = s.plans ∧ (addOrphan s k).divert = s.divert ∧ (addOrphan s k).staging = s.staging ∧
    (addOrphan s k).part = s.part ∧ (addOrphan s k).port = s.port ∧ (addOrphan s k).counters = s.counters ∧
    (addOrphan s k).pending = s.pending := by
  unfold addOrphan; simp

@[simp] theorem faultClaim_frame (s : State) (k : Nat) :
    (faultClaim s k).config = s.config ∧ (faultClaim s k).pins = s.pins ∧ (faultClaim s k).loop = s.loop ∧
    (faultClaim s k).gate = s.gate ∧ (faultClaim s k).line.state = s.line.state ∧
    (faultClaim s k).line.rx = s.line.rx ∧ (faultClaim s k).line.attempt = s.line.attempt ∧
    (faultClaim s k).view = s.view ∧ (faultClaim s k).divert = s.divert ∧ (faultClaim s k).staging = s.staging ∧
    (faultClaim s k).part.state = s.part.state ∧ (faultClaim s k).part.roster = s.part.roster ∧
    (faultClaim s k).part.digest = s.part.digest ∧ (faultClaim s k).port.response = s.port.response ∧
    (faultClaim s k).port.transaction = s.port.transaction ∧ (faultClaim s k).pending = s.pending := by
  unfold faultClaim; dsimp only; (repeat' split) <;> simp

@[simp] theorem faultClaims_frame (s : State) :
    (faultClaims s).config = s.config ∧ (faultClaims s).pins = s.pins ∧ (faultClaims s).loop = s.loop ∧
    (faultClaims s).gate = s.gate ∧ (faultClaims s).line.state = s.line.state ∧ (faultClaims s).line.rx = s.line.rx ∧
    (faultClaims s).line.attempt = s.line.attempt ∧ (faultClaims s).view = s.view ∧ (faultClaims s).divert = s.divert ∧
    (faultClaims s).staging = s.staging ∧ (faultClaims s).part.state = s.part.state ∧
    (faultClaims s).part.roster = s.part.roster ∧ (faultClaims s).part.digest = s.part.digest ∧
    (faultClaims s).port.response = s.port.response ∧ (faultClaims s).port.transaction = s.port.transaction ∧
    (faultClaims s).pending = s.pending := by
  unfold faultClaims; simp

@[simp] theorem queueClaim_frame (s : State) (k : Nat) (t : Target) (u : Urgency) :
    (queueClaim s k t u).config = s.config ∧ (queueClaim s k t u).pins = s.pins ∧ (queueClaim s k t u).loop = s.loop ∧
    (queueClaim s k t u).gate = s.gate ∧ (queueClaim s k t u).line.state = s.line.state ∧
    (queueClaim s k t u).line.rx = s.line.rx ∧ (queueClaim s k t u).line.attempt = s.line.attempt ∧
    (queueClaim s k t u).view = s.view ∧ (queueClaim s k t u).divert = s.divert ∧
    (queueClaim s k t u).staging = s.staging ∧ (queueClaim s k t u).part = s.part ∧
    (queueClaim s k t u).port = s.port ∧ (queueClaim s k t u).pending = s.pending := by
  unfold queueClaim; simp

@[simp] theorem searchSlot_frame (s : State) (k : Nat) :
    (searchSlot s k).config = s.config ∧ (searchSlot s k).pins = s.pins ∧ (searchSlot s k).loop = s.loop ∧
    (searchSlot s k).gate = s.gate ∧ (searchSlot s k).line.state = s.line.state ∧
    (searchSlot s k).line.rx = s.line.rx ∧ (searchSlot s k).line.attempt = s.line.attempt ∧
    (searchSlot s k).view = s.view ∧ (searchSlot s k).divert = s.divert ∧ (searchSlot s k).staging = s.staging ∧
    (searchSlot s k).part = s.part ∧ (searchSlot s k).port = s.port ∧ (searchSlot s k).pending = s.pending := by
  unfold searchSlot; (repeat' split) <;> simp

@[simp] theorem search_frame (s : State) :
    (search s).config = s.config ∧ (search s).pins = s.pins ∧ (search s).loop = s.loop ∧ (search s).gate = s.gate ∧
    (search s).line.state = s.line.state ∧ (search s).line.rx = s.line.rx ∧ (search s).line.attempt = s.line.attempt ∧
    (search s).view = s.view ∧ (search s).divert = s.divert ∧ (search s).staging = s.staging ∧
    (search s).part = s.part ∧ (search s).port = s.port ∧ (search s).pending = s.pending := by
  unfold search; simp

@[simp] theorem runSearch_frame (s : State) :
    (runSearch s).config = s.config ∧ (runSearch s).pins = s.pins ∧ (runSearch s).loop = s.loop ∧
    (runSearch s).gate = s.gate ∧ (runSearch s).line.state = s.line.state ∧ (runSearch s).line.rx = s.line.rx ∧
    (runSearch s).line.attempt = s.line.attempt ∧ (runSearch s).view = s.view ∧ (runSearch s).divert = s.divert ∧
    (runSearch s).staging = s.staging ∧ (runSearch s).part = s.part ∧ (runSearch s).port = s.port ∧
    (runSearch s).pending = s.pending := by
  unfold runSearch; dsimp only; (repeat' split) <;> simp

@[simp] theorem testClaim_frame (s : State) (k : Nat) :
    (testClaim s k).config = s.config ∧ (testClaim s k).pins = s.pins ∧ (testClaim s k).loop = s.loop ∧
    (testClaim s k).gate = s.gate ∧ (testClaim s k).line.state = s.line.state ∧ (testClaim s k).line.rx = s.line.rx ∧
    (testClaim s k).line.attempt = s.line.attempt ∧ (testClaim s k).view = s.view ∧ (testClaim s k).divert = s.divert ∧
    (testClaim s k).staging = s.staging ∧ (testClaim s k).part.state = s.part.state ∧
    (testClaim s k).part.roster = s.part.roster ∧ (testClaim s k).part.digest = s.part.digest ∧
    (testClaim s k).port.response = s.port.response ∧ (testClaim s k).port.transaction = s.port.transaction ∧
    (testClaim s k).pending = s.pending := by
  unfold testClaim; (repeat' split) <;> simp

@[simp] theorem testClaims_frame (s : State) :
    (testClaims s).config = s.config ∧ (testClaims s).pins = s.pins ∧ (testClaims s).loop = s.loop ∧
    (testClaims s).gate = s.gate ∧ (testClaims s).line.state = s.line.state ∧ (testClaims s).line.rx = s.line.rx ∧
    (testClaims s).line.attempt = s.line.attempt ∧ (testClaims s).view = s.view ∧ (testClaims s).divert = s.divert ∧
    (testClaims s).staging = s.staging ∧ (testClaims s).part.state = s.part.state ∧
    (testClaims s).part.roster = s.part.roster ∧ (testClaims s).part.digest = s.part.digest ∧
    (testClaims s).port.response = s.port.response ∧ (testClaims s).port.transaction = s.port.transaction ∧
    (testClaims s).pending = s.pending := by
  unfold testClaims; simp

@[simp] theorem setRecords_frame (s : State) (rs : List StagingRecord) :
    (setRecords s rs).config = s.config ∧ (setRecords s rs).pins = s.pins ∧ (setRecords s rs).loop = s.loop ∧
    (setRecords s rs).gate = s.gate ∧ (setRecords s rs).line = s.line ∧ (setRecords s rs).view = s.view ∧
    (setRecords s rs).plans = s.plans ∧ (setRecords s rs).contest = s.contest ∧ (setRecords s rs).divert = s.divert ∧
    (setRecords s rs).part = s.part ∧ (setRecords s rs).port = s.port ∧ (setRecords s rs).counters = s.counters ∧
    (setRecords s rs).pending = s.pending := by
  unfold setRecords; simp

@[simp] theorem makeRecord_frame (s : State) (slot : Nat) (case : CaseId) (target : Option Target) (st : RecordState) :
    (makeRecord s slot case target st).config = s.config ∧ (makeRecord s slot case target st).pins = s.pins ∧
    (makeRecord s slot case target st).loop = s.loop ∧ (makeRecord s slot case target st).gate = s.gate ∧
    (makeRecord s slot case target st).line = s.line ∧ (makeRecord s slot case target st).view = s.view ∧
    (makeRecord s slot case target st).plans = s.plans ∧ (makeRecord s slot case target st).contest = s.contest ∧
    (makeRecord s slot case target st).divert = s.divert ∧ (makeRecord s slot case target st).part = s.part ∧
    (makeRecord s slot case target st).port = s.port ∧ (makeRecord s slot case target st).counters = s.counters ∧
    (makeRecord s slot case target st).pending = s.pending := by
  unfold makeRecord; simp

@[simp] theorem stageTaken_frame (s : State) (c : Claim) (case : CaseId) :
    (stageTaken s c case).config = s.config ∧ (stageTaken s c case).pins = s.pins ∧
    (stageTaken s c case).loop = s.loop ∧ (stageTaken s c case).gate = s.gate ∧ (stageTaken s c case).line = s.line ∧
    (stageTaken s c case).view = s.view ∧ (stageTaken s c case).contest = s.contest ∧
    (stageTaken s c case).divert = s.divert ∧ (stageTaken s c case).part.state = s.part.state ∧
    (stageTaken s c case).part.roster = s.part.roster ∧ (stageTaken s c case).part.digest = s.part.digest ∧
    (stageTaken s c case).port.response = s.port.response ∧
    (stageTaken s c case).port.transaction = s.port.transaction ∧ (stageTaken s c case).counters = s.counters ∧
    (stageTaken s c case).pending = s.pending := by
  unfold stageTaken; dsimp only; (repeat' split) <;> simp

@[simp] theorem promoteRecords_frame (s : State) (p : PlaceId) (tier : Nat) :
    (promoteRecords s p tier).config = s.config ∧ (promoteRecords s p tier).pins = s.pins ∧
    (promoteRecords s p tier).loop = s.loop ∧ (promoteRecords s p tier).gate = s.gate ∧
    (promoteRecords s p tier).line = s.line ∧ (promoteRecords s p tier).view = s.view ∧
    (promoteRecords s p tier).plans = s.plans ∧ (promoteRecords s p tier).contest = s.contest ∧
    (promoteRecords s p tier).divert = s.divert ∧ (promoteRecords s p tier).part.state = s.part.state ∧
    (promoteRecords s p tier).part.roster = s.part.roster ∧ (promoteRecords s p tier).part.digest = s.part.digest ∧
    (promoteRecords s p tier).port.response = s.port.response ∧
    (promoteRecords s p tier).port.transaction = s.port.transaction ∧ (promoteRecords s p tier).counters = s.counters ∧
    (promoteRecords s p tier).pending = s.pending := by
  unfold promoteRecords; simp

@[simp] theorem demoteRecords_frame (s : State) (p : PlaceId) :
    (demoteRecords s p).config = s.config ∧ (demoteRecords s p).pins = s.pins ∧ (demoteRecords s p).loop = s.loop ∧
    (demoteRecords s p).gate = s.gate ∧ (demoteRecords s p).line = s.line ∧ (demoteRecords s p).view = s.view ∧
    (demoteRecords s p).plans = s.plans ∧ (demoteRecords s p).contest = s.contest ∧
    (demoteRecords s p).divert = s.divert ∧ (demoteRecords s p).part = s.part ∧ (demoteRecords s p).port = s.port ∧
    (demoteRecords s p).counters = s.counters ∧ (demoteRecords s p).pending = s.pending := by
  unfold demoteRecords; simp

@[simp] theorem orphanRecords_frame (s : State) (p : PlaceId) :
    (orphanRecords s p).config = s.config ∧ (orphanRecords s p).pins = s.pins ∧ (orphanRecords s p).loop = s.loop ∧
    (orphanRecords s p).gate = s.gate ∧ (orphanRecords s p).line = s.line ∧ (orphanRecords s p).view = s.view ∧
    (orphanRecords s p).contest = s.contest ∧ (orphanRecords s p).divert = s.divert ∧
    (orphanRecords s p).part.state = s.part.state ∧ (orphanRecords s p).part.roster = s.part.roster ∧
    (orphanRecords s p).part.digest = s.part.digest ∧ (orphanRecords s p).port.response = s.port.response ∧
    (orphanRecords s p).port.transaction = s.port.transaction ∧ (orphanRecords s p).counters = s.counters ∧
    (orphanRecords s p).pending = s.pending := by
  unfold orphanRecords; simp

@[simp] theorem setWatch_frame (s : State) (p : PlaceId) (w : Watch) :
    (setWatch s p w).config = s.config ∧ (setWatch s p w).pins = s.pins ∧ (setWatch s p w).loop = s.loop ∧
    (setWatch s p w).gate = s.gate ∧ (setWatch s p w).line = s.line ∧ (setWatch s p w).view = s.view ∧
    (setWatch s p w).plans = s.plans ∧ (setWatch s p w).contest = s.contest ∧ (setWatch s p w).divert = s.divert ∧
    (setWatch s p w).staging = s.staging ∧ (setWatch s p w).part.state = s.part.state ∧
    (setWatch s p w).part.roster = s.part.roster ∧ (setWatch s p w).part.digest = s.part.digest ∧
    (setWatch s p w).port = s.port ∧ (setWatch s p w).counters = s.counters ∧
    (setWatch s p w).pending = s.pending := by
  unfold setWatch; simp

@[simp] theorem stopWatch_frame (s : State) (p : PlaceId) :
    (stopWatch s p).config = s.config ∧ (stopWatch s p).pins = s.pins ∧ (stopWatch s p).loop = s.loop ∧
    (stopWatch s p).gate = s.gate ∧ (stopWatch s p).line = s.line ∧ (stopWatch s p).view = s.view ∧
    (stopWatch s p).plans = s.plans ∧ (stopWatch s p).contest = s.contest ∧ (stopWatch s p).divert = s.divert ∧
    (stopWatch s p).staging = s.staging ∧ (stopWatch s p).part.state = s.part.state ∧
    (stopWatch s p).part.roster = s.part.roster ∧ (stopWatch s p).part.digest = s.part.digest ∧
    (stopWatch s p).port = s.port ∧ (stopWatch s p).counters = s.counters ∧ (stopWatch s p).pending = s.pending := by
  unfold stopWatch; (repeat' split) <;> simp

@[simp] theorem setPlaceState_frame (s : State) (p : PlaceId) (st : PlaceState) :
    (setPlaceState s p st).config = s.config ∧ (setPlaceState s p st).pins = s.pins ∧
    (setPlaceState s p st).loop = s.loop ∧ (setPlaceState s p st).gate = s.gate ∧
    (setPlaceState s p st).line = s.line ∧ (setPlaceState s p st).view = s.view ∧
    (setPlaceState s p st).contest = s.contest ∧ (setPlaceState s p st).divert = s.divert ∧
    (setPlaceState s p st).staging = s.staging ∧ (setPlaceState s p st).part = s.part ∧
    (setPlaceState s p st).port = s.port ∧ (setPlaceState s p st).counters = s.counters ∧
    (setPlaceState s p st).pending = s.pending := by
  unfold setPlaceState; simp

@[simp] theorem leaveBuildOrder_frame (s : State) (p : PlaceId) :
    (leaveBuildOrder s p).config = s.config ∧ (leaveBuildOrder s p).pins = s.pins ∧
    (leaveBuildOrder s p).loop = s.loop ∧ (leaveBuildOrder s p).gate = s.gate ∧ (leaveBuildOrder s p).line = s.line ∧
    (leaveBuildOrder s p).view = s.view ∧ (leaveBuildOrder s p).contest = s.contest ∧
    (leaveBuildOrder s p).divert = s.divert ∧ (leaveBuildOrder s p).staging = s.staging ∧
    (leaveBuildOrder s p).part = s.part ∧ (leaveBuildOrder s p).port = s.port ∧
    (leaveBuildOrder s p).counters = s.counters ∧ (leaveBuildOrder s p).pending = s.pending := by
  unfold leaveBuildOrder; simp

@[simp] theorem advanceTier_frame (s : State) (p : PlaceId) (t : Nat) :
    (advanceTier s p t).config = s.config ∧ (advanceTier s p t).pins = s.pins ∧ (advanceTier s p t).loop = s.loop ∧
    (advanceTier s p t).gate = s.gate ∧ (advanceTier s p t).line = s.line ∧ (advanceTier s p t).view = s.view ∧
    (advanceTier s p t).divert = s.divert ∧ (advanceTier s p t).part.state = s.part.state ∧
    (advanceTier s p t).part.roster = s.part.roster ∧ (advanceTier s p t).part.digest = s.part.digest ∧
    (advanceTier s p t).port.response = s.port.response ∧ (advanceTier s p t).port.transaction = s.port.transaction ∧
    (advanceTier s p t).counters = s.counters ∧ (advanceTier s p t).pending = s.pending := by
  unfold advanceTier; simp

@[simp] theorem completePlace_frame (s : State) (p : PlaceId) :
    (completePlace s p).config = s.config ∧ (completePlace s p).pins = s.pins ∧ (completePlace s p).loop = s.loop ∧
    (completePlace s p).gate = s.gate ∧ (completePlace s p).line = s.line ∧ (completePlace s p).view = s.view ∧
    (completePlace s p).contest = s.contest ∧ (completePlace s p).divert = s.divert ∧
    (completePlace s p).staging = s.staging ∧ (completePlace s p).part.state = s.part.state ∧
    (completePlace s p).part.roster = s.part.roster ∧ (completePlace s p).part.digest = s.part.digest ∧
    (completePlace s p).port.response = s.port.response ∧ (completePlace s p).port.transaction = s.port.transaction ∧
    (completePlace s p).counters = s.counters ∧ (completePlace s p).pending = s.pending := by
  unfold completePlace; simp

@[simp] theorem tierTest_frame (s : State) (p : PlaceId) :
    (tierTest s p).config = s.config ∧ (tierTest s p).pins = s.pins ∧ (tierTest s p).loop = s.loop ∧
    (tierTest s p).gate = s.gate ∧ (tierTest s p).line = s.line ∧ (tierTest s p).view = s.view ∧
    (tierTest s p).divert = s.divert ∧ (tierTest s p).part.state = s.part.state ∧
    (tierTest s p).part.roster = s.part.roster ∧ (tierTest s p).part.digest = s.part.digest ∧
    (tierTest s p).port.response = s.port.response ∧ (tierTest s p).port.transaction = s.port.transaction ∧
    (tierTest s p).counters = s.counters ∧ (tierTest s p).pending = s.pending := by
  unfold tierTest; (repeat' split) <;> simp

@[simp] theorem suspendPlace_frame (s : State) (p : PlaceId) :
    (suspendPlace s p).config = s.config ∧ (suspendPlace s p).pins = s.pins ∧ (suspendPlace s p).loop = s.loop ∧
    (suspendPlace s p).gate = s.gate ∧ (suspendPlace s p).line.state = s.line.state ∧
    (suspendPlace s p).line.rx = s.line.rx ∧ (suspendPlace s p).line.attempt = s.line.attempt ∧
    (suspendPlace s p).view = s.view ∧ (suspendPlace s p).divert = s.divert ∧
    (suspendPlace s p).part.state = s.part.state ∧ (suspendPlace s p).part.roster = s.part.roster ∧
    (suspendPlace s p).part.digest = s.part.digest ∧ (suspendPlace s p).port = s.port ∧
    (suspendPlace s p).pending = s.pending := by
  unfold suspendPlace; (repeat' split) <;> simp

@[simp] theorem cancelPlace_frame (s : State) (p : PlaceId) :
    (cancelPlace s p).config = s.config ∧ (cancelPlace s p).pins = s.pins ∧ (cancelPlace s p).loop = s.loop ∧
    (cancelPlace s p).gate = s.gate ∧ (cancelPlace s p).line.state = s.line.state ∧
    (cancelPlace s p).line.rx = s.line.rx ∧ (cancelPlace s p).line.attempt = s.line.attempt ∧
    (cancelPlace s p).view = s.view ∧ (cancelPlace s p).divert = s.divert ∧
    (cancelPlace s p).part.state = s.part.state ∧ (cancelPlace s p).part.roster = s.part.roster ∧
    (cancelPlace s p).part.digest = s.part.digest ∧ (cancelPlace s p).port.response = s.port.response ∧
    (cancelPlace s p).port.transaction = s.port.transaction ∧ (cancelPlace s p).pending = s.pending := by
  unfold cancelPlace; simp

@[simp] theorem setFire_frame (s : State) (f : Option Fire) :
    (setFire s f).config = s.config ∧ (setFire s f).pins = s.pins ∧ (setFire s f).loop = s.loop ∧
    (setFire s f).gate = s.gate ∧ (setFire s f).line = s.line ∧ (setFire s f).view = s.view ∧
    (setFire s f).plans = s.plans ∧ (setFire s f).contest = s.contest ∧ (setFire s f).staging = s.staging ∧
    (setFire s f).part = s.part ∧ (setFire s f).port = s.port ∧ (setFire s f).counters = s.counters ∧
    (setFire s f).pending = s.pending := by
  unfold setFire; simp

@[simp] theorem setOutput_frame (s : State) (on : Bool) :
    (setOutput s on).config = s.config ∧ (setOutput s on).pins = s.pins ∧ (setOutput s on).loop = s.loop ∧
    (setOutput s on).gate = s.gate ∧ (setOutput s on).line = s.line ∧ (setOutput s on).view = s.view ∧
    (setOutput s on).plans = s.plans ∧ (setOutput s on).contest = s.contest ∧ (setOutput s on).staging = s.staging ∧
    (setOutput s on).part = s.part ∧ (setOutput s on).port = s.port ∧ (setOutput s on).counters = s.counters ∧
    (setOutput s on).pending = s.pending := by
  unfold setOutput; simp

@[simp] theorem outcomeMissed_frame (s : State) (slot : Nat) :
    (outcomeMissed s slot).config = s.config ∧ (outcomeMissed s slot).pins = s.pins ∧
    (outcomeMissed s slot).loop = s.loop ∧ (outcomeMissed s slot).gate = s.gate ∧
    (outcomeMissed s slot).line.state = s.line.state ∧ (outcomeMissed s slot).line.rx = s.line.rx ∧
    (outcomeMissed s slot).line.attempt = s.line.attempt ∧ (outcomeMissed s slot).view = s.view ∧
    (outcomeMissed s slot).divert = s.divert ∧ (outcomeMissed s slot).staging = s.staging ∧
    (outcomeMissed s slot).part.state = s.part.state ∧ (outcomeMissed s slot).part.roster = s.part.roster ∧
    (outcomeMissed s slot).part.digest = s.part.digest ∧ (outcomeMissed s slot).port.response = s.port.response ∧
    (outcomeMissed s slot).port.transaction = s.port.transaction ∧ (outcomeMissed s slot).pending = s.pending := by
  unfold outcomeMissed; (repeat' split) <;> simp

@[simp] theorem outcomeTaken_frame (s : State) (slot : Nat) :
    (outcomeTaken s slot).config = s.config ∧ (outcomeTaken s slot).pins = s.pins ∧
    (outcomeTaken s slot).loop = s.loop ∧ (outcomeTaken s slot).gate = s.gate ∧
    (outcomeTaken s slot).line.state = s.line.state ∧ (outcomeTaken s slot).line.rx = s.line.rx ∧
    (outcomeTaken s slot).line.attempt = s.line.attempt ∧ (outcomeTaken s slot).view = s.view ∧
    (outcomeTaken s slot).divert = s.divert ∧ (outcomeTaken s slot).part.state = s.part.state ∧
    (outcomeTaken s slot).part.roster = s.part.roster ∧ (outcomeTaken s slot).part.digest = s.part.digest ∧
    (outcomeTaken s slot).port.response = s.port.response ∧
    (outcomeTaken s slot).port.transaction = s.port.transaction ∧ (outcomeTaken s slot).pending = s.pending := by
  unfold outcomeTaken; dsimp only; (repeat' split) <;> simp

@[simp] theorem closeMissed_frame (s : State) (f : Fire) :
    (closeMissed s f).config = s.config ∧ (closeMissed s f).pins = s.pins ∧ (closeMissed s f).loop = s.loop ∧
    (closeMissed s f).gate = s.gate ∧ (closeMissed s f).line.state = s.line.state ∧
    (closeMissed s f).line.rx = s.line.rx ∧ (closeMissed s f).line.attempt = s.line.attempt ∧
    (closeMissed s f).view = s.view ∧ (closeMissed s f).staging = s.staging ∧
    (closeMissed s f).part.state = s.part.state ∧ (closeMissed s f).part.roster = s.part.roster ∧
    (closeMissed s f).part.digest = s.part.digest ∧ (closeMissed s f).port.response = s.port.response ∧
    (closeMissed s f).port.transaction = s.port.transaction ∧ (closeMissed s f).pending = s.pending := by
  unfold closeMissed; simp

@[simp] theorem confirmTaken_frame (s : State) (f : Fire) :
    (confirmTaken s f).config = s.config ∧ (confirmTaken s f).pins = s.pins ∧ (confirmTaken s f).loop = s.loop ∧
    (confirmTaken s f).gate = s.gate ∧ (confirmTaken s f).line.state = s.line.state ∧
    (confirmTaken s f).line.rx = s.line.rx ∧ (confirmTaken s f).line.attempt = s.line.attempt ∧
    (confirmTaken s f).view = s.view ∧ (confirmTaken s f).part.state = s.part.state ∧
    (confirmTaken s f).part.roster = s.part.roster ∧ (confirmTaken s f).part.digest = s.part.digest ∧
    (confirmTaken s f).port.response = s.port.response ∧ (confirmTaken s f).port.transaction = s.port.transaction ∧
    (confirmTaken s f).pending = s.pending := by
  unfold confirmTaken; simp

@[simp] theorem discardFire_frame (s : State) :
    (discardFire s).config = s.config ∧ (discardFire s).pins = s.pins ∧ (discardFire s).loop = s.loop ∧
    (discardFire s).gate = s.gate ∧ (discardFire s).line = s.line ∧ (discardFire s).view = s.view ∧
    (discardFire s).plans = s.plans ∧ (discardFire s).contest = s.contest ∧ (discardFire s).staging = s.staging ∧
    (discardFire s).part = s.part ∧ (discardFire s).port = s.port ∧ (discardFire s).counters = s.counters ∧
    (discardFire s).pending = s.pending := by
  unfold discardFire; (repeat' split) <;> simp

@[simp] theorem closeEarlierFire_frame (s : State) :
    (closeEarlierFire s).config = s.config ∧ (closeEarlierFire s).pins = s.pins ∧ (closeEarlierFire s).loop = s.loop ∧
    (closeEarlierFire s).gate = s.gate ∧ (closeEarlierFire s).line.state = s.line.state ∧
    (closeEarlierFire s).line.rx = s.line.rx ∧ (closeEarlierFire s).line.attempt = s.line.attempt ∧
    (closeEarlierFire s).view = s.view ∧ (closeEarlierFire s).staging = s.staging ∧
    (closeEarlierFire s).part.state = s.part.state ∧ (closeEarlierFire s).part.roster = s.part.roster ∧
    (closeEarlierFire s).part.digest = s.part.digest ∧ (closeEarlierFire s).port.response = s.port.response ∧
    (closeEarlierFire s).port.transaction = s.port.transaction ∧ (closeEarlierFire s).pending = s.pending := by
  unfold closeEarlierFire; (repeat' split) <;> simp

@[simp] theorem fireClaim_frame (s : State) (c : Claim) :
    (fireClaim s c).config = s.config ∧ (fireClaim s c).pins = s.pins ∧ (fireClaim s c).loop = s.loop ∧
    (fireClaim s c).gate = s.gate ∧ (fireClaim s c).line.state = s.line.state ∧ (fireClaim s c).line.rx = s.line.rx ∧
    (fireClaim s c).line.attempt = s.line.attempt ∧ (fireClaim s c).view = s.view ∧
    (fireClaim s c).staging = s.staging ∧ (fireClaim s c).part.state = s.part.state ∧
    (fireClaim s c).part.roster = s.part.roster ∧ (fireClaim s c).part.digest = s.part.digest ∧
    (fireClaim s c).port.response = s.port.response ∧ (fireClaim s c).port.transaction = s.port.transaction ∧
    (fireClaim s c).pending = s.pending := by
  unfold fireClaim; simp

@[simp] theorem fireReached_frame (s : State) (reached : Nat → Bool) :
    (fireReached s reached).config = s.config ∧ (fireReached s reached).pins = s.pins ∧
    (fireReached s reached).loop = s.loop ∧ (fireReached s reached).gate = s.gate ∧
    (fireReached s reached).line.state = s.line.state ∧ (fireReached s reached).line.rx = s.line.rx ∧
    (fireReached s reached).line.attempt = s.line.attempt ∧ (fireReached s reached).view = s.view ∧
    (fireReached s reached).staging = s.staging ∧ (fireReached s reached).part.state = s.part.state ∧
    (fireReached s reached).part.roster = s.part.roster ∧ (fireReached s reached).part.digest = s.part.digest ∧
    (fireReached s reached).port.response = s.port.response ∧
    (fireReached s reached).port.transaction = s.port.transaction ∧ (fireReached s reached).pending = s.pending := by
  unfold fireReached; (repeat' split) <;> simp

@[simp] theorem moveTo_frame (s : State) (st : Participation) :
    (moveTo s st).config = s.config ∧ (moveTo s st).pins = s.pins ∧ (moveTo s st).loop = s.loop ∧
    (moveTo s st).gate = s.gate ∧ (moveTo s st).line = s.line ∧ (moveTo s st).view = s.view ∧
    (moveTo s st).plans = s.plans ∧ (moveTo s st).contest = s.contest ∧ (moveTo s st).divert = s.divert ∧
    (moveTo s st).staging = s.staging ∧ (moveTo s st).part.roster = s.part.roster ∧
    (moveTo s st).part.digest = s.part.digest ∧ (moveTo s st).port.response = s.port.response ∧
    (moveTo s st).port.transaction = s.port.transaction ∧ (moveTo s st).counters = s.counters ∧
    (moveTo s st).pending = s.pending := by
  unfold moveTo; (repeat' split) <;> simp

@[simp] theorem enterListening_frame (s : State) :
    (enterListening s).config = s.config ∧ (enterListening s).pins = s.pins ∧ (enterListening s).loop = s.loop ∧
    (enterListening s).gate = s.gate ∧ (enterListening s).line.state = s.line.state ∧
    (enterListening s).line.rx = s.line.rx ∧ (enterListening s).line.attempt = s.line.attempt ∧
    (enterListening s).view = s.view ∧ (enterListening s).plans = s.plans ∧ (enterListening s).contest = s.contest ∧
    (enterListening s).divert = s.divert ∧ (enterListening s).staging = s.staging ∧
    (enterListening s).part.roster = s.part.roster ∧ (enterListening s).part.digest = s.part.digest ∧
    (enterListening s).port.response = s.port.response ∧ (enterListening s).port.transaction = s.port.transaction ∧
    (enterListening s).pending = s.pending := by
  unfold enterListening; simp

@[simp] theorem orderlyWithdraw_frame (s : State) (reason : Nat) :
    (orderlyWithdraw s reason).config = s.config ∧ (orderlyWithdraw s reason).pins = s.pins ∧
    (orderlyWithdraw s reason).loop = s.loop ∧ (orderlyWithdraw s reason).gate = s.gate ∧
    (orderlyWithdraw s reason).line.state = s.line.state ∧ (orderlyWithdraw s reason).line.rx = s.line.rx ∧
    (orderlyWithdraw s reason).line.attempt = s.line.attempt ∧ (orderlyWithdraw s reason).view = s.view ∧
    (orderlyWithdraw s reason).divert = s.divert ∧ (orderlyWithdraw s reason).staging = s.staging ∧
    (orderlyWithdraw s reason).part.roster = s.part.roster ∧ (orderlyWithdraw s reason).part.digest = s.part.digest ∧
    (orderlyWithdraw s reason).port.response = s.port.response ∧
    (orderlyWithdraw s reason).port.transaction = s.port.transaction ∧
    (orderlyWithdraw s reason).pending = s.pending := by
  unfold orderlyWithdraw; (repeat' split) <;> simp

@[simp] theorem stopDivert_frame (s : State) :
    (stopDivert s).config = s.config ∧ (stopDivert s).pins = s.pins ∧ (stopDivert s).loop = s.loop ∧
    (stopDivert s).gate = s.gate ∧ (stopDivert s).line = s.line ∧ (stopDivert s).view = s.view ∧
    (stopDivert s).plans = s.plans ∧ (stopDivert s).contest = s.contest ∧ (stopDivert s).staging = s.staging ∧
    (stopDivert s).part.state = s.part.state ∧ (stopDivert s).part.roster = s.part.roster ∧
    (stopDivert s).part.digest = s.part.digest ∧ (stopDivert s).port.response = s.port.response ∧
    (stopDivert s).port.transaction = s.port.transaction ∧ (stopDivert s).pending = s.pending := by
  unfold stopDivert; dsimp only; (repeat' split) <;> simp

@[simp] theorem emptyView_frame (s : State) :
    (emptyView s).config = s.config ∧ (emptyView s).pins = s.pins ∧ (emptyView s).loop = s.loop ∧
    (emptyView s).gate = s.gate ∧ (emptyView s).line = s.line ∧ (emptyView s).plans = s.plans ∧
    (emptyView s).contest = s.contest ∧ (emptyView s).divert = s.divert ∧ (emptyView s).staging = s.staging ∧
    (emptyView s).part = s.part ∧ (emptyView s).port = s.port ∧ (emptyView s).counters = s.counters ∧
    (emptyView s).pending = s.pending := by
  unfold emptyView; simp

@[simp] theorem immediateWithdraw_frame (s : State) (code : Nat) :
    (immediateWithdraw s code).config = s.config ∧ (immediateWithdraw s code).pins = s.pins ∧
    (immediateWithdraw s code).loop = s.loop ∧ (immediateWithdraw s code).gate = s.gate ∧
    (immediateWithdraw s code).line.state = s.line.state ∧ (immediateWithdraw s code).line.rx = s.line.rx ∧
    (immediateWithdraw s code).line.attempt = s.line.attempt ∧ (immediateWithdraw s code).staging = s.staging ∧
    (immediateWithdraw s code).part.roster = s.part.roster ∧ (immediateWithdraw s code).part.digest = s.part.digest ∧
    (immediateWithdraw s code).port.response = s.port.response ∧
    (immediateWithdraw s code).port.transaction = s.port.transaction ∧
    (immediateWithdraw s code).pending = s.pending := by
  unfold immediateWithdraw; simp

@[simp] theorem raiseImmediate_frame (s : State) (f : FaultId) :
    (raiseImmediate s f).config = s.config ∧ (raiseImmediate s f).pins = s.pins ∧ (raiseImmediate s f).loop = s.loop ∧
    (raiseImmediate s f).gate = s.gate ∧ (raiseImmediate s f).line.state = s.line.state ∧
    (raiseImmediate s f).line.rx = s.line.rx ∧ (raiseImmediate s f).line.attempt = s.line.attempt ∧
    (raiseImmediate s f).staging = s.staging ∧ (raiseImmediate s f).part.roster = s.part.roster ∧
    (raiseImmediate s f).part.digest = s.part.digest ∧ (raiseImmediate s f).port.response = s.port.response ∧
    (raiseImmediate s f).port.transaction = s.port.transaction ∧ (raiseImmediate s f).pending = s.pending := by
  unfold raiseImmediate; simp

@[simp] theorem raiseSlip_frame (s : State) (c : SlipCause) :
    (raiseSlip s c).config = s.config ∧ (raiseSlip s c).pins = s.pins ∧ (raiseSlip s c).loop = s.loop ∧
    (raiseSlip s c).gate = s.gate ∧ (raiseSlip s c).line.state = s.line.state ∧ (raiseSlip s c).line.rx = s.line.rx ∧
    (raiseSlip s c).line.attempt = s.line.attempt ∧ (raiseSlip s c).staging = s.staging ∧
    (raiseSlip s c).part.roster = s.part.roster ∧ (raiseSlip s c).part.digest = s.part.digest ∧
    (raiseSlip s c).port.response = s.port.response ∧ (raiseSlip s c).port.transaction = s.port.transaction ∧
    (raiseSlip s c).pending = s.pending := by
  unfold raiseSlip; simp

@[simp] theorem raiseCfgMismatch_frame (s : State) :
    (raiseCfgMismatch s).config = s.config ∧ (raiseCfgMismatch s).pins = s.pins ∧ (raiseCfgMismatch s).loop = s.loop ∧
    (raiseCfgMismatch s).gate = s.gate ∧ (raiseCfgMismatch s).line.state = s.line.state ∧
    (raiseCfgMismatch s).line.rx = s.line.rx ∧ (raiseCfgMismatch s).line.attempt = s.line.attempt ∧
    (raiseCfgMismatch s).view = s.view ∧ (raiseCfgMismatch s).divert = s.divert ∧
    (raiseCfgMismatch s).staging = s.staging ∧ (raiseCfgMismatch s).part.roster = s.part.roster ∧
    (raiseCfgMismatch s).part.digest = s.part.digest ∧ (raiseCfgMismatch s).port.response = s.port.response ∧
    (raiseCfgMismatch s).port.transaction = s.port.transaction ∧ (raiseCfgMismatch s).pending = s.pending := by
  unfold raiseCfgMismatch; simp

@[simp] theorem watchdogViolation_frame (s : State) :
    (watchdogViolation s).config = s.config ∧ (watchdogViolation s).pins = s.pins ∧
    (watchdogViolation s).loop = s.loop ∧ (watchdogViolation s).gate = s.gate ∧
    (watchdogViolation s).line.state = s.line.state ∧ (watchdogViolation s).line.rx = s.line.rx ∧
    (watchdogViolation s).line.attempt = s.line.attempt ∧ (watchdogViolation s).view = s.view ∧
    (watchdogViolation s).divert = s.divert ∧ (watchdogViolation s).staging = s.staging ∧
    (watchdogViolation s).part.roster = s.part.roster ∧ (watchdogViolation s).part.digest = s.part.digest ∧
    (watchdogViolation s).port.response = s.port.response ∧
    (watchdogViolation s).port.transaction = s.port.transaction ∧ (watchdogViolation s).pending = s.pending := by
  unfold watchdogViolation; dsimp only; (repeat' split) <;> simp

@[simp] theorem raisePlaceNotReady_frame (s : State) (p : PlaceId) :
    (raisePlaceNotReady s p).config = s.config ∧ (raisePlaceNotReady s p).pins = s.pins ∧
    (raisePlaceNotReady s p).loop = s.loop ∧ (raisePlaceNotReady s p).gate = s.gate ∧
    (raisePlaceNotReady s p).line.state = s.line.state ∧ (raisePlaceNotReady s p).line.rx = s.line.rx ∧
    (raisePlaceNotReady s p).line.attempt = s.line.attempt ∧ (raisePlaceNotReady s p).view = s.view ∧
    (raisePlaceNotReady s p).divert = s.divert ∧ (raisePlaceNotReady s p).part.roster = s.part.roster ∧
    (raisePlaceNotReady s p).part.digest = s.part.digest ∧ (raisePlaceNotReady s p).port.response = s.port.response ∧
    (raisePlaceNotReady s p).port.transaction = s.port.transaction ∧ (raisePlaceNotReady s p).pending = s.pending := by
  unfold raisePlaceNotReady; dsimp only; (repeat' split) <;> simp

@[simp] theorem startWatch_frame (s : State) (p : PlaceId) :
    (startWatch s p).config = s.config ∧ (startWatch s p).pins = s.pins ∧ (startWatch s p).loop = s.loop ∧
    (startWatch s p).gate = s.gate ∧ (startWatch s p).line.state = s.line.state ∧
    (startWatch s p).line.rx = s.line.rx ∧ (startWatch s p).line.attempt = s.line.attempt ∧
    (startWatch s p).view = s.view ∧ (startWatch s p).divert = s.divert ∧
    (startWatch s p).part.roster = s.part.roster ∧ (startWatch s p).part.digest = s.part.digest ∧
    (startWatch s p).port.response = s.port.response ∧ (startWatch s p).port.transaction = s.port.transaction ∧
    (startWatch s p).pending = s.pending := by
  unfold startWatch; (repeat' split) <;> simp

@[simp] theorem resumePlace_frame (s : State) (p : PlaceId) :
    (resumePlace s p).config = s.config ∧ (resumePlace s p).pins = s.pins ∧ (resumePlace s p).loop = s.loop ∧
    (resumePlace s p).gate = s.gate ∧ (resumePlace s p).line.state = s.line.state ∧
    (resumePlace s p).line.rx = s.line.rx ∧ (resumePlace s p).line.attempt = s.line.attempt ∧
    (resumePlace s p).view = s.view ∧ (resumePlace s p).divert = s.divert ∧
    (resumePlace s p).part.roster = s.part.roster ∧ (resumePlace s p).part.digest = s.part.digest ∧
    (resumePlace s p).port.response = s.port.response ∧ (resumePlace s p).port.transaction = s.port.transaction ∧
    (resumePlace s p).pending = s.pending := by
  unfold resumePlace; dsimp only; (repeat' split) <;> simp

@[simp] theorem resumeAll_frame (s : State) :
    (resumeAll s).config = s.config ∧ (resumeAll s).pins = s.pins ∧ (resumeAll s).loop = s.loop ∧
    (resumeAll s).gate = s.gate ∧ (resumeAll s).line.state = s.line.state ∧ (resumeAll s).line.rx = s.line.rx ∧
    (resumeAll s).line.attempt = s.line.attempt ∧ (resumeAll s).view = s.view ∧ (resumeAll s).divert = s.divert ∧
    (resumeAll s).part.roster = s.part.roster ∧ (resumeAll s).part.digest = s.part.digest ∧
    (resumeAll s).port.response = s.port.response ∧ (resumeAll s).port.transaction = s.port.transaction ∧
    (resumeAll s).pending = s.pending := by
  unfold resumeAll; simp

/-- With no reason to search met, the end of an event changes nothing (R104). -/
theorem runSearch_quiet {s : State} (h : s.contest.searchDue = false) : runSearch s = s := by
  have hc : ({ s.contest with searchDue := false } : ContestUnit) = s.contest := by rw [← h]
  simp only [runSearch, h, hc, Bool.false_eq_true, false_and, if_false, State.setContest]

/-- A station that is not ACTIVE makes no search: only the mark of the event is cleared (R104). -/
theorem runSearch_inactive {s : State} (h : s.part.state ≠ .active) :
    runSearch s = s.setContest { s.contest with searchDue := false } := by
  simp [runSearch, h]

end Sys2Proof.Laws
end

