-- ==== Sys2Proof/Laws/Idle.lean ====
section
/-! SUPPORT. In START: the replacements that keep every block at rest, and the operations that then change nothing. -/

namespace Sys2Proof.Laws

open Sys2Proof.Machine Sys2Proof.Safety

variable {s : State}

theorem idle_setPort (h : Idle s) {x : CellPort} (hn : x.notices = []) (ha : x.attn = false) : Idle (s.setPort x) :=
  ⟨h.lane, h.loop, h.gate, h.line, h.view, h.plans, h.contest, h.divert, h.staging, h.part, hn, ha, h.counters⟩
theorem idle_setPins (h : Idle s) (x : Pins) : Idle (s.setPins x) :=
  ⟨h.lane, h.loop, h.gate, h.line, h.view, h.plans, h.contest, h.divert, h.staging, h.part, h.notices, h.attn, h.counters⟩
theorem idle_setCounters (h : Idle s) {x} (hx : counterLaw x) : Idle (s.setCounters x) :=
  ⟨h.lane, h.loop, h.gate, h.line, h.view, h.plans, h.contest, h.divert, h.staging, h.part, h.notices, h.attn, hx⟩
theorem idle_setPending (h : Idle s) (x) : Idle (s.setPending x) :=
  ⟨h.lane, h.loop, h.gate, h.line, h.view, h.plans, h.contest, h.divert, h.staging, h.part, h.notices, h.attn, h.counters⟩
theorem idle_setConfig (h : Idle s) {x : Configuration} (hx : (x.own.map (·.staging)).getD 0 ≤ 12) : Idle (s.setConfig x) :=
  ⟨hx, h.loop, h.gate, h.line, h.view, h.plans, h.contest, h.divert, h.staging, h.part, h.notices, h.attn, h.counters⟩
theorem idle_respond (h : Idle s) (r : Result) (d) : Idle (respond s r d) := idle_setPort h h.notices h.attn
theorem idle_answer (h : Idle s) (r : Result) : Idle (answer s r) := idle_respond h r 0
theorem idle_state (h : Idle s) : s.part.state = .start := by rw [h.part]; rfl
theorem not_started (h : Idle s) : s.started = false := by unfold State.started; rw [idle_state h]; rfl

theorem idle_afterGo (h : Idle s) (r) : Idle (afterGo s r) := by
  unfold afterGo; rw [if_pos (idle_state h)]; exact idle_answer h _
theorem running_afterGo (h : Running s) {r} (hr : Running r) : Running (afterGo s r) := by
  unfold afterGo; rw [if_neg h.started]; exact hr

theorem idle_runSearch (h : Idle s) : runSearch s = s := by
  unfold runSearch
  dsimp only
  rw [if_neg (by rw [h.contest]; simp [ContestUnit.reset])]
  have : ({ s.contest with searchDue := false } : ContestUnit) = s.contest := by rw [h.contest]; rfl
  rw [this]; rfl

theorem idle_watch (h : Idle s) (p : PlaceId) : s.watch p = ⟨.unwatched, 0⟩ := by
  unfold State.watch; rw [h.part]; revert p; decide
theorem idle_fault (h : Idle s) (f : FaultId) : s.fault f = ⟨false, false, false⟩ := by
  unfold State.fault; rw [h.part]; have : ∀ i : Fin 13, FaultUnit.reset.faults[i] = ⟨false, false, false⟩ := by decide
  exact this _

theorem idle_elapse (h : Idle s) (ms : Nat) : elapse s ms = s := by
  have h1 : ({ s.loop with stopTimer := s.loop.stopTimer.map (advance s.timing.stopTime ms) } : LoopTracker) = s.loop := by
    rw [h.loop]; rfl
  have h2 : ({ s.divert with jamTimer := s.divert.jamTimer.map (advance s.timing.jamTime ms) } : DivertUnit) = s.divert := by
    rw [h.divert]; rfl
  have h5 : ({ s.line with stuckTimer := s.line.stuckTimer.map (advance Config.stuckLimit ms) } : HallLine) = s.line := by
    rw [h.line]; rfl
  have h3 : s.gate.report = [] := by rw [h.gate]; rfl
  unfold elapse
  dsimp only
  rw [if_pos h3, h1, h2, h5]
  have h4 : ({ s.part with
    watches := #v[s.part.watches[0].elapse s.timing.placeDeglitch ms, s.part.watches[1].elapse s.timing.placeDeglitch ms, s.part.watches[2].elapse s.timing.placeDeglitch ms,
      s.part.watches[3].elapse s.timing.placeDeglitch ms]
    watchdogTimer := if s.part.watchdog = .running then advance s.policy.upper ms s.part.watchdogTimer
      else s.part.watchdogTimer } : FaultUnit) = s.part := by rw [h.part]; rfl
  rw [h4]; rfl

theorem idle_tick (h : Idle s) : tick s = s := by
  have a : stopDue s = false := by unfold stopDue; rw [h.loop]; rfl
  have b : gapDue s = false := by unfold gapDue; rw [h.gate]; rfl
  have c : jamDue s = false := by unfold jamDue; rw [h.divert]; rfl
  have d : ∀ p, placeDue s p = false := by intro p; unfold placeDue; rw [idle_watch h]; rfl
  have e : watchdogDue s = false := by unfold watchdogDue; rw [h.part]; rfl
  have f : stuckNext s = false := by unfold stuckNext mayStick; rw [h.line]; rfl
  unfold tick
  simp [whenDue, f, idle_elapse h, a, b, c, d, e, allPlaces]

theorem setFault_self (s : State) (f : FaultId) {e} (he : s.fault f = e) : setFault s f e = s := by
  subst he
  unfold setFault State.fault
  simp
  rfl

theorem idle_show (h : Idle s) : showFaults s = s := by
  unfold showFaults
  have : ∀ l : List FaultId, l.foldl showEntry s = s := by
    intro l; induction l with
    | nil => rfl
    | cons f l ih => 
      rw [List.foldl_cons]
      have : showEntry s f = s := setFault_self s f (by rw [idle_fault h])
      rw [this, ih]
  exact this _

theorem idle_clear (h : Idle s) : clearFaults s = s := by
  have h1 : ∀ l : List FaultId, l.foldl clearEntry s = s := by
    intro l; induction l with
    | nil => rfl
    | cons f l ih => 
      rw [List.foldl_cons]
      have : clearEntry s f = s := setFault_self s f (by rw [idle_fault h]; rfl)
      rw [this, ih]
  have h2 : s.clearableFaults = [] := by
    unfold State.clearableFaults
    rw [List.filter_eq_nil_iff]
    intro f _
    unfold State.clearable; rw [idle_fault h]; simp
  unfold clearFaults clearEffects clearRecord
  rw [h1, h2]
  split
  · split <;> exact idle_runSearch h
  · simp [idle_runSearch h]

theorem idle_reset (c : Vector Counter 4) (hc : counterLaw c) (p : Pins) (q : List Instr) :
   Idle (((State.reset.setPins p).setCounters c).setPending q) :=
  ⟨Nat.zero_le _, rfl, rfl, rfl, rfl, rfl, rfl, rfl, rfl, rfl, rfl, rfl, hc⟩

theorem idle_configure (h : Idle s) (b : Bool) (c : Configuration) (hc : b = true → (c.own.map (·.staging)).getD 0 ≤ 12) : Idle (configure s b c) := by
  unfold configure
  rw [if_neg (by simp [idle_state h])]
  split
  · exact idle_answer (idle_setConfig h (hc ‹_›)) _
  · exact idle_answer h _

theorem own_lane (h : Idle s) : (s.config.own.map (·.staging)).getD 0 ≤ 12 := h.lane

end Sys2Proof.Laws
end

