-- ==== Sys2Proof/WellFormed.lean ====
section
/-! DEFINITION. Which commands can be given: the checks on operands that their types do not make. -/

namespace Sys2Proof

/-- The checks on a command's operands, each read from the rule of its row. The parameters of the cell port's
commands have their widths by their types (R181). -/
def Instr.wellFormed : Instr → Bool
  | .scannerReport chars => decide (1 ≤ chars.length) && decide (chars.length ≤ 6)
  | .frameReceived bytes _ => decide (1 ≤ bytes.length) && decide (bytes.length ≤ frameDataLength (frameKind bytes) + 1)
  | .arbitrationEnd read => decide (1 ≤ read.length) && decide (read.length ≤ 3)
  | .transactionIncomplete bits => decide (bits ≠ 128)
  | .checkError frame => decide (frame.length = 16) && !commandCheckOk frame
  | .unknownCommand code => (decodeCommand [code]).isNone
  | .readStagingSummary mode => decide (2 ≤ mode.toNat)
  | .powerOnReset | .forwardPulse | .reversePulse | .indexMark | .loopStopped | .gateEyeRise | .gateEyeFall
  | .gateEdgeAccepted | .gateCleared | .edgeExpired | .reportGapTimeout | .lineFree | .sendAttempt
  | .frameEnd _ _ | .heldOwnFrameEnters | .lineStuck | .lineStuckEnd | .frameHandled | .dwellEnd | .windowClosedMissed
  | .confirmEyeRise | .confirmEyeFall | .confirmEdge | .confirmCleared | .divertJam | .placeReadyRise _
  | .placeReadyFall _ | .placeReadyTimer _ | .watchdogExpiry | .transactionStart | .nop | .keepalive | .clearFaults
  | .armWatchdog | .hallSize _ _ | .stationEntry _ _ _ | .ownSetup _ _ _ _ | .timing _ | .faultPolicy _ _ _ _ _ | .go
  | .withdraw | .rejoin | .restart | .openPlan _ _ _ | .addLine _ _ _ _ | .commitPlan | .abandonPlan | .cancelPallet _
  | .releasePallet _ | .placed _ | .removeCase _ _ | .acceptSuspect _ | .readNotice | .readPallet _ | .readLine _ _ _
  | .readStagingByArrival _ | .readStagingByIndex _ | .readClaims _ | .readView _ | .readRoster _ | .readFaults
  | .setCounter _ _ _ _ | .readCounter _ | .startBitBegins | .scannerCharacter _ => true

end Sys2Proof
end

