-- ==== Sys2Proof/Laws/PerInstr.lean ====
section
/-! SUPPORT. What is true of each command as syntax: which commands a transaction of the cell port can stand for, and that they are well-formed. -/

namespace Sys2Proof.Laws

/-- The commands that the end of a transaction stands for: those of R181, and the three of R178. -/
def endsTransaction : Instr → Bool
  | .powerOnReset | .forwardPulse | .reversePulse | .indexMark | .loopStopped | .gateEyeRise | .gateEyeFall
  | .gateEdgeAccepted | .gateCleared | .edgeExpired | .scannerReport _ | .reportGapTimeout | .lineFree
  | .sendAttempt | .arbitrationEnd _ | .frameReceived _ _ | .frameEnd _ _ | .heldOwnFrameEnters | .lineStuck
  | .lineStuckEnd | .frameHandled | .dwellEnd | .windowClosedMissed | .confirmEyeRise | .confirmEyeFall
  | .confirmEdge | .confirmCleared | .divertJam | .placeReadyRise _ | .placeReadyFall _ | .placeReadyTimer _
  | .watchdogExpiry | .transactionStart | .startBitBegins | .scannerCharacter _ => false
  | .transactionIncomplete _ | .checkError _ | .unknownCommand _ | .nop | .keepalive | .clearFaults
  | .armWatchdog | .hallSize _ _ | .stationEntry _ _ _ | .ownSetup _ _ _ _ | .timing _ | .faultPolicy _ _ _ _ _
  | .go | .withdraw | .rejoin | .restart | .openPlan _ _ _ | .addLine _ _ _ _ | .commitPlan | .abandonPlan
  | .cancelPallet _ | .releasePallet _ | .placed _ | .removeCase _ _ | .acceptSuspect _ | .readNotice
  | .readPallet _ | .readLine _ _ _ | .readStagingByArrival _ | .readStagingByIndex _ | .readStagingSummary _
  | .readClaims _ | .readView _ | .readRoster _ | .readFaults | .setCounter _ _ _ _ | .readCounter _ => true

/-- A command that the bytes of a transaction stand for (R176, R178) is one of the cell port's, and is well-formed. -/
def CommandFrame.Statement (i : Instr) : Prop :=
  ∀ f : List Byte, decodeCommandFrame f = i → endsTransaction i = true ∧ i.wellFormed = true

/-- A code that is in the table of R181 decodes whatever the other bytes are. -/
theorem decodeCommand_isSome_head (f : List Byte) :
    (decodeCommand f).isSome = (decodeCommand [f.headD 0]).isSome := by
  unfold decodeCommand
  simp only [List.headD_cons]
  split <;> rfl

theorem decodeReadStaging_law (m : Byte) (v : BitVec 16) :
    endsTransaction (decodeReadStaging m v) = true ∧ (decodeReadStaging m v).wellFormed = true := by
  unfold decodeReadStaging
  split
  · exact ⟨rfl, rfl⟩
  · split
    · exact ⟨rfl, rfl⟩
    · rename_i h0 h1
      refine ⟨rfl, decide_eq_true ?_⟩
      have h0' : m.toNat ≠ 0 := fun h => h0 (BitVec.eq_of_toNat_eq (by simpa using h))
      have h1' : m.toNat ≠ 1 := fun h => h1 (BitVec.eq_of_toNat_eq (by simpa using h))
      omega

theorem decodeCommand_law (f : List Byte) (i : Instr) (h : decodeCommand f = some i) :
    endsTransaction i = true ∧ i.wellFormed = true := by
  unfold decodeCommand at h
  split at h
  all_goals first
    | (rw [Option.some.injEq] at h; subst h; first | exact ⟨rfl, rfl⟩ | exact decodeReadStaging_law _ _)
    | exact absurd h (by simp)

/-- The law of every command, from which each constructor's follows. -/
theorem commandFrame_law (i : Instr) : CommandFrame.Statement i := by
  intro f h
  subst h
  unfold decodeCommandFrame
  split
  · exact ⟨rfl, decide_eq_true (by omega)⟩
  · rename_i hl
    split
    · rename_i hc
      refine ⟨rfl, ?_⟩
      simp only [Instr.wellFormed, hc, Bool.and_eq_true, decide_eq_true_eq]
      exact ⟨by omega, rfl⟩
    · cases hd : decodeCommand f with
      | some i => exact decodeCommand_law f i hd
      | none =>
        refine ⟨rfl, ?_⟩
        have := decodeCommand_isSome_head f
        rw [hd] at this
        simp only [Option.getD_none, Instr.wellFormed]
        exact Option.isNone_iff_eq_none.2 (Option.not_isSome_iff_eq_none.1 (by rw [← this]; simp))

theorem CommandFrame.powerOnReset : CommandFrame.Statement (.powerOnReset) := commandFrame_law _
theorem CommandFrame.forwardPulse : CommandFrame.Statement (.forwardPulse) := commandFrame_law _
theorem CommandFrame.reversePulse : CommandFrame.Statement (.reversePulse) := commandFrame_law _
theorem CommandFrame.indexMark : CommandFrame.Statement (.indexMark) := commandFrame_law _
theorem CommandFrame.loopStopped : CommandFrame.Statement (.loopStopped) := commandFrame_law _
theorem CommandFrame.gateEyeRise : CommandFrame.Statement (.gateEyeRise) := commandFrame_law _
theorem CommandFrame.gateEyeFall : CommandFrame.Statement (.gateEyeFall) := commandFrame_law _
theorem CommandFrame.gateEdgeAccepted : CommandFrame.Statement (.gateEdgeAccepted) := commandFrame_law _
theorem CommandFrame.gateCleared : CommandFrame.Statement (.gateCleared) := commandFrame_law _
theorem CommandFrame.edgeExpired : CommandFrame.Statement (.edgeExpired) := commandFrame_law _
theorem CommandFrame.scannerReport (chars : List ScanChar) : CommandFrame.Statement (.scannerReport chars) := commandFrame_law _
theorem CommandFrame.reportGapTimeout : CommandFrame.Statement (.reportGapTimeout) := commandFrame_law _
theorem CommandFrame.lineFree : CommandFrame.Statement (.lineFree) := commandFrame_law _
theorem CommandFrame.sendAttempt : CommandFrame.Statement (.sendAttempt) := commandFrame_law _
theorem CommandFrame.arbitrationEnd (read : List Byte) : CommandFrame.Statement (.arbitrationEnd read) := commandFrame_law _
theorem CommandFrame.frameReceived (bytes : List Byte) (lengthError : Bool) : CommandFrame.Statement (.frameReceived bytes lengthError) := commandFrame_law _
theorem CommandFrame.frameEnd (accept refuse : Bool) : CommandFrame.Statement (.frameEnd accept refuse) := commandFrame_law _
theorem CommandFrame.heldOwnFrameEnters : CommandFrame.Statement (.heldOwnFrameEnters) := commandFrame_law _
theorem CommandFrame.lineStuck : CommandFrame.Statement (.lineStuck) := commandFrame_law _
theorem CommandFrame.lineStuckEnd : CommandFrame.Statement (.lineStuckEnd) := commandFrame_law _
theorem CommandFrame.frameHandled : CommandFrame.Statement (.frameHandled) := commandFrame_law _
theorem CommandFrame.dwellEnd : CommandFrame.Statement (.dwellEnd) := commandFrame_law _
theorem CommandFrame.windowClosedMissed : CommandFrame.Statement (.windowClosedMissed) := commandFrame_law _
theorem CommandFrame.confirmEyeRise : CommandFrame.Statement (.confirmEyeRise) := commandFrame_law _
theorem CommandFrame.confirmEyeFall : CommandFrame.Statement (.confirmEyeFall) := commandFrame_law _
theorem CommandFrame.confirmEdge : CommandFrame.Statement (.confirmEdge) := commandFrame_law _
theorem CommandFrame.confirmCleared : CommandFrame.Statement (.confirmCleared) := commandFrame_law _
theorem CommandFrame.divertJam : CommandFrame.Statement (.divertJam) := commandFrame_law _
theorem CommandFrame.placeReadyRise (p : Fin 4) : CommandFrame.Statement (.placeReadyRise p) := commandFrame_law _
theorem CommandFrame.placeReadyFall (p : Fin 4) : CommandFrame.Statement (.placeReadyFall p) := commandFrame_law _
theorem CommandFrame.placeReadyTimer (p : Fin 4) : CommandFrame.Statement (.placeReadyTimer p) := commandFrame_law _
theorem CommandFrame.watchdogExpiry : CommandFrame.Statement (.watchdogExpiry) := commandFrame_law _
theorem CommandFrame.transactionStart : CommandFrame.Statement (.transactionStart) := commandFrame_law _
theorem CommandFrame.transactionIncomplete (bits : Nat) : CommandFrame.Statement (.transactionIncomplete bits) := commandFrame_law _
theorem CommandFrame.checkError (frame : List Byte) : CommandFrame.Statement (.checkError frame) := commandFrame_law _
theorem CommandFrame.unknownCommand (code : Byte) : CommandFrame.Statement (.unknownCommand code) := commandFrame_law _
theorem CommandFrame.nop : CommandFrame.Statement (.nop) := commandFrame_law _
theorem CommandFrame.keepalive : CommandFrame.Statement (.keepalive) := commandFrame_law _
theorem CommandFrame.clearFaults : CommandFrame.Statement (.clearFaults) := commandFrame_law _
theorem CommandFrame.armWatchdog : CommandFrame.Statement (.armWatchdog) := commandFrame_law _
theorem CommandFrame.hallSize (slots : BitVec 10) (pitch : BitVec 11) : CommandFrame.Statement (.hallSize slots pitch) := commandFrame_law _
theorem CommandFrame.stationEntry (id : BitVec 4) (gate : BitVec 19) (divert : BitVec 19) : CommandFrame.Statement (.stationEntry id gate divert) := commandFrame_law _
theorem CommandFrame.ownSetup (id : BitVec 4) (forms : BitVec 6) (staging : BitVec 4) (reserve : BitVec 4) : CommandFrame.Statement (.ownSetup id forms staging reserve) := commandFrame_law _
theorem CommandFrame.timing (t : TimingParams) : CommandFrame.Statement (.timing t) := commandFrame_law _
theorem CommandFrame.faultPolicy (scope : BitVec 1) (recovery : BitVec 1) (mode : BitVec 2) (lower : BitVec 10) (upper : BitVec 13) : CommandFrame.Statement (.faultPolicy scope recovery mode lower upper) := commandFrame_law _
theorem CommandFrame.go : CommandFrame.Statement (.go) := commandFrame_law _
theorem CommandFrame.withdraw : CommandFrame.Statement (.withdraw) := commandFrame_law _
theorem CommandFrame.rejoin : CommandFrame.Statement (.rejoin) := commandFrame_law _
theorem CommandFrame.restart : CommandFrame.Statement (.restart) := commandFrame_law _
theorem CommandFrame.openPlan (place : BitVec 8) (orderRef : BitVec 32) (tierCount : BitVec 8) : CommandFrame.Statement (.openPlan place orderRef tierCount) := commandFrame_law _
theorem CommandFrame.addLine (tier : BitVec 8) (article : BitVec 24) (form : BitVec 8) (quantity : BitVec 8) : CommandFrame.Statement (.addLine tier article form quantity) := commandFrame_law _
theorem CommandFrame.commitPlan : CommandFrame.Statement (.commitPlan) := commandFrame_law _
theorem CommandFrame.abandonPlan : CommandFrame.Statement (.abandonPlan) := commandFrame_law _
theorem CommandFrame.cancelPallet (place : BitVec 8) : CommandFrame.Statement (.cancelPallet place) := commandFrame_law _
theorem CommandFrame.releasePallet (place : BitVec 8) : CommandFrame.Statement (.releasePallet place) := commandFrame_law _
theorem CommandFrame.placed (arrival : BitVec 16) : CommandFrame.Statement (.placed arrival) := commandFrame_law _
theorem CommandFrame.removeCase (arrival : BitVec 16) (reason : BitVec 8) : CommandFrame.Statement (.removeCase arrival reason) := commandFrame_law _
theorem CommandFrame.acceptSuspect (arrival : BitVec 16) : CommandFrame.Statement (.acceptSuspect arrival) := commandFrame_law _
theorem CommandFrame.readNotice : CommandFrame.Statement (.readNotice) := commandFrame_law _
theorem CommandFrame.readPallet (place : BitVec 8) : CommandFrame.Statement (.readPallet place) := commandFrame_law _
theorem CommandFrame.readLine (place : BitVec 8) (tier : BitVec 8) (line : BitVec 8) : CommandFrame.Statement (.readLine place tier line) := commandFrame_law _
theorem CommandFrame.readStagingByArrival (value : BitVec 16) : CommandFrame.Statement (.readStagingByArrival value) := commandFrame_law _
theorem CommandFrame.readStagingByIndex (value : BitVec 16) : CommandFrame.Statement (.readStagingByIndex value) := commandFrame_law _
theorem CommandFrame.readStagingSummary (mode : BitVec 8) : CommandFrame.Statement (.readStagingSummary mode) := commandFrame_law _
theorem CommandFrame.readClaims (index : BitVec 8) : CommandFrame.Statement (.readClaims index) := commandFrame_law _
theorem CommandFrame.readView (slot : BitVec 16) : CommandFrame.Statement (.readView slot) := commandFrame_law _
theorem CommandFrame.readRoster (id : BitVec 8) : CommandFrame.Statement (.readRoster id) := commandFrame_law _
theorem CommandFrame.readFaults : CommandFrame.Statement (.readFaults) := commandFrame_law _
theorem CommandFrame.setCounter (counter : BitVec 8) (event : BitVec 8) (filterKind : BitVec 8) (filterValue : BitVec 8) : CommandFrame.Statement (.setCounter counter event filterKind filterValue) := commandFrame_law _
theorem CommandFrame.readCounter (counter : BitVec 8) : CommandFrame.Statement (.readCounter counter) := commandFrame_law _
theorem CommandFrame.startBitBegins : CommandFrame.Statement (.startBitBegins) := commandFrame_law _
theorem CommandFrame.scannerCharacter (c : ScanChar) : CommandFrame.Statement (.scannerCharacter c) := commandFrame_law _

end Sys2Proof.Laws
end

