-- ==== Sys2Proof/Laws/Port.lean ====
section
/-! SUPPORT. A transaction of the cell port bit by bit: what its clocked bits leave, what it drives, and the row its end stands for. -/

namespace Sys2Proof.Laws

open Sys2Proof Sys2Proof.Machine

variable {s : State}

/-- Outside a transaction the edges of CPCLK change nothing. -/
theorem clockBit_idle (h : s.port.transaction = none) (b : Bool) : clockBit s b = s := by
  obtain ⟨_, _, _, _, _, _, _, _, _, _, _, ⟨_, _, _, _⟩, _, _⟩ := s
  cases h; rfl

theorem foldl_clockBit_idle (h : s.port.transaction = none) (bits : List Bool) : bits.foldl clockBit s = s := by
  induction bits with
  | nil => rfl
  | cons b bits ih => rw [List.foldl_cons, clockBit_idle h, ih]

/-- One period of CPCLK in a transaction: a bit taken and a bit driven. -/
theorem clockBit_eq {r : Transaction} (h : s.port.transaction = some r) (b : Bool) :
    clockBit s b = s.setPort { s.port with
      transaction := some { r with received := r.received ++ [b], driven := r.driven + 1 } } := by
  simp [clockBit, clockFall, clockRise, modifyTransaction, h, State.setPort]

/-- The bits of several periods join those received, and as many are driven. -/
theorem foldl_clockBit {r : Transaction} (h : s.port.transaction = some r) (bits : List Bool) :
    bits.foldl clockBit s = s.setPort { s.port with
      transaction := some { r with received := r.received ++ bits, driven := r.driven + bits.length } } := by
  induction bits generalizing s r with
  | nil =>
    obtain ⟨_, _, _, _, _, _, _, _, _, _, _, ⟨_, _, _, _⟩, _, _⟩ := s
    cases h; simp [State.setPort]
  | cons b bits ih =>
    rw [List.foldl_cons, clockBit_eq h, ih rfl]
    simp [State.setPort, Nat.add_comm, Nat.add_left_comm]

/-- R177: past the last byte of its frame a transaction drives 1. -/
theorem cpout_past {r : Transaction} {n : Nat} (hn : r.driven = n + 1) (h : 8 * r.frame.length ≤ n) :
    r.cpout = some true := by
  have : r.frame.length ≤ n / 8 := by omega
  have h8 : n % 8 < 8 := Nat.mod_lt _ (by omega)
  have ones : ∀ i, i < 8 → (255#8).getMsbD i = true := by decide
  simp only [Transaction.cpout, hn, lineBit, List.getD_eq_default _ _ this, ones _ h8]

/-- R176: within its frame it drives the frame's bits, most significant first. -/
theorem cpout_within {r : Transaction} {n : Nat} (hn : r.driven = n + 1) (h : n < 8 * r.frame.length) :
    r.cpout = some ((r.frame.getD (n / 8) 0).getMsbD (n % 8)) := by
  have : n / 8 < r.frame.length := by omega
  simp [Transaction.cpout, hn, lineBit, List.getElem?_eq_getElem this]

/-- A byte is its eight bits, the most significant first. -/
theorem bitsByte_getMsbD : ∀ b : Byte, bitsByte ((List.range 8).map b.getMsbD) = b := by decide

/-- The bits of some bytes spell those bytes. -/
theorem bitsToBytes_flatMap (f : List Byte) : bitsToBytes (f.flatMap (fun b => (List.range 8).map b.getMsbD)) = f := by
  induction f with
  | nil => rfl
  | cons b f ih =>
    have h := bitsByte_getMsbD b
    rw [List.flatMap_cons]
    simp only [show List.range 8 = [0, 1, 2, 3, 4, 5, 6, 7] from rfl, List.map_cons, List.map_nil, List.cons_append,
      List.nil_append] at h ih ⊢
    rw [bitsToBytes, h, ih]

/-- The end of a transaction whose bits are those of a frame is that frame's row. -/
theorem endTransaction_frame {r : Transaction} (h : s.port.transaction = some r) (f : List Byte) (hf : f.length = 16)
    (hr : r.received = f.flatMap (fun b => (List.range 8).map b.getMsbD)) : s.endTransaction = s.withCommandFrame f := by
  have hl : r.received.length = 128 := by
    rw [hr, List.length_flatMap]
    simp [hf]
  rw [State.endTransaction, h]
  simp only [decodeTransaction, hl, if_true]
  rw [hr, bitsToBytes_flatMap, State.withCommandFrame]

end Sys2Proof.Laws
end

