-- ==== Sys2Proof/Laws/RowFrames.lean ====
section
/-! SUPPORT. What the operations of the gate, the divert, the hall line, the handling of frames and the timers leave unchanged. -/

namespace Sys2Proof.Laws

open Sys2Proof.Machine

@[simp] theorem setGateDeglitch_frame (s : State) (d : GateDeglitch) :
    (setGateDeglitch s d).config = s.config ∧ (setGateDeglitch s d).pins = s.pins ∧
    (setGateDeglitch s d).loop = s.loop ∧ (setGateDeglitch s d).line = s.line ∧ (setGateDeglitch s d).view = s.view ∧
    (setGateDeglitch s d).plans = s.plans ∧ (setGateDeglitch s d).contest = s.contest ∧
    (setGateDeglitch s d).divert = s.divert ∧ (setGateDeglitch s d).staging = s.staging ∧
    (setGateDeglitch s d).part = s.part ∧ (setGateDeglitch s d).port = s.port ∧
    (setGateDeglitch s d).counters = s.counters ∧ (setGateDeglitch s d).pending = s.pending := by
  unfold setGateDeglitch; simp

@[simp] theorem setEdges_frame (s : State) (es : List PendingEdge) :
    (setEdges s es).config = s.config ∧ (setEdges s es).pins = s.pins ∧ (setEdges s es).loop = s.loop ∧
    (setEdges s es).line = s.line ∧ (setEdges s es).view = s.view ∧ (setEdges s es).plans = s.plans ∧
    (setEdges s es).contest = s.contest ∧ (setEdges s es).divert = s.divert ∧ (setEdges s es).staging = s.staging ∧
    (setEdges s es).part = s.part ∧ (setEdges s es).port = s.port ∧ (setEdges s es).counters = s.counters ∧
    (setEdges s es).pending = s.pending := by
  unfold setEdges; simp

@[simp] theorem acceptEdge_frame (s : State) (start : Nat) :
    (acceptEdge s start).config = s.config ∧ (acceptEdge s start).pins = s.pins ∧ (acceptEdge s start).loop = s.loop ∧
    (acceptEdge s start).line = s.line ∧ (acceptEdge s start).view = s.view ∧ (acceptEdge s start).plans = s.plans ∧
    (acceptEdge s start).contest = s.contest ∧ (acceptEdge s start).divert = s.divert ∧
    (acceptEdge s start).staging = s.staging ∧ (acceptEdge s start).part = s.part ∧
    (acceptEdge s start).port = s.port ∧ (acceptEdge s start).pending = s.pending := by
  unfold acceptEdge; dsimp only; (repeat' split) <;> simp

@[simp] theorem ageEdges_frame (s : State) :
    (ageEdges s).config = s.config ∧ (ageEdges s).pins = s.pins ∧ (ageEdges s).loop = s.loop ∧
    (ageEdges s).line = s.line ∧ (ageEdges s).view = s.view ∧ (ageEdges s).plans = s.plans ∧
    (ageEdges s).contest = s.contest ∧ (ageEdges s).divert = s.divert ∧ (ageEdges s).staging = s.staging ∧
    (ageEdges s).part = s.part ∧ (ageEdges s).port = s.port ∧ (ageEdges s).pending = s.pending := by
  unfold ageEdges; simp

@[simp] theorem gateDeglitchPulse_frame (s : State) :
    (gateDeglitchPulse s).config = s.config ∧ (gateDeglitchPulse s).pins = s.pins ∧
    (gateDeglitchPulse s).loop = s.loop ∧ (gateDeglitchPulse s).line = s.line ∧ (gateDeglitchPulse s).view = s.view ∧
    (gateDeglitchPulse s).plans = s.plans ∧ (gateDeglitchPulse s).contest = s.contest ∧
    (gateDeglitchPulse s).divert = s.divert ∧ (gateDeglitchPulse s).staging = s.staging ∧
    (gateDeglitchPulse s).part = s.part ∧ (gateDeglitchPulse s).port = s.port ∧
    (gateDeglitchPulse s).pending = s.pending := by
  unfold gateDeglitchPulse; dsimp only; (repeat' split) <;> simp

@[simp] theorem gatePulse_frame (s : State) :
    (gatePulse s).config = s.config ∧ (gatePulse s).pins = s.pins ∧ (gatePulse s).loop = s.loop ∧
    (gatePulse s).line = s.line ∧ (gatePulse s).view = s.view ∧ (gatePulse s).plans = s.plans ∧
    (gatePulse s).contest = s.contest ∧ (gatePulse s).divert = s.divert ∧ (gatePulse s).staging = s.staging ∧
    (gatePulse s).part = s.part ∧ (gatePulse s).port = s.port ∧ (gatePulse s).pending = s.pending := by
  unfold gatePulse; simp

@[simp] theorem lapEdges_frame (s : State) (k : Nat) :
    (lapEdges s k).config = s.config ∧ (lapEdges s k).pins = s.pins ∧ (lapEdges s k).loop = s.loop ∧
    (lapEdges s k).line = s.line ∧ (lapEdges s k).view = s.view ∧ (lapEdges s k).plans = s.plans ∧
    (lapEdges s k).contest = s.contest ∧ (lapEdges s k).divert = s.divert ∧ (lapEdges s k).staging = s.staging ∧
    (lapEdges s k).part = s.part ∧ (lapEdges s k).port = s.port ∧ (lapEdges s k).counters = s.counters ∧
    (lapEdges s k).pending = s.pending := by
  unfold lapEdges; simp

@[simp] theorem resolveEdge_frame (s : State) (e : PendingEdge) (c : CaseId) :
    (resolveEdge s e c).config = s.config ∧ (resolveEdge s e c).pins = s.pins ∧ (resolveEdge s e c).loop = s.loop ∧
    (resolveEdge s e c).gate = s.gate ∧ (resolveEdge s e c).line.state = s.line.state ∧
    (resolveEdge s e c).line.rx = s.line.rx ∧ (resolveEdge s e c).line.attempt = s.line.attempt ∧
    (resolveEdge s e c).view = s.view ∧ (resolveEdge s e c).plans = s.plans ∧ (resolveEdge s e c).contest = s.contest ∧
    (resolveEdge s e c).divert = s.divert ∧ (resolveEdge s e c).staging = s.staging ∧
    (resolveEdge s e c).part = s.part ∧ (resolveEdge s e c).port = s.port ∧
    (resolveEdge s e c).pending = s.pending := by
  unfold resolveEdge; (repeat' split) <;> simp

@[simp] theorem takeReport_frame (s : State) (chars : List ScanChar) :
    (takeReport s chars).config = s.config ∧ (takeReport s chars).pins = s.pins ∧ (takeReport s chars).loop = s.loop ∧
    (takeReport s chars).line.state = s.line.state ∧ (takeReport s chars).line.rx = s.line.rx ∧
    (takeReport s chars).line.attempt = s.line.attempt ∧ (takeReport s chars).view = s.view ∧
    (takeReport s chars).plans = s.plans ∧ (takeReport s chars).contest = s.contest ∧
    (takeReport s chars).divert = s.divert ∧ (takeReport s chars).staging = s.staging ∧
    (takeReport s chars).part = s.part ∧ (takeReport s chars).port = s.port ∧
    (takeReport s chars).pending = s.pending := by
  unfold takeReport; (repeat' split) <;> simp

@[simp] theorem takeCharacter_frame (s : State) (c : ScanChar) :
    (takeCharacter s c).config = s.config ∧ (takeCharacter s c).pins = s.pins ∧ (takeCharacter s c).loop = s.loop ∧
    (takeCharacter s c).line.state = s.line.state ∧ (takeCharacter s c).line.rx = s.line.rx ∧
    (takeCharacter s c).line.attempt = s.line.attempt ∧ (takeCharacter s c).view = s.view ∧
    (takeCharacter s c).plans = s.plans ∧ (takeCharacter s c).contest = s.contest ∧
    (takeCharacter s c).divert = s.divert ∧ (takeCharacter s c).staging = s.staging ∧
    (takeCharacter s c).part = s.part ∧ (takeCharacter s c).port = s.port ∧
    (takeCharacter s c).pending = s.pending := by
  unfold takeCharacter; dsimp only; (repeat' split) <;> simp

@[simp] theorem endReport_frame (s : State) :
    (endReport s).config = s.config ∧ (endReport s).pins = s.pins ∧ (endReport s).loop = s.loop ∧
    (endReport s).line.state = s.line.state ∧ (endReport s).line.rx = s.line.rx ∧
    (endReport s).line.attempt = s.line.attempt ∧ (endReport s).view = s.view ∧ (endReport s).plans = s.plans ∧
    (endReport s).contest = s.contest ∧ (endReport s).divert = s.divert ∧ (endReport s).staging = s.staging ∧
    (endReport s).part = s.part ∧ (endReport s).port = s.port ∧ (endReport s).pending = s.pending := by
  unfold endReport; simp

@[simp] theorem setConfirm_frame (s : State) (d : ConfirmDeglitch) :
    (setConfirm s d).config = s.config ∧ (setConfirm s d).pins = s.pins ∧ (setConfirm s d).loop = s.loop ∧
    (setConfirm s d).gate = s.gate ∧ (setConfirm s d).line = s.line ∧ (setConfirm s d).view = s.view ∧
    (setConfirm s d).plans = s.plans ∧ (setConfirm s d).contest = s.contest ∧ (setConfirm s d).staging = s.staging ∧
    (setConfirm s d).part = s.part ∧ (setConfirm s d).port = s.port ∧ (setConfirm s d).counters = s.counters ∧
    (setConfirm s d).pending = s.pending := by
  unfold setConfirm; simp

@[simp] theorem fireCountsPulse_frame (s : State) :
    (fireCountsPulse s).config = s.config ∧ (fireCountsPulse s).pins = s.pins ∧ (fireCountsPulse s).loop = s.loop ∧
    (fireCountsPulse s).gate = s.gate ∧ (fireCountsPulse s).line = s.line ∧ (fireCountsPulse s).view = s.view ∧
    (fireCountsPulse s).plans = s.plans ∧ (fireCountsPulse s).contest = s.contest ∧
    (fireCountsPulse s).staging = s.staging ∧ (fireCountsPulse s).part = s.part ∧ (fireCountsPulse s).port = s.port ∧
    (fireCountsPulse s).counters = s.counters ∧ (fireCountsPulse s).pending = s.pending := by
  unfold fireCountsPulse; (repeat' split) <;> simp

@[simp] theorem judgeConfirm_frame (s : State) :
    (judgeConfirm s).config = s.config ∧ (judgeConfirm s).pins = s.pins ∧ (judgeConfirm s).loop = s.loop ∧
    (judgeConfirm s).gate = s.gate ∧ (judgeConfirm s).line.state = s.line.state ∧
    (judgeConfirm s).line.rx = s.line.rx ∧ (judgeConfirm s).line.attempt = s.line.attempt ∧
    (judgeConfirm s).view = s.view ∧ (judgeConfirm s).part.state = s.part.state ∧
    (judgeConfirm s).part.roster = s.part.roster ∧ (judgeConfirm s).part.digest = s.part.digest ∧
    (judgeConfirm s).port.response = s.port.response ∧ (judgeConfirm s).port.transaction = s.port.transaction ∧
    (judgeConfirm s).pending = s.pending := by
  unfold judgeConfirm; (repeat' split) <;> simp

@[simp] theorem confirmPulse_frame (s : State) :
    (confirmPulse s).config = s.config ∧ (confirmPulse s).pins = s.pins ∧ (confirmPulse s).loop = s.loop ∧
    (confirmPulse s).gate = s.gate ∧ (confirmPulse s).line.state = s.line.state ∧
    (confirmPulse s).line.rx = s.line.rx ∧ (confirmPulse s).line.attempt = s.line.attempt ∧
    (confirmPulse s).view = s.view ∧ (confirmPulse s).part.state = s.part.state ∧
    (confirmPulse s).part.roster = s.part.roster ∧ (confirmPulse s).part.digest = s.part.digest ∧
    (confirmPulse s).port.response = s.port.response ∧ (confirmPulse s).port.transaction = s.port.transaction ∧
    (confirmPulse s).pending = s.pending := by
  unfold confirmPulse; (repeat' split) <;> simp

@[simp] theorem endDwell_frame (s : State) :
    (endDwell s).config = s.config ∧ (endDwell s).pins = s.pins ∧ (endDwell s).loop = s.loop ∧
    (endDwell s).gate = s.gate ∧ (endDwell s).line = s.line ∧ (endDwell s).view = s.view ∧
    (endDwell s).plans = s.plans ∧ (endDwell s).contest = s.contest ∧ (endDwell s).staging = s.staging ∧
    (endDwell s).part = s.part ∧ (endDwell s).port = s.port ∧ (endDwell s).counters = s.counters ∧
    (endDwell s).pending = s.pending := by
  unfold endDwell; (repeat' split) <;> simp

@[simp] theorem endWindow_frame (s : State) :
    (endWindow s).config = s.config ∧ (endWindow s).pins = s.pins ∧ (endWindow s).loop = s.loop ∧
    (endWindow s).gate = s.gate ∧ (endWindow s).line.state = s.line.state ∧ (endWindow s).line.rx = s.line.rx ∧
    (endWindow s).line.attempt = s.line.attempt ∧ (endWindow s).view = s.view ∧ (endWindow s).staging = s.staging ∧
    (endWindow s).part.state = s.part.state ∧ (endWindow s).part.roster = s.part.roster ∧
    (endWindow s).part.digest = s.part.digest ∧ (endWindow s).port.response = s.port.response ∧
    (endWindow s).port.transaction = s.port.transaction ∧ (endWindow s).pending = s.pending := by
  unfold endWindow; (repeat' split) <;> simp

@[simp] theorem divertPulse_frame (s : State) :
    (divertPulse s).config = s.config ∧ (divertPulse s).pins = s.pins ∧ (divertPulse s).loop = s.loop ∧
    (divertPulse s).gate = s.gate ∧ (divertPulse s).line.state = s.line.state ∧ (divertPulse s).line.rx = s.line.rx ∧
    (divertPulse s).line.attempt = s.line.attempt ∧ (divertPulse s).view = s.view ∧
    (divertPulse s).part.state = s.part.state ∧ (divertPulse s).part.roster = s.part.roster ∧
    (divertPulse s).part.digest = s.part.digest ∧ (divertPulse s).port.response = s.port.response ∧
    (divertPulse s).port.transaction = s.port.transaction ∧ (divertPulse s).pending = s.pending := by
  unfold divertPulse; simp

@[simp] theorem confirmRise_frame (s : State) :
    (confirmRise s).config = s.config ∧ (confirmRise s).loop = s.loop ∧ (confirmRise s).gate = s.gate ∧
    (confirmRise s).line = s.line ∧ (confirmRise s).view = s.view ∧ (confirmRise s).plans = s.plans ∧
    (confirmRise s).contest = s.contest ∧ (confirmRise s).staging = s.staging ∧ (confirmRise s).part = s.part ∧
    (confirmRise s).port = s.port ∧ (confirmRise s).counters = s.counters ∧ (confirmRise s).pending = s.pending := by
  unfold confirmRise; dsimp only; (repeat' split) <;> simp

@[simp] theorem endJam_frame (s : State) :
    (endJam s).config = s.config ∧ (endJam s).pins = s.pins ∧ (endJam s).loop = s.loop ∧ (endJam s).gate = s.gate ∧
    (endJam s).line = s.line ∧ (endJam s).view = s.view ∧ (endJam s).plans = s.plans ∧ (endJam s).contest = s.contest ∧
    (endJam s).staging = s.staging ∧ (endJam s).part.state = s.part.state ∧ (endJam s).part.roster = s.part.roster ∧
    (endJam s).part.digest = s.part.digest ∧ (endJam s).port = s.port ∧ (endJam s).counters = s.counters ∧
    (endJam s).pending = s.pending := by
  unfold endJam; (repeat' split) <;> simp

@[simp] theorem confirmFall_frame (s : State) :
    (confirmFall s).config = s.config ∧ (confirmFall s).loop = s.loop ∧ (confirmFall s).gate = s.gate ∧
    (confirmFall s).line = s.line ∧ (confirmFall s).view = s.view ∧ (confirmFall s).plans = s.plans ∧
    (confirmFall s).contest = s.contest ∧ (confirmFall s).staging = s.staging ∧
    (confirmFall s).part.state = s.part.state ∧ (confirmFall s).part.roster = s.part.roster ∧
    (confirmFall s).part.digest = s.part.digest ∧ (confirmFall s).port = s.port ∧
    (confirmFall s).counters = s.counters ∧ (confirmFall s).pending = s.pending := by
  unfold confirmFall; dsimp only; (repeat' split) <;> simp

@[simp] theorem setLineState_frame (s : State) (st : LineState) (run : Nat) :
    (setLineState s st run).config = s.config ∧ (setLineState s st run).pins = s.pins ∧
    (setLineState s st run).loop = s.loop ∧ (setLineState s st run).gate = s.gate ∧
    (setLineState s st run).line.rx = s.line.rx ∧ (setLineState s st run).line.attempt = s.line.attempt ∧
    (setLineState s st run).view = s.view ∧ (setLineState s st run).plans = s.plans ∧
    (setLineState s st run).contest = s.contest ∧ (setLineState s st run).divert = s.divert ∧
    (setLineState s st run).staging = s.staging ∧ (setLineState s st run).part = s.part ∧
    (setLineState s st run).port = s.port ∧ (setLineState s st run).counters = s.counters ∧
    (setLineState s st run).pending = s.pending := by
  unfold setLineState; simp

@[simp] theorem timeLevels_frame (s : State) (r : List Bool) :
    (timeLevels s r).config = s.config ∧ (timeLevels s r).pins = s.pins ∧ (timeLevels s r).loop = s.loop ∧
    (timeLevels s r).gate = s.gate ∧ (timeLevels s r).line.state = s.line.state ∧ (timeLevels s r).line.tx = s.line.tx ∧
    (timeLevels s r).line.rx = s.line.rx ∧ (timeLevels s r).line.attempt = s.line.attempt ∧
    (timeLevels s r).view = s.view ∧ (timeLevels s r).plans = s.plans ∧ (timeLevels s r).contest = s.contest ∧
    (timeLevels s r).divert = s.divert ∧ (timeLevels s r).staging = s.staging ∧ (timeLevels s r).part = s.part ∧
    (timeLevels s r).port = s.port ∧ (timeLevels s r).counters = s.counters ∧ (timeLevels s r).pending = s.pending := by
  unfold timeLevels; simp

@[simp] theorem timeFrame_frame (s : State) (bytes : List Byte) (e : Bool) :
    (timeFrame s bytes e).config = s.config ∧ (timeFrame s bytes e).pins = s.pins ∧
    (timeFrame s bytes e).loop = s.loop ∧ (timeFrame s bytes e).gate = s.gate ∧
    (timeFrame s bytes e).line.state = s.line.state ∧ (timeFrame s bytes e).line.tx = s.line.tx ∧
    (timeFrame s bytes e).line.rx = s.line.rx ∧ (timeFrame s bytes e).line.attempt = s.line.attempt ∧
    (timeFrame s bytes e).view = s.view ∧ (timeFrame s bytes e).plans = s.plans ∧
    (timeFrame s bytes e).contest = s.contest ∧ (timeFrame s bytes e).divert = s.divert ∧
    (timeFrame s bytes e).staging = s.staging ∧ (timeFrame s bytes e).part = s.part ∧
    (timeFrame s bytes e).port = s.port ∧ (timeFrame s bytes e).counters = s.counters ∧
    (timeFrame s bytes e).pending = s.pending := by
  unfold timeFrame; simp

@[simp] theorem startBit_frame (s : State) :
    (startBit s).config = s.config ∧ (startBit s).pins = s.pins ∧ (startBit s).loop = s.loop ∧
    (startBit s).gate = s.gate ∧ (startBit s).line.rx = s.line.rx ∧ (startBit s).line.attempt = s.line.attempt ∧
    (startBit s).view = s.view ∧ (startBit s).plans = s.plans ∧ (startBit s).contest = s.contest ∧
    (startBit s).divert = s.divert ∧ (startBit s).staging = s.staging ∧ (startBit s).part = s.part ∧
    (startBit s).port = s.port ∧ (startBit s).counters = s.counters ∧ (startBit s).pending = s.pending := by
  unfold startBit; (repeat' split) <;> simp

@[simp] theorem lineBecomesFree_frame (s : State) :
    (lineBecomesFree s).config = s.config ∧ (lineBecomesFree s).pins = s.pins ∧ (lineBecomesFree s).loop = s.loop ∧
    (lineBecomesFree s).gate = s.gate ∧ (lineBecomesFree s).line.rx = s.line.rx ∧
    (lineBecomesFree s).line.attempt = s.line.attempt ∧ (lineBecomesFree s).view = s.view ∧
    (lineBecomesFree s).plans = s.plans ∧ (lineBecomesFree s).contest = s.contest ∧
    (lineBecomesFree s).divert = s.divert ∧ (lineBecomesFree s).staging = s.staging ∧
    (lineBecomesFree s).part = s.part ∧ (lineBecomesFree s).port = s.port ∧ (lineBecomesFree s).counters = s.counters ∧
    (lineBecomesFree s).pending = s.pending := by
  unfold lineBecomesFree; (repeat' split) <;> simp

@[simp] theorem setAttempt_frame (s : State) (a : Option Attempt) :
    (setAttempt s a).config = s.config ∧ (setAttempt s a).pins = s.pins ∧ (setAttempt s a).loop = s.loop ∧
    (setAttempt s a).gate = s.gate ∧ (setAttempt s a).line.state = s.line.state ∧
    (setAttempt s a).line.rx = s.line.rx ∧ (setAttempt s a).view = s.view ∧ (setAttempt s a).plans = s.plans ∧
    (setAttempt s a).contest = s.contest ∧ (setAttempt s a).divert = s.divert ∧ (setAttempt s a).staging = s.staging ∧
    (setAttempt s a).part = s.part ∧ (setAttempt s a).port = s.port ∧ (setAttempt s a).counters = s.counters ∧
    (setAttempt s a).pending = s.pending := by
  unfold setAttempt; simp

@[simp] theorem beginAttempt_frame (s : State) (t : TxFrame) :
    (beginAttempt s t).config = s.config ∧ (beginAttempt s t).pins = s.pins ∧ (beginAttempt s t).loop = s.loop ∧
    (beginAttempt s t).gate = s.gate ∧ (beginAttempt s t).line.rx = s.line.rx ∧ (beginAttempt s t).view = s.view ∧
    (beginAttempt s t).plans = s.plans ∧ (beginAttempt s t).contest = s.contest ∧
    (beginAttempt s t).divert = s.divert ∧ (beginAttempt s t).staging = s.staging ∧ (beginAttempt s t).part = s.part ∧
    (beginAttempt s t).port = s.port ∧ (beginAttempt s t).counters = s.counters ∧
    (beginAttempt s t).pending = s.pending := by
  unfold beginAttempt; simp

@[simp] theorem sendAttempt_frame (s : State) :
    (sendAttempt s).config = s.config ∧ (sendAttempt s).pins = s.pins ∧ (sendAttempt s).loop = s.loop ∧
    (sendAttempt s).gate = s.gate ∧ (sendAttempt s).line.rx = s.line.rx ∧ (sendAttempt s).view = s.view ∧
    (sendAttempt s).plans = s.plans ∧ (sendAttempt s).contest = s.contest ∧ (sendAttempt s).divert = s.divert ∧
    (sendAttempt s).staging = s.staging ∧ (sendAttempt s).part = s.part ∧ (sendAttempt s).port = s.port ∧
    (sendAttempt s).counters = s.counters ∧ (sendAttempt s).pending = s.pending := by
  unfold sendAttempt; (repeat' split) <;> simp

@[simp] theorem modifyInAttempt_frame (s : State) (f : TxFrame → TxFrame) :
    (modifyInAttempt s f).config = s.config ∧ (modifyInAttempt s f).pins = s.pins ∧
    (modifyInAttempt s f).loop = s.loop ∧ (modifyInAttempt s f).gate = s.gate ∧
    (modifyInAttempt s f).line.state = s.line.state ∧ (modifyInAttempt s f).line.rx = s.line.rx ∧
    (modifyInAttempt s f).line.attempt = s.line.attempt ∧ (modifyInAttempt s f).view = s.view ∧
    (modifyInAttempt s f).plans = s.plans ∧ (modifyInAttempt s f).contest = s.contest ∧
    (modifyInAttempt s f).divert = s.divert ∧ (modifyInAttempt s f).staging = s.staging ∧
    (modifyInAttempt s f).part = s.part ∧ (modifyInAttempt s f).port = s.port ∧
    (modifyInAttempt s f).counters = s.counters ∧ (modifyInAttempt s f).pending = s.pending := by
  unfold modifyInAttempt; simp

@[simp] theorem removeInAttempt_frame (s : State) :
    (removeInAttempt s).config = s.config ∧ (removeInAttempt s).pins = s.pins ∧ (removeInAttempt s).loop = s.loop ∧
    (removeInAttempt s).gate = s.gate ∧ (removeInAttempt s).line.state = s.line.state ∧
    (removeInAttempt s).line.rx = s.line.rx ∧ (removeInAttempt s).line.attempt = s.line.attempt ∧
    (removeInAttempt s).view = s.view ∧ (removeInAttempt s).plans = s.plans ∧ (removeInAttempt s).contest = s.contest ∧
    (removeInAttempt s).divert = s.divert ∧ (removeInAttempt s).staging = s.staging ∧
    (removeInAttempt s).part = s.part ∧ (removeInAttempt s).port = s.port ∧ (removeInAttempt s).counters = s.counters ∧
    (removeInAttempt s).pending = s.pending := by
  unfold removeInAttempt; simp

@[simp] theorem claimBeginsSend_frame (s : State) (t : TxFrame) :
    (claimBeginsSend s t).config = s.config ∧ (claimBeginsSend s t).pins = s.pins ∧
    (claimBeginsSend s t).loop = s.loop ∧ (claimBeginsSend s t).gate = s.gate ∧ (claimBeginsSend s t).line = s.line ∧
    (claimBeginsSend s t).view = s.view ∧ (claimBeginsSend s t).plans = s.plans ∧
    (claimBeginsSend s t).divert = s.divert ∧ (claimBeginsSend s t).staging = s.staging ∧
    (claimBeginsSend s t).part = s.part ∧ (claimBeginsSend s t).port = s.port ∧
    (claimBeginsSend s t).counters = s.counters ∧ (claimBeginsSend s t).pending = s.pending := by
  unfold claimBeginsSend; (repeat' split) <;> simp

@[simp] theorem beginSend_frame (s : State) (t : TxFrame) :
    (beginSend s t).config = s.config ∧ (beginSend s t).pins = s.pins ∧ (beginSend s t).loop = s.loop ∧
    (beginSend s t).gate = s.gate ∧ (beginSend s t).line.state = s.line.state ∧ (beginSend s t).line.rx = s.line.rx ∧
    (beginSend s t).line.attempt = s.line.attempt ∧ (beginSend s t).view = s.view ∧ (beginSend s t).plans = s.plans ∧
    (beginSend s t).divert = s.divert ∧ (beginSend s t).staging = s.staging ∧ (beginSend s t).part = s.part ∧
    (beginSend s t).port = s.port ∧ (beginSend s t).pending = s.pending := by
  unfold beginSend; dsimp only; (repeat' split) <;> simp

@[simp] theorem tellWithdrawn_frame (s : State) (t : TxFrame) :
    (tellWithdrawn s t).config = s.config ∧ (tellWithdrawn s t).pins = s.pins ∧ (tellWithdrawn s t).loop = s.loop ∧
    (tellWithdrawn s t).gate = s.gate ∧ (tellWithdrawn s t).line = s.line ∧ (tellWithdrawn s t).view = s.view ∧
    (tellWithdrawn s t).divert = s.divert ∧ (tellWithdrawn s t).staging = s.staging ∧
    (tellWithdrawn s t).part.state = s.part.state ∧ (tellWithdrawn s t).part.roster = s.part.roster ∧
    (tellWithdrawn s t).part.digest = s.part.digest ∧ (tellWithdrawn s t).port.response = s.port.response ∧
    (tellWithdrawn s t).port.transaction = s.port.transaction ∧ (tellWithdrawn s t).pending = s.pending := by
  unfold tellWithdrawn; (repeat' split) <;> simp

@[simp] theorem loseAttempt_frame (s : State) (t : TxFrame) :
    (loseAttempt s t).config = s.config ∧ (loseAttempt s t).pins = s.pins ∧ (loseAttempt s t).loop = s.loop ∧
    (loseAttempt s t).gate = s.gate ∧ (loseAttempt s t).line.state = s.line.state ∧
    (loseAttempt s t).line.rx = s.line.rx ∧ (loseAttempt s t).line.attempt = s.line.attempt ∧
    (loseAttempt s t).view = s.view ∧ (loseAttempt s t).divert = s.divert ∧ (loseAttempt s t).staging = s.staging ∧
    (loseAttempt s t).part.state = s.part.state ∧ (loseAttempt s t).part.roster = s.part.roster ∧
    (loseAttempt s t).part.digest = s.part.digest ∧ (loseAttempt s t).port.response = s.port.response ∧
    (loseAttempt s t).port.transaction = s.port.transaction ∧ (loseAttempt s t).pending = s.pending := by
  unfold loseAttempt; (repeat' split) <;> simp

@[simp] theorem arbitrationEnd_frame (s : State) (read : List Byte) :
    (arbitrationEnd s read).config = s.config ∧ (arbitrationEnd s read).pins = s.pins ∧
    (arbitrationEnd s read).loop = s.loop ∧ (arbitrationEnd s read).gate = s.gate ∧
    (arbitrationEnd s read).line.state = s.line.state ∧ (arbitrationEnd s read).line.rx = s.line.rx ∧
    (arbitrationEnd s read).view = s.view ∧ (arbitrationEnd s read).divert = s.divert ∧
    (arbitrationEnd s read).staging = s.staging ∧ (arbitrationEnd s read).part.state = s.part.state ∧
    (arbitrationEnd s read).part.roster = s.part.roster ∧ (arbitrationEnd s read).part.digest = s.part.digest ∧
    (arbitrationEnd s read).port.response = s.port.response ∧
    (arbitrationEnd s read).port.transaction = s.port.transaction ∧ (arbitrationEnd s read).pending = s.pending := by
  unfold arbitrationEnd; (repeat' split) <;> simp

@[simp] theorem setAnswer_frame (s : State) (a : EndSlotAnswer) :
    (setAnswer s a).config = s.config ∧ (setAnswer s a).pins = s.pins ∧ (setAnswer s a).loop = s.loop ∧
    (setAnswer s a).gate = s.gate ∧ (setAnswer s a).line.state = s.line.state ∧ (setAnswer s a).line.rx = s.line.rx ∧
    (setAnswer s a).line.attempt = s.line.attempt ∧ (setAnswer s a).view = s.view ∧ (setAnswer s a).plans = s.plans ∧
    (setAnswer s a).contest = s.contest ∧ (setAnswer s a).divert = s.divert ∧ (setAnswer s a).staging = s.staging ∧
    (setAnswer s a).part = s.part ∧ (setAnswer s a).counters = s.counters ∧ (setAnswer s a).pending = s.pending := by
  unfold setAnswer; simp

@[simp] theorem judgeOwn_frame (s : State) (a : Attempt) (bitError : Bool) :
    (judgeOwn s a bitError).config = s.config ∧ (judgeOwn s a bitError).pins = s.pins ∧
    (judgeOwn s a bitError).loop = s.loop ∧ (judgeOwn s a bitError).gate = s.gate ∧
    (judgeOwn s a bitError).line.state = s.line.state ∧ (judgeOwn s a bitError).line.rx = s.line.rx ∧
    (judgeOwn s a bitError).view = s.view ∧ (judgeOwn s a bitError).plans = s.plans ∧
    (judgeOwn s a bitError).contest = s.contest ∧ (judgeOwn s a bitError).divert = s.divert ∧
    (judgeOwn s a bitError).staging = s.staging ∧ (judgeOwn s a bitError).part = s.part ∧
    (judgeOwn s a bitError).port = s.port ∧ (judgeOwn s a bitError).pending = s.pending := by
  unfold judgeOwn; dsimp only; (repeat' split) <;> simp

@[simp] theorem countCheckError_frame (s : State) :
    (countCheckError s).config = s.config ∧ (countCheckError s).pins = s.pins ∧ (countCheckError s).loop = s.loop ∧
    (countCheckError s).gate = s.gate ∧ (countCheckError s).line.state = s.line.state ∧
    (countCheckError s).line.rx = s.line.rx ∧ (countCheckError s).line.attempt = s.line.attempt ∧
    (countCheckError s).staging = s.staging ∧ (countCheckError s).part.roster = s.part.roster ∧
    (countCheckError s).part.digest = s.part.digest ∧ (countCheckError s).port.response = s.port.response ∧
    (countCheckError s).port.transaction = s.port.transaction ∧ (countCheckError s).pending = s.pending := by
  unfold countCheckError; dsimp only; (repeat' split) <;> simp

@[simp] theorem receiveBroken_frame (s : State) :
    (receiveBroken s).config = s.config ∧ (receiveBroken s).pins = s.pins ∧ (receiveBroken s).loop = s.loop ∧
    (receiveBroken s).gate = s.gate ∧ (receiveBroken s).line.rx = s.line.rx ∧
    (receiveBroken s).line.attempt = s.line.attempt ∧ (receiveBroken s).staging = s.staging ∧
    (receiveBroken s).part.roster = s.part.roster ∧ (receiveBroken s).part.digest = s.part.digest ∧
    (receiveBroken s).pending = s.pending := by
  unfold receiveBroken; simp

@[simp] theorem receiveWhole_frame (s : State) (f : Frame) :
    (receiveWhole s f).config = s.config ∧ (receiveWhole s f).pins = s.pins ∧ (receiveWhole s f).loop = s.loop ∧
    (receiveWhole s f).gate = s.gate ∧ (receiveWhole s f).line.attempt = s.line.attempt ∧
    (receiveWhole s f).view = s.view ∧ (receiveWhole s f).plans = s.plans ∧ (receiveWhole s f).contest = s.contest ∧
    (receiveWhole s f).divert = s.divert ∧ (receiveWhole s f).staging = s.staging ∧ (receiveWhole s f).part = s.part ∧
    (receiveWhole s f).pending = s.pending := by
  unfold receiveWhole; dsimp only; (repeat' split) <;> simp

@[simp] theorem receiveHeard_frame (s : State) (bytes : List Byte) (lengthError : Bool) :
    (receiveHeard s bytes lengthError).config = s.config ∧ (receiveHeard s bytes lengthError).pins = s.pins ∧
    (receiveHeard s bytes lengthError).loop = s.loop ∧ (receiveHeard s bytes lengthError).gate = s.gate ∧
    (receiveHeard s bytes lengthError).line.attempt = s.line.attempt ∧
    (receiveHeard s bytes lengthError).staging = s.staging ∧
    (receiveHeard s bytes lengthError).part.roster = s.part.roster ∧
    (receiveHeard s bytes lengthError).part.digest = s.part.digest ∧
    (receiveHeard s bytes lengthError).pending = s.pending := by
  unfold receiveHeard; (repeat' split) <;> simp

@[simp] theorem frameReceived_frame (s : State) (bytes : List Byte) (lengthError : Bool) :
    (frameReceived s bytes lengthError).config = s.config ∧ (frameReceived s bytes lengthError).pins = s.pins ∧
    (frameReceived s bytes lengthError).loop = s.loop ∧ (frameReceived s bytes lengthError).gate = s.gate ∧
    (frameReceived s bytes lengthError).staging = s.staging ∧
    (frameReceived s bytes lengthError).part.roster = s.part.roster ∧
    (frameReceived s bytes lengthError).part.digest = s.part.digest ∧
    (frameReceived s bytes lengthError).pending = s.pending := by
  unfold frameReceived; (repeat' split) <;> simp

@[simp] theorem countSent_frame (s : State) (f : OutFrame) :
    (countSent s f).config = s.config ∧ (countSent s f).pins = s.pins ∧ (countSent s f).loop = s.loop ∧
    (countSent s f).gate = s.gate ∧ (countSent s f).line = s.line ∧ (countSent s f).view = s.view ∧
    (countSent s f).plans = s.plans ∧ (countSent s f).contest = s.contest ∧ (countSent s f).divert = s.divert ∧
    (countSent s f).staging = s.staging ∧ (countSent s f).part = s.part ∧ (countSent s f).port = s.port ∧
    (countSent s f).pending = s.pending := by
  unfold countSent; (repeat' split) <;> simp

@[simp] theorem freeFramePlace_frame (s : State) (f : OutFrame) :
    (freeFramePlace s f).config = s.config ∧ (freeFramePlace s f).pins = s.pins ∧ (freeFramePlace s f).loop = s.loop ∧
    (freeFramePlace s f).gate = s.gate ∧ (freeFramePlace s f).line = s.line ∧ (freeFramePlace s f).view = s.view ∧
    (freeFramePlace s f).plans = s.plans ∧ (freeFramePlace s f).divert = s.divert ∧
    (freeFramePlace s f).staging = s.staging ∧ (freeFramePlace s f).part = s.part ∧
    (freeFramePlace s f).port = s.port ∧ (freeFramePlace s f).counters = s.counters ∧
    (freeFramePlace s f).pending = s.pending := by
  unfold freeFramePlace; (repeat' split) <;> simp

@[simp] theorem retireFrame_frame (s : State) :
    (retireFrame s).config = s.config ∧ (retireFrame s).pins = s.pins ∧ (retireFrame s).loop = s.loop ∧
    (retireFrame s).gate = s.gate ∧ (retireFrame s).line.state = s.line.state ∧ (retireFrame s).line.rx = s.line.rx ∧
    (retireFrame s).line.attempt = s.line.attempt ∧ (retireFrame s).view = s.view ∧ (retireFrame s).plans = s.plans ∧
    (retireFrame s).contest = s.contest ∧ (retireFrame s).divert = s.divert ∧ (retireFrame s).staging = s.staging ∧
    (retireFrame s).part = s.part ∧ (retireFrame s).port = s.port ∧ (retireFrame s).counters = s.counters ∧
    (retireFrame s).pending = s.pending := by
  unfold retireFrame; simp

@[simp] theorem completeSend_frame (s : State) (t : TxFrame) (sent : Frame) :
    (completeSend s t sent).config = s.config ∧ (completeSend s t sent).pins = s.pins ∧
    (completeSend s t sent).loop = s.loop ∧ (completeSend s t sent).gate = s.gate ∧
    (completeSend s t sent).line.state = s.line.state ∧ (completeSend s t sent).line.attempt = s.line.attempt ∧
    (completeSend s t sent).view = s.view ∧ (completeSend s t sent).plans = s.plans ∧
    (completeSend s t sent).divert = s.divert ∧ (completeSend s t sent).staging = s.staging ∧
    (completeSend s t sent).part = s.part ∧ (completeSend s t sent).port = s.port ∧
    (completeSend s t sent).pending = s.pending := by
  unfold completeSend; simp

@[simp] theorem abandonSend_frame (s : State) (t : TxFrame) (sent : Frame) :
    (abandonSend s t sent).config = s.config ∧ (abandonSend s t sent).pins = s.pins ∧
    (abandonSend s t sent).loop = s.loop ∧ (abandonSend s t sent).gate = s.gate ∧
    (abandonSend s t sent).line.state = s.line.state ∧ (abandonSend s t sent).line.attempt = s.line.attempt ∧
    (abandonSend s t sent).view = s.view ∧ (abandonSend s t sent).plans = s.plans ∧
    (abandonSend s t sent).divert = s.divert ∧ (abandonSend s t sent).staging = s.staging ∧
    (abandonSend s t sent).part.state = s.part.state ∧ (abandonSend s t sent).part.roster = s.part.roster ∧
    (abandonSend s t sent).part.digest = s.part.digest ∧ (abandonSend s t sent).port.response = s.port.response ∧
    (abandonSend s t sent).port.transaction = s.port.transaction ∧ (abandonSend s t sent).pending = s.pending := by
  unfold abandonSend; simp

@[simp] theorem sendOutcome_frame (s : State) (t : TxFrame) (sent : Frame) (refused : Bool) :
    (sendOutcome s t sent refused).config = s.config ∧ (sendOutcome s t sent refused).pins = s.pins ∧
    (sendOutcome s t sent refused).loop = s.loop ∧ (sendOutcome s t sent refused).gate = s.gate ∧
    (sendOutcome s t sent refused).line.state = s.line.state ∧
    (sendOutcome s t sent refused).line.attempt = s.line.attempt ∧ (sendOutcome s t sent refused).view = s.view ∧
    (sendOutcome s t sent refused).plans = s.plans ∧ (sendOutcome s t sent refused).divert = s.divert ∧
    (sendOutcome s t sent refused).staging = s.staging ∧ (sendOutcome s t sent refused).part.state = s.part.state ∧
    (sendOutcome s t sent refused).part.roster = s.part.roster ∧
    (sendOutcome s t sent refused).part.digest = s.part.digest ∧
    (sendOutcome s t sent refused).port.response = s.port.response ∧
    (sendOutcome s t sent refused).port.transaction = s.port.transaction ∧
    (sendOutcome s t sent refused).pending = s.pending := by
  unfold sendOutcome; (repeat' split) <;> simp

@[simp] theorem afterFrame_frame (s : State) :
    (afterFrame s).config = s.config ∧ (afterFrame s).pins = s.pins ∧ (afterFrame s).loop = s.loop ∧
    (afterFrame s).gate = s.gate ∧ (afterFrame s).line.rx = s.line.rx ∧ (afterFrame s).view = s.view ∧
    (afterFrame s).plans = s.plans ∧ (afterFrame s).contest = s.contest ∧ (afterFrame s).divert = s.divert ∧
    (afterFrame s).staging = s.staging ∧ (afterFrame s).part = s.part ∧ (afterFrame s).counters = s.counters ∧
    (afterFrame s).pending = s.pending := by
  unfold afterFrame; simp

@[simp] theorem judged_frame (s : State) (a : Attempt) :
    (judged s a).config = s.config ∧ (judged s a).pins = s.pins ∧ (judged s a).loop = s.loop ∧
    (judged s a).gate = s.gate ∧ (judged s a).line.state = s.line.state ∧ (judged s a).line.rx = s.line.rx ∧
    (judged s a).view = s.view ∧ (judged s a).plans = s.plans ∧ (judged s a).contest = s.contest ∧
    (judged s a).divert = s.divert ∧ (judged s a).staging = s.staging ∧ (judged s a).part = s.part ∧
    (judged s a).port = s.port ∧ (judged s a).pending = s.pending := by
  unfold judged; (repeat' split) <;> simp

@[simp] theorem endOwnSend_frame (s : State) (a : Attempt) (refuse : Bool) :
    (endOwnSend s a refuse).config = s.config ∧ (endOwnSend s a refuse).pins = s.pins ∧
    (endOwnSend s a refuse).loop = s.loop ∧ (endOwnSend s a refuse).gate = s.gate ∧
    (endOwnSend s a refuse).view = s.view ∧ (endOwnSend s a refuse).divert = s.divert ∧
    (endOwnSend s a refuse).staging = s.staging ∧ (endOwnSend s a refuse).part.state = s.part.state ∧
    (endOwnSend s a refuse).part.roster = s.part.roster ∧ (endOwnSend s a refuse).part.digest = s.part.digest ∧
    (endOwnSend s a refuse).pending = s.pending := by
  unfold endOwnSend; dsimp only; (repeat' split) <;> simp

@[simp] theorem frameEnd_frame (s : State) (accept refuse : Bool) :
    (frameEnd s accept refuse).config = s.config ∧ (frameEnd s accept refuse).pins = s.pins ∧ (frameEnd s accept refuse).loop = s.loop ∧
    (frameEnd s accept refuse).gate = s.gate ∧ (frameEnd s accept refuse).view = s.view ∧ (frameEnd s accept refuse).divert = s.divert ∧
    (frameEnd s accept refuse).staging = s.staging ∧ (frameEnd s accept refuse).part.state = s.part.state ∧
    (frameEnd s accept refuse).part.roster = s.part.roster ∧ (frameEnd s accept refuse).part.digest = s.part.digest ∧
    (frameEnd s accept refuse).pending = s.pending := by
  unfold frameEnd; dsimp only; (repeat' split) <;> simp

@[simp] theorem enterHeld_frame (s : State) :
    (enterHeld s).config = s.config ∧ (enterHeld s).pins = s.pins ∧ (enterHeld s).loop = s.loop ∧
    (enterHeld s).gate = s.gate ∧ (enterHeld s).line.state = s.line.state ∧
    (enterHeld s).line.attempt = s.line.attempt ∧ (enterHeld s).view = s.view ∧ (enterHeld s).plans = s.plans ∧
    (enterHeld s).contest = s.contest ∧ (enterHeld s).divert = s.divert ∧ (enterHeld s).staging = s.staging ∧
    (enterHeld s).part = s.part ∧ (enterHeld s).port = s.port ∧ (enterHeld s).counters = s.counters ∧
    (enterHeld s).pending = s.pending := by
  unfold enterHeld; (repeat' split) <;> simp

@[simp] theorem settleHeard_frame (s : State) :
    (settleHeard s).config = s.config ∧ (settleHeard s).pins = s.pins ∧ (settleHeard s).loop = s.loop ∧
    (settleHeard s).gate = s.gate ∧ (settleHeard s).line.rx = s.line.rx ∧
    (settleHeard s).line.attempt = s.line.attempt ∧ (settleHeard s).staging = s.staging ∧
    (settleHeard s).part.roster = s.part.roster ∧ (settleHeard s).part.digest = s.part.digest ∧
    (settleHeard s).pending = s.pending := by
  unfold settleHeard; (repeat' split) <;> simp

@[simp] theorem settleFrame_frame (s : State) :
    (settleFrame s).config = s.config ∧ (settleFrame s).pins = s.pins ∧ (settleFrame s).loop = s.loop ∧
    (settleFrame s).gate = s.gate ∧ (settleFrame s).staging = s.staging ∧ (settleFrame s).part.roster = s.part.roster ∧
    (settleFrame s).part.digest = s.part.digest ∧ (settleFrame s).pending = s.pending := by
  unfold settleFrame; dsimp only; (repeat' split) <;> simp

@[simp] theorem stickLine_frame (s : State) :
    (stickLine s).config = s.config ∧ (stickLine s).pins = s.pins ∧ (stickLine s).loop = s.loop ∧
    (stickLine s).gate = s.gate ∧ (stickLine s).staging = s.staging ∧ (stickLine s).part.roster = s.part.roster ∧
    (stickLine s).part.digest = s.part.digest ∧ (stickLine s).pending = s.pending := by
  unfold stickLine; simp

@[simp] theorem lineStuckEnd_frame (s : State) :
    (lineStuckEnd s).config = s.config ∧ (lineStuckEnd s).pins = s.pins ∧ (lineStuckEnd s).loop = s.loop ∧
    (lineStuckEnd s).gate = s.gate ∧ (lineStuckEnd s).staging = s.staging ∧
    (lineStuckEnd s).part.roster = s.part.roster ∧ (lineStuckEnd s).part.digest = s.part.digest ∧
    (lineStuckEnd s).pending = s.pending := by
  unfold lineStuckEnd; (repeat' split) <;> simp

@[simp] theorem setRoster_frame (s : State) (i : Station) (e : RosterEntry) :
    (setRoster s i e).config = s.config ∧ (setRoster s i e).pins = s.pins ∧ (setRoster s i e).loop = s.loop ∧
    (setRoster s i e).gate = s.gate ∧ (setRoster s i e).line = s.line ∧ (setRoster s i e).view = s.view ∧
    (setRoster s i e).plans = s.plans ∧ (setRoster s i e).contest = s.contest ∧ (setRoster s i e).divert = s.divert ∧
    (setRoster s i e).staging = s.staging ∧ (setRoster s i e).part.state = s.part.state ∧
    (setRoster s i e).part.digest = s.part.digest ∧ (setRoster s i e).port = s.port ∧
    (setRoster s i e).counters = s.counters ∧ (setRoster s i e).pending = s.pending := by
  unfold setRoster; simp

@[simp] theorem updateRoster_frame (s : State) (f : Frame) :
    (updateRoster s f).config = s.config ∧ (updateRoster s f).pins = s.pins ∧ (updateRoster s f).loop = s.loop ∧
    (updateRoster s f).gate = s.gate ∧ (updateRoster s f).line = s.line ∧ (updateRoster s f).view = s.view ∧
    (updateRoster s f).plans = s.plans ∧ (updateRoster s f).contest = s.contest ∧
    (updateRoster s f).divert = s.divert ∧ (updateRoster s f).staging = s.staging ∧
    (updateRoster s f).part.state = s.part.state ∧ (updateRoster s f).part.digest = s.part.digest ∧
    (updateRoster s f).port = s.port ∧ (updateRoster s f).counters = s.counters ∧
    (updateRoster s f).pending = s.pending := by
  unfold updateRoster; simp

@[simp] theorem applyJoin_frame (s : State) (before : RosterEntry) (digest : Nat) :
    (applyJoin s before digest).config = s.config ∧ (applyJoin s before digest).pins = s.pins ∧
    (applyJoin s before digest).loop = s.loop ∧ (applyJoin s before digest).gate = s.gate ∧
    (applyJoin s before digest).line.state = s.line.state ∧ (applyJoin s before digest).line.rx = s.line.rx ∧
    (applyJoin s before digest).line.attempt = s.line.attempt ∧ (applyJoin s before digest).view = s.view ∧
    (applyJoin s before digest).divert = s.divert ∧ (applyJoin s before digest).staging = s.staging ∧
    (applyJoin s before digest).part.roster = s.part.roster ∧ (applyJoin s before digest).part.digest = s.part.digest ∧
    (applyJoin s before digest).port.response = s.port.response ∧
    (applyJoin s before digest).port.transaction = s.port.transaction ∧
    (applyJoin s before digest).pending = s.pending := by
  unfold applyJoin; (repeat' split) <;> simp

@[simp] theorem lossCause_frame (s : State) (k : Nat) :
    (lossCause s k).config = s.config ∧ (lossCause s k).pins = s.pins ∧ (lossCause s k).loop = s.loop ∧
    (lossCause s k).gate = s.gate ∧ (lossCause s k).line.state = s.line.state ∧ (lossCause s k).line.rx = s.line.rx ∧
    (lossCause s k).line.attempt = s.line.attempt ∧ (lossCause s k).view = s.view ∧ (lossCause s k).divert = s.divert ∧
    (lossCause s k).staging = s.staging ∧ (lossCause s k).part.state = s.part.state ∧
    (lossCause s k).part.roster = s.part.roster ∧ (lossCause s k).part.digest = s.part.digest ∧
    (lossCause s k).port.response = s.port.response ∧ (lossCause s k).port.transaction = s.port.transaction ∧
    (lossCause s k).pending = s.pending := by
  unfold lossCause; simp

@[simp] theorem othersTaken_frame (s : State) (k : Nat) :
    (othersTaken s k).config = s.config ∧ (othersTaken s k).pins = s.pins ∧ (othersTaken s k).loop = s.loop ∧
    (othersTaken s k).gate = s.gate ∧ (othersTaken s k).line.state = s.line.state ∧
    (othersTaken s k).line.rx = s.line.rx ∧ (othersTaken s k).line.attempt = s.line.attempt ∧
    (othersTaken s k).view = s.view ∧ (othersTaken s k).divert = s.divert ∧ (othersTaken s k).staging = s.staging ∧
    (othersTaken s k).part.state = s.part.state ∧ (othersTaken s k).part.roster = s.part.roster ∧
    (othersTaken s k).part.digest = s.part.digest ∧ (othersTaken s k).port.response = s.port.response ∧
    (othersTaken s k).port.transaction = s.port.transaction ∧ (othersTaken s k).pending = s.pending := by
  unfold othersTaken; (repeat' split) <;> simp

@[simp] theorem disputeClaim_frame (s : State) (k : Nat) :
    (disputeClaim s k).config = s.config ∧ (disputeClaim s k).pins = s.pins ∧ (disputeClaim s k).loop = s.loop ∧
    (disputeClaim s k).gate = s.gate ∧ (disputeClaim s k).line.state = s.line.state ∧
    (disputeClaim s k).line.rx = s.line.rx ∧ (disputeClaim s k).line.attempt = s.line.attempt ∧
    (disputeClaim s k).view = s.view ∧ (disputeClaim s k).divert = s.divert ∧ (disputeClaim s k).staging = s.staging ∧
    (disputeClaim s k).part.state = s.part.state ∧ (disputeClaim s k).part.roster = s.part.roster ∧
    (disputeClaim s k).part.digest = s.part.digest ∧ (disputeClaim s k).port.response = s.port.response ∧
    (disputeClaim s k).port.transaction = s.port.transaction ∧ (disputeClaim s k).pending = s.pending := by
  unfold disputeClaim; (repeat' split) <;> simp

@[simp] theorem orphanHandled_frame (s : State) (k : Nat) (before : ViewEntry) :
    (orphanHandled s k before).config = s.config ∧ (orphanHandled s k before).pins = s.pins ∧
    (orphanHandled s k before).loop = s.loop ∧ (orphanHandled s k before).gate = s.gate ∧
    (orphanHandled s k before).line.state = s.line.state ∧ (orphanHandled s k before).line.rx = s.line.rx ∧
    (orphanHandled s k before).line.attempt = s.line.attempt ∧ (orphanHandled s k before).view = s.view ∧
    (orphanHandled s k before).plans = s.plans ∧ (orphanHandled s k before).divert = s.divert ∧
    (orphanHandled s k before).staging = s.staging ∧ (orphanHandled s k before).part = s.part ∧
    (orphanHandled s k before).port = s.port ∧ (orphanHandled s k before).pending = s.pending := by
  unfold orphanHandled; dsimp only; (repeat' split) <;> simp

@[simp] theorem loseClaim_frame (s : State) (c : Claim) :
    (loseClaim s c).config = s.config ∧ (loseClaim s c).pins = s.pins ∧ (loseClaim s c).loop = s.loop ∧
    (loseClaim s c).gate = s.gate ∧ (loseClaim s c).line = s.line ∧ (loseClaim s c).view = s.view ∧
    (loseClaim s c).divert = s.divert ∧ (loseClaim s c).staging = s.staging ∧ (loseClaim s c).part = s.part ∧
    (loseClaim s c).port = s.port ∧ (loseClaim s c).pending = s.pending := by
  unfold loseClaim; (repeat' split) <;> simp

@[simp] theorem winAndRelease_frame (s : State) (c : Claim) (r : ReleaseReason) :
    (winAndRelease s c r).config = s.config ∧ (winAndRelease s c r).pins = s.pins ∧
    (winAndRelease s c r).loop = s.loop ∧ (winAndRelease s c r).gate = s.gate ∧
    (winAndRelease s c r).line.state = s.line.state ∧ (winAndRelease s c r).line.rx = s.line.rx ∧
    (winAndRelease s c r).line.attempt = s.line.attempt ∧ (winAndRelease s c r).view = s.view ∧
    (winAndRelease s c r).divert = s.divert ∧ (winAndRelease s c r).staging = s.staging ∧
    (winAndRelease s c r).part = s.part ∧ (winAndRelease s c r).port = s.port ∧
    (winAndRelease s c r).pending = s.pending := by
  unfold winAndRelease; simp

@[simp] theorem armClaim_frame (s : State) (c : Claim) :
    (armClaim s c).config = s.config ∧ (armClaim s c).pins = s.pins ∧ (armClaim s c).loop = s.loop ∧
    (armClaim s c).gate = s.gate ∧ (armClaim s c).line = s.line ∧ (armClaim s c).view = s.view ∧
    (armClaim s c).plans = s.plans ∧ (armClaim s c).divert = s.divert ∧ (armClaim s c).staging = s.staging ∧
    (armClaim s c).part = s.part ∧ (armClaim s c).port = s.port ∧ (armClaim s c).pending = s.pending := by
  unfold armClaim; simp

@[simp] theorem winClaim_frame (s : State) (c : Claim) (before : ViewEntry) :
    (winClaim s c before).config = s.config ∧ (winClaim s c before).pins = s.pins ∧
    (winClaim s c before).loop = s.loop ∧ (winClaim s c before).gate = s.gate ∧
    (winClaim s c before).line.state = s.line.state ∧ (winClaim s c before).line.rx = s.line.rx ∧
    (winClaim s c before).line.attempt = s.line.attempt ∧ (winClaim s c before).view = s.view ∧
    (winClaim s c before).divert = s.divert ∧ (winClaim s c before).staging = s.staging ∧
    (winClaim s c before).part = s.part ∧ (winClaim s c before).port = s.port ∧
    (winClaim s c before).pending = s.pending := by
  unfold winClaim; (repeat' split) <;> simp

@[simp] theorem winDecision_frame (s : State) (c : Claim) (before : ViewEntry) :
    (winDecision s c before).config = s.config ∧ (winDecision s c before).pins = s.pins ∧
    (winDecision s c before).loop = s.loop ∧ (winDecision s c before).gate = s.gate ∧
    (winDecision s c before).line.state = s.line.state ∧ (winDecision s c before).line.rx = s.line.rx ∧
    (winDecision s c before).line.attempt = s.line.attempt ∧ (winDecision s c before).view = s.view ∧
    (winDecision s c before).divert = s.divert ∧ (winDecision s c before).staging = s.staging ∧
    (winDecision s c before).part.state = s.part.state ∧ (winDecision s c before).part.roster = s.part.roster ∧
    (winDecision s c before).part.digest = s.part.digest ∧ (winDecision s c before).port.response = s.port.response ∧
    (winDecision s c before).port.transaction = s.port.transaction ∧ (winDecision s c before).pending = s.pending := by
  unfold winDecision; dsimp only; (repeat' split) <;> simp

@[simp] theorem ownClaimHandled_frame (s : State) (k : Nat) (before : ViewEntry) :
    (ownClaimHandled s k before).config = s.config ∧ (ownClaimHandled s k before).pins = s.pins ∧
    (ownClaimHandled s k before).loop = s.loop ∧ (ownClaimHandled s k before).gate = s.gate ∧
    (ownClaimHandled s k before).line.state = s.line.state ∧ (ownClaimHandled s k before).line.rx = s.line.rx ∧
    (ownClaimHandled s k before).line.attempt = s.line.attempt ∧ (ownClaimHandled s k before).view = s.view ∧
    (ownClaimHandled s k before).divert = s.divert ∧ (ownClaimHandled s k before).staging = s.staging ∧
    (ownClaimHandled s k before).part.state = s.part.state ∧ (ownClaimHandled s k before).part.roster = s.part.roster ∧
    (ownClaimHandled s k before).part.digest = s.part.digest ∧
    (ownClaimHandled s k before).port.response = s.port.response ∧
    (ownClaimHandled s k before).port.transaction = s.port.transaction ∧
    (ownClaimHandled s k before).pending = s.pending := by
  unfold ownClaimHandled; (repeat' split) <;> simp

@[simp] theorem retestAnnounces_frame (s : State) (k : Nat) (before : ViewEntry) :
    (retestAnnounces s k before).config = s.config ∧ (retestAnnounces s k before).pins = s.pins ∧
    (retestAnnounces s k before).loop = s.loop ∧ (retestAnnounces s k before).gate = s.gate ∧
    (retestAnnounces s k before).line.state = s.line.state ∧ (retestAnnounces s k before).line.rx = s.line.rx ∧
    (retestAnnounces s k before).line.attempt = s.line.attempt ∧ (retestAnnounces s k before).view = s.view ∧
    (retestAnnounces s k before).plans = s.plans ∧ (retestAnnounces s k before).contest = s.contest ∧
    (retestAnnounces s k before).divert = s.divert ∧ (retestAnnounces s k before).staging = s.staging ∧
    (retestAnnounces s k before).part = s.part ∧ (retestAnnounces s k before).port = s.port ∧
    (retestAnnounces s k before).pending = s.pending := by
  unfold retestAnnounces; (repeat' split) <;> simp

@[simp] theorem markIfFreed_frame (s : State) (k : Nat) (before : ViewEntry) :
    (markIfFreed s k before).config = s.config ∧ (markIfFreed s k before).pins = s.pins ∧
    (markIfFreed s k before).loop = s.loop ∧ (markIfFreed s k before).gate = s.gate ∧
    (markIfFreed s k before).line = s.line ∧ (markIfFreed s k before).view = s.view ∧
    (markIfFreed s k before).plans = s.plans ∧ (markIfFreed s k before).divert = s.divert ∧
    (markIfFreed s k before).staging = s.staging ∧ (markIfFreed s k before).part = s.part ∧
    (markIfFreed s k before).port = s.port ∧ (markIfFreed s k before).counters = s.counters ∧
    (markIfFreed s k before).pending = s.pending := by
  unfold markIfFreed; (repeat' split) <;> simp

@[simp] theorem applyAnnounce_frame (s : State) (k : Nat) (sender : Station) (c : CaseId) :
    (applyAnnounce s k sender c).config = s.config ∧ (applyAnnounce s k sender c).pins = s.pins ∧
    (applyAnnounce s k sender c).loop = s.loop ∧ (applyAnnounce s k sender c).gate = s.gate ∧
    (applyAnnounce s k sender c).line.state = s.line.state ∧ (applyAnnounce s k sender c).line.rx = s.line.rx ∧
    (applyAnnounce s k sender c).line.attempt = s.line.attempt ∧ (applyAnnounce s k sender c).divert = s.divert ∧
    (applyAnnounce s k sender c).staging = s.staging ∧ (applyAnnounce s k sender c).part.state = s.part.state ∧
    (applyAnnounce s k sender c).part.roster = s.part.roster ∧
    (applyAnnounce s k sender c).part.digest = s.part.digest ∧
    (applyAnnounce s k sender c).port.response = s.port.response ∧
    (applyAnnounce s k sender c).port.transaction = s.port.transaction ∧
    (applyAnnounce s k sender c).pending = s.pending := by
  unfold applyAnnounce; dsimp only; (repeat' split) <;> simp

@[simp] theorem applyClaim_frame (s : State) (own : Bool) (k : Nat) (sender : Station) (p : PlaceId) :
    (applyClaim s own k sender p).config = s.config ∧ (applyClaim s own k sender p).pins = s.pins ∧
    (applyClaim s own k sender p).loop = s.loop ∧ (applyClaim s own k sender p).gate = s.gate ∧
    (applyClaim s own k sender p).line.state = s.line.state ∧ (applyClaim s own k sender p).line.rx = s.line.rx ∧
    (applyClaim s own k sender p).line.attempt = s.line.attempt ∧ (applyClaim s own k sender p).divert = s.divert ∧
    (applyClaim s own k sender p).staging = s.staging ∧ (applyClaim s own k sender p).part.state = s.part.state ∧
    (applyClaim s own k sender p).part.roster = s.part.roster ∧
    (applyClaim s own k sender p).part.digest = s.part.digest ∧
    (applyClaim s own k sender p).port.response = s.port.response ∧
    (applyClaim s own k sender p).port.transaction = s.port.transaction ∧
    (applyClaim s own k sender p).pending = s.pending := by
  unfold applyClaim; dsimp only; (repeat' split) <;> simp

@[simp] theorem applyRelease_frame (s : State) (k : Nat) (sender : Station) :
    (applyRelease s k sender).config = s.config ∧ (applyRelease s k sender).pins = s.pins ∧
    (applyRelease s k sender).loop = s.loop ∧ (applyRelease s k sender).gate = s.gate ∧
    (applyRelease s k sender).line.state = s.line.state ∧ (applyRelease s k sender).line.rx = s.line.rx ∧
    (applyRelease s k sender).line.attempt = s.line.attempt ∧ (applyRelease s k sender).plans = s.plans ∧
    (applyRelease s k sender).divert = s.divert ∧ (applyRelease s k sender).staging = s.staging ∧
    (applyRelease s k sender).part = s.part ∧ (applyRelease s k sender).port = s.port ∧
    (applyRelease s k sender).pending = s.pending := by
  unfold applyRelease; simp

@[simp] theorem applyTaken_frame (s : State) (own : Bool) (k : Nat) :
    (applyTaken s own k).config = s.config ∧ (applyTaken s own k).pins = s.pins ∧ (applyTaken s own k).loop = s.loop ∧
    (applyTaken s own k).gate = s.gate ∧ (applyTaken s own k).line.state = s.line.state ∧
    (applyTaken s own k).line.rx = s.line.rx ∧ (applyTaken s own k).line.attempt = s.line.attempt ∧
    (applyTaken s own k).divert = s.divert ∧ (applyTaken s own k).staging = s.staging ∧
    (applyTaken s own k).part.state = s.part.state ∧ (applyTaken s own k).part.roster = s.part.roster ∧
    (applyTaken s own k).part.digest = s.part.digest ∧ (applyTaken s own k).port.response = s.port.response ∧
    (applyTaken s own k).port.transaction = s.port.transaction ∧ (applyTaken s own k).pending = s.pending := by
  unfold applyTaken; dsimp only; (repeat' split) <;> simp

@[simp] theorem applyFrame_frame (s : State) (own : Bool) (f : Frame) :
    (applyFrame s own f).config = s.config ∧ (applyFrame s own f).pins = s.pins ∧ (applyFrame s own f).loop = s.loop ∧
    (applyFrame s own f).gate = s.gate ∧ (applyFrame s own f).line.state = s.line.state ∧
    (applyFrame s own f).line.rx = s.line.rx ∧ (applyFrame s own f).line.attempt = s.line.attempt ∧
    (applyFrame s own f).divert = s.divert ∧ (applyFrame s own f).staging = s.staging ∧
    (applyFrame s own f).part.state = s.part.state ∧ (applyFrame s own f).part.roster = s.part.roster ∧
    (applyFrame s own f).part.digest = s.part.digest ∧ (applyFrame s own f).port.response = s.port.response ∧
    (applyFrame s own f).port.transaction = s.port.transaction ∧ (applyFrame s own f).pending = s.pending := by
  unfold applyFrame; (repeat' split) <;> simp

@[simp] theorem reportAnnounce_frame (s : State) (f : Frame) :
    (reportAnnounce s f).config = s.config ∧ (reportAnnounce s f).pins = s.pins ∧ (reportAnnounce s f).loop = s.loop ∧
    (reportAnnounce s f).gate = s.gate ∧ (reportAnnounce s f).line = s.line ∧ (reportAnnounce s f).view = s.view ∧
    (reportAnnounce s f).plans = s.plans ∧ (reportAnnounce s f).contest = s.contest ∧
    (reportAnnounce s f).divert = s.divert ∧ (reportAnnounce s f).staging = s.staging ∧
    (reportAnnounce s f).part = s.part ∧ (reportAnnounce s f).port = s.port ∧
    (reportAnnounce s f).pending = s.pending := by
  unfold reportAnnounce; (repeat' split) <;> simp

@[simp] theorem dispatchFrame_frame (s : State) (own : Bool) (f : Frame) :
    (dispatchFrame s own f).config = s.config ∧ (dispatchFrame s own f).pins = s.pins ∧
    (dispatchFrame s own f).loop = s.loop ∧ (dispatchFrame s own f).gate = s.gate ∧
    (dispatchFrame s own f).line.state = s.line.state ∧ (dispatchFrame s own f).line.rx = s.line.rx ∧
    (dispatchFrame s own f).line.attempt = s.line.attempt ∧ (dispatchFrame s own f).divert = s.divert ∧
    (dispatchFrame s own f).staging = s.staging ∧ (dispatchFrame s own f).part.digest = s.part.digest ∧
    (dispatchFrame s own f).port.response = s.port.response ∧
    (dispatchFrame s own f).port.transaction = s.port.transaction ∧ (dispatchFrame s own f).pending = s.pending := by
  unfold dispatchFrame; dsimp only; (repeat' split) <;> simp

@[simp] theorem handleFrame_frame (s : State) (r : RxFrame) :
    (handleFrame s r).config = s.config ∧ (handleFrame s r).pins = s.pins ∧ (handleFrame s r).loop = s.loop ∧
    (handleFrame s r).gate = s.gate ∧ (handleFrame s r).line.state = s.line.state ∧
    (handleFrame s r).line.rx = s.line.rx ∧ (handleFrame s r).line.attempt = s.line.attempt ∧
    (handleFrame s r).divert = s.divert ∧ (handleFrame s r).staging = s.staging ∧
    (handleFrame s r).part.digest = s.part.digest ∧ (handleFrame s r).port.response = s.port.response ∧
    (handleFrame s r).port.transaction = s.port.transaction ∧ (handleFrame s r).pending = s.pending := by
  unfold handleFrame; (repeat' split) <;> simp

@[simp] theorem frameHandled_frame (s : State) :
    (frameHandled s).config = s.config ∧ (frameHandled s).pins = s.pins ∧ (frameHandled s).loop = s.loop ∧
    (frameHandled s).gate = s.gate ∧ (frameHandled s).line.state = s.line.state ∧
    (frameHandled s).line.attempt = s.line.attempt ∧ (frameHandled s).divert = s.divert ∧
    (frameHandled s).staging = s.staging ∧ (frameHandled s).part.digest = s.part.digest ∧
    (frameHandled s).port.response = s.port.response ∧ (frameHandled s).port.transaction = s.port.transaction ∧
    (frameHandled s).pending = s.pending := by
  unfold frameHandled; (repeat' split) <;> simp

@[simp] theorem elapse_frame (s : State) (ms : Nat) :
    (elapse s ms).config = s.config ∧ (elapse s ms).pins = s.pins ∧
    (elapse s ms).line = { s.line with stuckTimer := s.line.stuckTimer.map (advance Config.stuckLimit ms) } ∧
    (elapse s ms).view = s.view ∧ (elapse s ms).plans = s.plans ∧ (elapse s ms).contest = s.contest ∧
    (elapse s ms).staging = s.staging ∧ (elapse s ms).part.state = s.part.state ∧
    (elapse s ms).part.roster = s.part.roster ∧ (elapse s ms).part.digest = s.part.digest ∧
    (elapse s ms).port = s.port ∧ (elapse s ms).pending = s.pending := by
  unfold elapse; dsimp only; (repeat' split) <;> simp

@[simp] theorem stopLoop_frame (s : State) :
    (stopLoop s).config = s.config ∧ (stopLoop s).pins = s.pins ∧ (stopLoop s).gate = s.gate ∧
    (stopLoop s).line = s.line ∧ (stopLoop s).view = s.view ∧ (stopLoop s).plans = s.plans ∧
    (stopLoop s).contest = s.contest ∧ (stopLoop s).divert = s.divert ∧ (stopLoop s).staging = s.staging ∧
    (stopLoop s).part.state = s.part.state ∧ (stopLoop s).part.roster = s.part.roster ∧
    (stopLoop s).part.digest = s.part.digest ∧ (stopLoop s).port.response = s.port.response ∧
    (stopLoop s).port.transaction = s.port.transaction ∧ (stopLoop s).counters = s.counters ∧
    (stopLoop s).pending = s.pending := by
  unfold stopLoop; simp

@[simp] theorem jamDivert_frame (s : State) :
    (jamDivert s).config = s.config ∧ (jamDivert s).pins = s.pins ∧ (jamDivert s).loop = s.loop ∧
    (jamDivert s).gate = s.gate ∧ (jamDivert s).line.state = s.line.state ∧ (jamDivert s).line.rx = s.line.rx ∧
    (jamDivert s).line.attempt = s.line.attempt ∧ (jamDivert s).staging = s.staging ∧
    (jamDivert s).part.roster = s.part.roster ∧ (jamDivert s).part.digest = s.part.digest ∧
    (jamDivert s).port.response = s.port.response ∧ (jamDivert s).port.transaction = s.port.transaction ∧
    (jamDivert s).pending = s.pending := by
  unfold jamDivert; simp

@[simp] theorem endPlaceCondition_frame (s : State) (p : PlaceId) :
    (endPlaceCondition s p).config = s.config ∧ (endPlaceCondition s p).pins = s.pins ∧
    (endPlaceCondition s p).loop = s.loop ∧ (endPlaceCondition s p).gate = s.gate ∧
    (endPlaceCondition s p).line.state = s.line.state ∧ (endPlaceCondition s p).line.rx = s.line.rx ∧
    (endPlaceCondition s p).line.attempt = s.line.attempt ∧ (endPlaceCondition s p).view = s.view ∧
    (endPlaceCondition s p).divert = s.divert ∧ (endPlaceCondition s p).part.roster = s.part.roster ∧
    (endPlaceCondition s p).part.digest = s.part.digest ∧ (endPlaceCondition s p).port.response = s.port.response ∧
    (endPlaceCondition s p).port.transaction = s.port.transaction ∧ (endPlaceCondition s p).pending = s.pending := by
  unfold endPlaceCondition; dsimp only; (repeat' split) <;> simp

@[simp] theorem placeTimerEnd_frame (s : State) (p : PlaceId) :
    (placeTimerEnd s p).config = s.config ∧ (placeTimerEnd s p).pins = s.pins ∧ (placeTimerEnd s p).loop = s.loop ∧
    (placeTimerEnd s p).gate = s.gate ∧ (placeTimerEnd s p).line.state = s.line.state ∧
    (placeTimerEnd s p).line.rx = s.line.rx ∧ (placeTimerEnd s p).line.attempt = s.line.attempt ∧
    (placeTimerEnd s p).view = s.view ∧ (placeTimerEnd s p).divert = s.divert ∧
    (placeTimerEnd s p).part.roster = s.part.roster ∧ (placeTimerEnd s p).part.digest = s.part.digest ∧
    (placeTimerEnd s p).port.response = s.port.response ∧ (placeTimerEnd s p).port.transaction = s.port.transaction ∧
    (placeTimerEnd s p).pending = s.pending := by
  unfold placeTimerEnd; (repeat' split) <;> simp

@[simp] theorem loopStopped_frame (s : State) :
    (loopStopped s).config = s.config ∧ (loopStopped s).pins = s.pins ∧
    (loopStopped s).line.state = s.line.state ∧ (loopStopped s).line.tx = s.line.tx ∧
    (loopStopped s).line.rx = s.line.rx ∧ (loopStopped s).line.attempt = s.line.attempt ∧
    (loopStopped s).view = s.view ∧ (loopStopped s).plans = s.plans ∧ (loopStopped s).contest = s.contest ∧
    (loopStopped s).staging = s.staging ∧ (loopStopped s).part.state = s.part.state ∧
    (loopStopped s).part.roster = s.part.roster ∧ (loopStopped s).part.digest = s.part.digest ∧
    (loopStopped s).port.response = s.port.response ∧ (loopStopped s).port.transaction = s.port.transaction ∧
    (loopStopped s).pending = s.pending := by
  unfold loopStopped; (repeat' split) <;> simp

@[simp] theorem reportGapTimeout_frame (s : State) :
    (reportGapTimeout s).config = s.config ∧ (reportGapTimeout s).pins = s.pins ∧
    (reportGapTimeout s).line.state = s.line.state ∧ (reportGapTimeout s).line.rx = s.line.rx ∧
    (reportGapTimeout s).line.attempt = s.line.attempt ∧ (reportGapTimeout s).view = s.view ∧
    (reportGapTimeout s).plans = s.plans ∧ (reportGapTimeout s).contest = s.contest ∧
    (reportGapTimeout s).staging = s.staging ∧ (reportGapTimeout s).part.state = s.part.state ∧
    (reportGapTimeout s).part.roster = s.part.roster ∧ (reportGapTimeout s).part.digest = s.part.digest ∧
    (reportGapTimeout s).port = s.port ∧ (reportGapTimeout s).pending = s.pending := by
  unfold reportGapTimeout; (repeat' split) <;> simp

@[simp] theorem divertJam_frame (s : State) :
    (divertJam s).config = s.config ∧ (divertJam s).pins = s.pins ∧ (divertJam s).line.state = s.line.state ∧
    (divertJam s).line.rx = s.line.rx ∧ (divertJam s).line.attempt = s.line.attempt ∧
    (divertJam s).staging = s.staging ∧ (divertJam s).part.roster = s.part.roster ∧
    (divertJam s).part.digest = s.part.digest ∧ (divertJam s).port.response = s.port.response ∧
    (divertJam s).port.transaction = s.port.transaction ∧ (divertJam s).pending = s.pending := by
  unfold divertJam; (repeat' split) <;> simp

@[simp] theorem lineStuck_frame (s : State) :
    (lineStuck s).config = s.config ∧ (lineStuck s).pins = s.pins ∧ (lineStuck s).staging = s.staging ∧
    (lineStuck s).part.roster = s.part.roster ∧ (lineStuck s).part.digest = s.part.digest ∧
    (lineStuck s).pending = s.pending := by
  unfold lineStuck; (repeat' split) <;> simp

@[simp] theorem placeReadyTimer_frame (s : State) (p : PlaceId) :
    (placeReadyTimer s p).config = s.config ∧ (placeReadyTimer s p).pins = s.pins ∧
    (placeReadyTimer s p).line.state = s.line.state ∧ (placeReadyTimer s p).line.rx = s.line.rx ∧
    (placeReadyTimer s p).line.attempt = s.line.attempt ∧ (placeReadyTimer s p).view = s.view ∧
    (placeReadyTimer s p).part.roster = s.part.roster ∧ (placeReadyTimer s p).part.digest = s.part.digest ∧
    (placeReadyTimer s p).port.response = s.port.response ∧
    (placeReadyTimer s p).port.transaction = s.port.transaction ∧ (placeReadyTimer s p).pending = s.pending := by
  unfold placeReadyTimer; (repeat' split) <;> simp

@[simp] theorem watchdogExpiry_frame (s : State) :
    (watchdogExpiry s).config = s.config ∧ (watchdogExpiry s).pins = s.pins ∧
    (watchdogExpiry s).line.state = s.line.state ∧ (watchdogExpiry s).line.rx = s.line.rx ∧
    (watchdogExpiry s).line.attempt = s.line.attempt ∧ (watchdogExpiry s).view = s.view ∧
    (watchdogExpiry s).staging = s.staging ∧ (watchdogExpiry s).part.roster = s.part.roster ∧
    (watchdogExpiry s).part.digest = s.part.digest ∧ (watchdogExpiry s).port.response = s.port.response ∧
    (watchdogExpiry s).port.transaction = s.port.transaction ∧ (watchdogExpiry s).pending = s.pending := by
  unfold watchdogExpiry; (repeat' split) <;> simp

@[simp] theorem setPlaceReady_frame (s : State) (p : PlaceId) (level : Bool) :
    (setPlaceReady s p level).config = s.config ∧ (setPlaceReady s p level).loop = s.loop ∧
    (setPlaceReady s p level).gate = s.gate ∧ (setPlaceReady s p level).line = s.line ∧
    (setPlaceReady s p level).view = s.view ∧ (setPlaceReady s p level).plans = s.plans ∧
    (setPlaceReady s p level).contest = s.contest ∧ (setPlaceReady s p level).divert = s.divert ∧
    (setPlaceReady s p level).staging = s.staging ∧ (setPlaceReady s p level).part = s.part ∧
    (setPlaceReady s p level).port = s.port ∧ (setPlaceReady s p level).counters = s.counters ∧
    (setPlaceReady s p level).pending = s.pending := by
  unfold setPlaceReady; simp

@[simp] theorem placeReadyRise_frame (s : State) (p : PlaceId) :
    (placeReadyRise s p).config = s.config ∧ (placeReadyRise s p).loop = s.loop ∧ (placeReadyRise s p).gate = s.gate ∧
    (placeReadyRise s p).line = s.line ∧ (placeReadyRise s p).view = s.view ∧ (placeReadyRise s p).plans = s.plans ∧
    (placeReadyRise s p).contest = s.contest ∧ (placeReadyRise s p).divert = s.divert ∧
    (placeReadyRise s p).staging = s.staging ∧ (placeReadyRise s p).part.state = s.part.state ∧
    (placeReadyRise s p).part.roster = s.part.roster ∧ (placeReadyRise s p).part.digest = s.part.digest ∧
    (placeReadyRise s p).port = s.port ∧ (placeReadyRise s p).counters = s.counters ∧
    (placeReadyRise s p).pending = s.pending := by
  unfold placeReadyRise; dsimp only; (repeat' split) <;> simp

@[simp] theorem placeReadyFall_frame (s : State) (p : PlaceId) :
    (placeReadyFall s p).config = s.config ∧ (placeReadyFall s p).loop = s.loop ∧ (placeReadyFall s p).gate = s.gate ∧
    (placeReadyFall s p).line = s.line ∧ (placeReadyFall s p).view = s.view ∧ (placeReadyFall s p).plans = s.plans ∧
    (placeReadyFall s p).contest = s.contest ∧ (placeReadyFall s p).divert = s.divert ∧
    (placeReadyFall s p).staging = s.staging ∧ (placeReadyFall s p).part.state = s.part.state ∧
    (placeReadyFall s p).part.roster = s.part.roster ∧ (placeReadyFall s p).part.digest = s.part.digest ∧
    (placeReadyFall s p).port = s.port ∧ (placeReadyFall s p).counters = s.counters ∧
    (placeReadyFall s p).pending = s.pending := by
  unfold placeReadyFall; dsimp only; (repeat' split) <;> simp

end Sys2Proof.Laws
end

