-- ==== Sys2Proof/Tests/Slice0.lean ====
section
/-! SUPPORT. Tests of the commands against the spec's rules and worked examples, the well-formedness smoke, and for each statement a witness of its hypotheses. -/

set_option Elab.async false

namespace Sys2Proof.Tests

open Sys2Proof Sys2Proof.Machine Sys2Proof.Safety

/-! ### Small states: the 64-slot hall of the spec's examples, seen by station 5 -/

/-- Whether a command answers a next state that p accepts. -/
def leaves (c : Instr) (s : State) (p : State → Bool) : Bool :=
  match exec c s with
  | .next t => p t
  | .fault _ => false
  | .refused _ => false

/-- Whether two commands answer one state. -/
def sameNext (c d : Instr) (s : State) : Bool :=
  match exec c s, exec d s with
  | .next t, .next u => t == u
  | _, _ => false

/-- The hall of 09, with the timing of the examples of 01, 03 and 07 and the lane of 08. -/
def hall64 : Configuration :=
  { hallSize := some ⟨64, 128⟩
    hall := (((Vector.replicate 16 none).set 2 (some ⟨300, 1200⟩)).set 5 (some ⟨1000, 2300⟩)).set 8 (some ⟨4000, 4900⟩)
    own := some ⟨5, 0x3f, 6, 2⟩
    timing := some ⟨24, 4, 4, 200, 600, 40, 100, 1000, 500, 200⟩
    policy := some ⟨.place, .latched, .warn, 10, 100⟩ }

/-- Station 5 after GO, ALIGNED at counter 50 on a free line, with an empty view. -/
def started (st : Participation) : State :=
  { State.reset with
    config := hall64
    loop := ⟨50, true, false, 0, true, some 0⟩
    line := { HallLine.reset with state := .free }
    view := List.replicate 64 .empty
    part := { FaultUnit.reset with state := st, digest := some 7994, watchdog := .running } }

/-- The same with the counter at c and, where asked, the mark awaited. -/
def atCounter (c : Nat) (awaited : Bool) : State := (started .active).setLoop ⟨c, true, awaited, 0, true, some 0⟩

/-- The same with the loop not yet aligned. -/
def unaligned (st : Participation) (c : Nat) : State := (started st).setLoop ⟨c, false, false, 0, true, some 0⟩

def claim (k : Nat) (g : Target) (st : ClaimState) (f : Option Nat) : Claim := ⟨k, g, .current, st, f, none, false, false⟩

def withClaims (s : State) (cs : List Claim) : State := s.setContest ⟨cs, [], false⟩

def withLine (s : State) (f : HallLine → HallLine) : State := s.setLine (f s.line)

def withGate (s : State) (d : GateDeglitch) (es : List PendingEdge) : State := s.setGate ⟨d, es, [], 0⟩

def withPlace (s : State) (p : PlaceId) (x : Place) : State :=
  let s1 := setPlace s p x
  match x.state with
  | .building | .suspended => s1.setPlans { s1.plans with buildOrder := s1.plans.buildOrder ++ [p] }
  | .loading => s1.setPlans { s1.plans with loader := some p }
  | .empty | .complete | .cancelling => s1

def withRecords (s : State) (rs : List StagingRecord) (next : Nat) : State := s.setStaging ⟨rs, next, 0, 0⟩

/-- Only the loop-stopped timer runs, at n ms. -/
def stopping (n : Nat) : State :=
  ((started .active).setLoop ⟨50, true, false, 0, true, some n⟩).setPart { (started .active).part with watchdog := .off }

/-- A place with the lines of its tiers given from tier 1. -/
def plan (st : PlaceState) (n : Nat) (current : Option Nat) (tiers : List (List Line)) : Place :=
  ⟨st, some 77, some n, current, tiers ++ List.replicate (12 - tiers.length) []⟩

def counting (s : State) (e : CounterEvent) (f : Filter) : State := s.setCounters (s.counters.set 1 ⟨0, some e, f⟩)

def mark (s : State) (f : FaultId) (e : FaultEntry) : State := setFault s f e

def keg : CaseId := ⟨40117, .keg⟩
def crate : CaseId := ⟨51002, .crate⟩
def tray : CaseId := ⟨64220, .tray⟩

/-! ### Well-formedness: an ill-formed operand is refused by each check -/

theorem test_wellFormed_report_empty : (Instr.scannerReport []).wellFormed = false := by decide
theorem test_wellFormed_report_long : (Instr.scannerReport (List.replicate 7 ⟨0, true⟩)).wellFormed = false := by decide
theorem test_wellFormed_frame_empty : (Instr.frameReceived [] false).wellFormed = false := by decide
theorem test_wellFormed_frame_long : (Instr.frameReceived [16, 0, 0, 0, 0] false).wellFormed = false := by decide
theorem test_wellFormed_key_empty : (Instr.arbitrationEnd []).wellFormed = false := by decide
theorem test_wellFormed_key_long : (Instr.arbitrationEnd [68, 18, 161, 0]).wellFormed = false := by decide
theorem test_wellFormed_incomplete_whole : (Instr.transactionIncomplete 128).wellFormed = false := by decide
theorem test_wellFormed_checkError_short : (Instr.checkError [0]).wellFormed = false := by decide
theorem test_wellFormed_checkError_good : (Instr.checkError (List.replicate 15 0 ++ [255])).wellFormed = false := by decide
theorem test_wellFormed_unknownCommand_known : (Instr.unknownCommand 21).wellFormed = false := by decide
theorem test_wellFormed_staging_arrival : (Instr.readStagingSummary 0).wellFormed = false := by decide
theorem test_wellFormed_staging_index : (Instr.readStagingSummary 1).wellFormed = false := by decide
theorem test_wellFormed_accepts : (Instr.checkError (List.replicate 16 0)).wellFormed = true ∧
    (Instr.unknownCommand 4).wellFormed = true ∧ (Instr.readStagingSummary 2).wellFormed = true ∧
    (Instr.arbitrationEnd [68, 18, 161]).wellFormed = true := by decide

/-! ### Slots (01, "slot arithmetic on a 64-slot loop") -/

theorem test_edge_slot : edgeSlot (atCounter 3500 false) 3500 = 19 := by decide
theorem test_slot19_at_3500 : slotPosition (atCounter 3500 false) 19 = 1068 ∧ pulsesToFire (atCounter 3500 false) 19 = 1232 ∧
    slotDistance (atCounter 3500 false) 19 = 9 ∧ reachable (atCounter 3500 false) 19 = true := by decide
theorem test_slot19_at_4200 : pulsesToFire (atCounter 4200 false) 19 = 532 ∧ reachable (atCounter 4200 false) 19 = false := by
  decide
theorem test_slot19_passed : reachable (atCounter 5000 false) 19 = false := by decide
theorem test_slot19_fire_position : firePosition (atCounter 0 false) 19 = 4732 := by decide
theorem test_slot60_wraps : slotPosition (atCounter 200 false) 60 = 712 ∧ firePosition (atCounter 200 false) 60 = 1788 ∧
    pulsesToFire (atCounter 200 false) 60 = 1588 ∧ slotDistance (atCounter 200 false) 60 = 12 := by decide

/-! ### Marks and pulses (01, "realignment and an index slip"; R4, R5, R14) -/

/-- An ARMED claim for slot 46, whose fire position is 8,188. -/
def armed46 (c : Nat) : State := withClaims (atCounter c true) [claim 46 ⟨0, 1, 1⟩ .armed (some 8188)]

theorem test_mark_first : leaves .indexMark (unaligned .active 3117) (fun t => t.loop.counter == 0 && t.loop.aligned) = true := by
  decide +kernel
theorem test_mark_early_fires : leaves .indexMark (armed46 8180)
    (fun t => t.loop.counter == 0 && t.divert.output && (t.claimAt 46).map (·.state) == some .firing) = true := by
  decide +kernel
theorem test_pulse_sets_awaited : leaves .forwardPulse (atCounter 8167 false)
    (fun t => t.loop.counter == 8168 && t.loop.markAwaited) = true := by decide +kernel
theorem test_pulse_missing : leaves .forwardPulse (atCounter 24 true)
    (fun t => t.loop.counter == 25 && t.part.slipCause == some .missing && t.part.state == .withdrawn) = true := by
  decide +kernel
theorem test_reverse_seventh : leaves .reversePulse ((atCounter 9 false).setLoop ⟨9, true, false, 6, true, some 0⟩)
    (fun t => t.loop.counter == 9 && t.loop.reverseTally == 7 && !t.indicated .loopReverse) = true := by decide +kernel
theorem test_reverse_eighth : leaves .reversePulse ((atCounter 9 false).setLoop ⟨9, true, false, 7, true, some 0⟩)
    (fun t => t.loop.reverseTally == 0 && t.indicated .loopReverse && t.part.state == .withdrawn) = true := by
  decide +kernel
theorem test_loopStopped : leaves .loopStopped (started .active)
    (fun t => !t.loop.running && t.loop.stopTimer == none && t.port.notices == [.loopStopped]) = true := by decide +kernel

/-! ### The gate (03, "edges, reports and an announcement") -/

def code (b : List Byte) : List ScanChar := b.map (fun x => ⟨x, true⟩)

/-- The report of the KEG 40,117: kind 1, bytes 0, 156 and 181, form 3, check 170. -/
def kegReport : List ScanChar := code [1, 0, 156, 181, 3, 170]

theorem test_gateEyeRise : leaves .gateEyeRise (atCounter 3500 false)
    (fun t => t.gate.deglitch == .blocking 3500 true 0 && t.pins.gateEye) = true := by decide +kernel
theorem test_gateEyeFall : leaves .gateEyeFall (withGate (atCounter 3560 false) .blocked [])
    (fun t => t.gate.deglitch == .clearing 0) = true := by decide +kernel
theorem test_gateEdgeAccepted : leaves .gateEdgeAccepted (withGate (atCounter 3503 false) (.blocking 3500 true 3) [])
    (fun t => t.gate.deglitch == .blocked && t.gate.edges == [⟨3500, 19, 0, false⟩] && t.loop.counter == 3504) = true := by
  decide +kernel
theorem test_gateEdge_not_due : leaves .gateEdgeAccepted (withGate (atCounter 3502 false) (.blocking 3500 true 2) [])
    (fun t => t.gate.edges == [] && t.loop.counter == 3502) = true := by decide +kernel
theorem test_gateCleared : leaves .gateCleared (withGate (atCounter 3603 false) (.clearing 3) [])
    (fun t => t.gate.deglitch == .clear) = true := by decide +kernel
theorem test_edgeExpired : leaves .edgeExpired
    (counting (withGate (atCounter 3833 false) .clear [⟨3630, 20, 199, false⟩, ⟨3760, 21, 69, false⟩]) .noRead .none)
    (fun t => t.gate.edges == [⟨3760, 21, 70, false⟩] && t.counters[1].value == 1) = true := by decide +kernel
theorem test_report_announces : leaves (.scannerReport kegReport)
    (withGate (atCounter 3650 false) .blocked [⟨3500, 19, 146, false⟩, ⟨3630, 20, 16, false⟩])
    (fun t => t.gate.edges == [⟨3630, 20, 16, false⟩] && t.line.tx == [TxFrame.waiting (.announce 19 keg)]) = true := by
  decide +kernel
theorem test_report_form_seven : leaves (.scannerReport (code [1, 0, 156, 181, 7, 166]))
    (counting (withGate (atCounter 3840 false) .clear [⟨3760, 21, 76, false⟩]) .noRead .none)
    (fun t => t.gate.edges == [] && t.line.tx == [] && t.counters[1].value == 1) = true := by decide +kernel
theorem test_character_sixth_stray : leaves (.scannerCharacter ⟨170, true⟩)
    (counting ((atCounter 3900 false).setGate ⟨.clear, [], code [1, 0, 156, 181, 3], 0⟩) .scanStray .none)
    (fun t => t.gate.report == [] && t.line.tx == [] && t.counters[1].value == 1) = true := by decide +kernel
theorem test_reportGap : leaves .reportGapTimeout ((atCounter 60 false).setGate ⟨.clear, [⟨50, 63, 9, false⟩], code [1, 0], 0⟩)
    (fun t => t.gate.report == [] && t.gate.edges == [] && t.gate.gap == 0) = true := by decide +kernel

/-! ### The hall line (04, "one frame on the line", "a repeat around an intervening frame") -/

/-- CLAIM(slot 12, sender 3, place 2), CURRENT at distance 9. -/
def claim12 : Frame := .claim 1 9 3 12 2

theorem test_claim_bytes : claim12.bytes = [68, 18, 96, 203, 126] := by decide
theorem test_claim_key : keyBits claim12.kind = 19 := by decide

/-- Station 5 with the own CLAIM for slot 22 queued for place 1, tier 2, line 3 (06, "a three-station contest"). -/
def contest22 (c : Nat) (st : ClaimState) : State :=
  withClaims (withPlace (atCounter c false) 1 (plan .building 2 (some 2)
    [[], [⟨crate, 2, 0, 0, 2⟩, ⟨keg, 2, 0, 0, 0⟩, ⟨tray, 4, 1, 1, 0⟩]])) [claim 22 ⟨1, 2, 3⟩ st none]

/-- The own CLAIM of slot 22 as it stands in the transmit queue. -/
def tx22 (sending inAttempt : Bool) : TxFrame := ⟨.claim .current 22 1, sending, inAttempt, false, false⟩

/-- The attempt or send of that CLAIM at counter 3,914. -/
def sending22 (won : Bool) (repeats : Nat) (sending : Bool) : State :=
  withLine (contest22 3914 (if sending then .sending else .queued)) (fun l =>
    { l with state := .carrying, repeatCount := repeats, tx := [tx22 sending true],
             attempt := some ⟨.claim 1 9 5 22 1, won, if won then some false else none⟩ })

theorem test_startBit : leaves .startBitBegins (started .active) (fun t => t.line.state == .carrying) = true := by
  decide +kernel
theorem test_lineFree : leaves .lineFree (withLine (started .active) (fun l => { l with state := .seeking, recessiveRun := 3 }))
    (fun t => t.line.state == .free && t.line.recessiveRun == 12) = true := by decide +kernel
theorem test_lineFree_stuck : leaves .lineFree (withLine (started .active) (fun l => { l with state := .seeking, stuck := true }))
    (fun t => t.line.state == .seeking) = true := by decide +kernel
theorem test_attempt_distance : leaves .sendAttempt (withLine (contest22 3914 .queued) (fun l => { l with tx := [tx22 false false] }))
    (fun t => t.line.attempt.map (·.sent) == some (.claim 1 9 5 22 1) && t.line.state == .carrying) = true := by
  decide +kernel
theorem test_attempt_order : leaves .sendAttempt (withLine (started .active) (fun l =>
    { l with tx := [TxFrame.waiting (.withdraw 0), TxFrame.waiting (.announce 4 keg), TxFrame.waiting (.missed 9)] }))
    (fun t => t.line.attempt.map (·.sent) == some (.missed 9 5)) = true := by decide +kernel
/-- The bytes that carry the key of the own CLAIM of slot 22, and those of slot 12's, whose sender 3 makes the smaller key. -/
def ownKey : List Byte := [68, 18, 161]
def lowerKey : List Byte := [68, 18, 96]

theorem test_arbitration_won : leaves (.arbitrationEnd ownKey) (sending22 false 0 false)
    (fun t => t.line.repeatCount == 1 && (t.claimAt 22).map (·.state) == some .sending && t.line.tx == [tx22 true true]) = true := by
  decide +kernel
theorem test_arbitration_lost : leaves (.arbitrationEnd lowerKey) (sending22 false 0 false)
    (fun t => t.line.tx == [tx22 false false] && t.line.attempt == none) = true := by decide +kernel
/-- A dominant bit read after the key is no loss (R63, R64). -/
theorem test_arbitration_after_key : leaves (.arbitrationEnd [68, 18, 160]) (sending22 false 0 false)
    (fun t => t.line.attempt.map (·.won) == some true) = true := by decide +kernel
/-- The station's own refusal of a CLAIM, counted for its place (R66, R77). -/
theorem test_own_refusal_place : leaves (.frameReceived [68, 18, 161, 97, 28] true)
    (counting (withLine (sending22 true 1 true) (fun l => { l with attempt := some ⟨.claim 1 9 5 22 1, true, none⟩ }))
      .frameRefusedByMe (.place 1))
    (fun t => t.counters[1].value == 1 && t.line.attempt.map (·.ownRefuse) == some (some true)) = true := by decide +kernel
theorem test_received_stored : leaves (.frameReceived [68, 18, 96, 203, 126] false) (started .active)
    (fun t => t.line.rx == [⟨claim12, false⟩] && t.line.answer == some .accept) = true := by decide +kernel
theorem test_received_full : leaves (.frameReceived [68, 18, 96, 203, 126] false)
    (counting (withLine (started .active) (fun l => { l with rx := List.replicate 8 ⟨claim12, false⟩ })) .frameRefusedByMe (.station 3))
    (fun t => t.line.rx.length == 8 && t.line.answer == some .refuse && t.counters[1].value == 1) = true := by decide +kernel
theorem test_frameEnd_accepted : leaves (.frameEnd true false) (sending22 true 2 true)
    (fun t => t.line.tx == [] && t.line.rx == [⟨.claim 1 9 5 22 1, true⟩] && t.line.repeatCount == 0) = true := by decide +kernel
theorem test_frameEnd_refused : leaves (.frameEnd true true) (sending22 true 1 true)
    (fun t => t.line.tx == [tx22 true false] && t.line.rx == [] && t.line.repeatCount == 1) = true := by decide +kernel
theorem test_held_enters : leaves .heldOwnFrameEnters (withLine (started .active) (fun l => { l with held := some (.missed 9 5) }))
    (fun t => t.line.rx == [⟨.missed 9 5, true⟩] && t.line.held == none) = true := by decide +kernel
theorem test_lineStuck : leaves .lineStuck (started .active)
    (fun t => t.line.stuck && t.line.state == .seeking && t.fault .lineStuck == ⟨true, false, true⟩ && t.line.checkErrors == 1) =
    true := by decide +kernel
/-- R79: the third idle millisecond after a dominant start bit is more than 2 ms. -/
theorem test_stuck_by_ticks : (match step (withLine (stopping 0) (fun l => { l with state := .carrying, stuckTimer := some 1 })) with
    | .next t => t.line.stuckTimer == some 2 && !t.line.stuck && (match step t with
      | .next u => u.line.stuck && u.line.state == .seeking && u.fault .lineStuck == ⟨true, false, true⟩
      | .fault _ => false
      | .refused _ => false)
    | .fault _ => false
    | .refused _ => false) = true := by decide +kernel
/-- R79: the last level shown decides; dominant after recessive times from zero, and dominant alone goes on (log 30). -/
theorem test_end_slots_time_the_line : ∀ q ∈ [(false, false, none), (true, false, none), (false, true, some 0), (true, true, some 1)],
    leaves (.frameEnd q.1 q.2.1) (withLine (started .active) (fun l => { l with state := .carrying, stuckTimer := some 1 }))
      (fun t => t.line.stuckTimer == q.2.2) = true := by decide +kernel
theorem test_key_times_the_line : ∀ q ∈ [([68, 18, 255], none), ([68, 18, 31], some 0), ([0, 0, 31], some 1)],
    leaves (.arbitrationEnd q.1) (withLine (sending22 false 0 false) (fun l => { l with stuckTimer := some 1 }))
      (fun t => t.line.stuckTimer == q.2) = true := by decide +kernel
theorem test_check_byte_times_the_line :
    ∀ q ∈ [([0, 0], false, none), ([0, 1], true, none), ([1, 0], true, some 0), ([0, 0], true, some 1)],
    leaves (.frameReceived q.1 q.2.1) (withLine (started .active) (fun l => { l with state := .carrying, stuckTimer := some 1 }))
      (fun t => t.line.stuckTimer == q.2.2) = true := by decide +kernel
theorem test_lineStuckEnd : leaves .lineStuckEnd (mark (withLine (started .active) (fun l => { l with stuck := true, state := .seeking }))
    .lineStuck ⟨true, false, true⟩)
    (fun t => !t.line.stuck && t.fault .lineStuck == ⟨true, false, false⟩) = true := by decide +kernel

/-! ### Frames handled (05, "the life of slot 37"; 06; 07) -/

def heard (s : State) (f : Frame) : State := withLine s (fun l => { l with rx := [⟨f, false⟩] })
def ownFrame (s : State) (f : Frame) : State := withLine s (fun l => { l with rx := [⟨f, true⟩] })
def withView (s : State) (k : Nat) (e : ViewEntry) : State := setViewEntry s k e

theorem test_handled_announce : leaves .frameHandled (heard (started .active) (.announce 37 2 51002 0))
    (fun t => t.viewAt 37 == .free (some crate) (some 2) && (t.rosterEntry 2).state == .joined) = true := by decide +kernel
theorem test_handled_claim_wins : leaves .frameHandled
    (ownFrame (withView (contest22 3920 .sending) 22 (.free (some tray) (some 5))) (.claim 1 9 5 22 1))
    (fun t => t.claimAt 22 == some { claim 22 ⟨1, 2, 3⟩ .armed (some 5116) with pendingEnd := none } &&
      t.viewAt 22 == .claimed (some tray) (some 5) 5 1) = true := by decide +kernel
theorem test_handled_claim_of_other : leaves .frameHandled
    (heard (counting (withLine (withView (contest22 3920 .queued) 22 (.free (some tray) (some 5)))
      (fun l => { l with tx := [tx22 false false] })) .claimLost (.place 1)) (.claim 0 16 8 22 0))
    (fun t => t.contest.claims == [] && t.counters[1].value == 1 && t.lineAt ⟨1, 2, 3⟩ == some ⟨tray, 4, 0, 1, 0⟩) = true := by
  decide +kernel

/-- Station 5 with the COMMITTED claim for slot 41 at counter 6,960 (07, "a dispute on a committed claim"). -/
def committed41 : State :=
  withClaims (withView (withPlace (atCounter 6960 false) 1 (plan .building 2 (some 2)
    [[], [⟨crate, 2, 0, 0, 2⟩, ⟨keg, 2, 0, 0, 0⟩, ⟨tray, 4, 1, 2, 0⟩]])) 41 (.claimed (some tray) (some 2) 5 1))
    [claim 41 ⟨1, 2, 3⟩ .committed (some 7548)]

theorem test_handled_dispute : leaves .frameHandled (heard committed41 (.announce 41 8 64220 2))
    (fun t => t.viewAt 41 == .disputed tray (some 2) && (t.claimAt 41).map (·.suspect) == some true) = true := by decide +kernel
theorem test_handled_join_mismatch : leaves .frameHandled (heard (started .listening) (.join 8 8284))
    (fun t => (t.rosterEntry 8).state == .mismatched && t.part.state == .withdrawn && t.indicated .cfgMismatch) = true := by
  decide +kernel

/-! ### The fire (07, "a dispute on a committed claim"; R132 to R140) -/

/-- Slot 41 FIRING with the suspect mark, its view entry DISPUTED, its fire at the counts given. -/
def firing41 (dwell window : Option Nat) (d : ConfirmDeglitch) : State :=
  (withClaims (withView committed41 41 (.disputed tray (some 2)))
    [{ claim 41 ⟨1, 2, 3⟩ .firing (some 7548) with suspect := true }]).setDivert
    ⟨true, some ⟨41, 1, dwell, window⟩, d, none, false⟩

theorem test_fire_at_position : leaves .forwardPulse (committed41.setLoop ⟨7547, true, false, 0, true, some 0⟩)
    (fun t => t.divert.output && t.divert.fire == some ⟨41, 1, some 0, some 0⟩ && (t.claimAt 41).map (·.state) == some .firing) =
    true := by decide +kernel
theorem test_confirmEdge_taken : leaves .confirmEdge (firing41 (some 23) (some 23) (.blocking 3))
    (fun t => t.staging.records == [⟨0, 41, tray, some ⟨1, 2, 3⟩, .suspect⟩] &&
      t.lineAt ⟨1, 2, 3⟩ == some ⟨tray, 4, 0, 3, 0⟩ && t.line.tx == [TxFrame.waiting (.taken 41 1)]) = true := by decide +kernel
theorem test_confirmEdge_stray : leaves .confirmEdge
    (counting ((atCounter 60 false).setDivert ⟨false, none, .blocking 3, none, false⟩) .confirmStray .none)
    (fun t => t.counters[1].value == 1 && t.staging.records == []) = true := by decide +kernel
theorem test_dwellEnd : leaves .dwellEnd (firing41 (some 39) none .blocked)
    (fun t => !t.divert.output && t.divert.fire == none) = true := by decide +kernel
theorem test_windowMissed : leaves .windowClosedMissed (firing41 none (some 99) .clear)
    (fun t => t.line.tx == [TxFrame.waiting (.missed 41)] && t.port.notices == [.divertMissed 41 1] &&
      t.lineAt ⟨1, 2, 3⟩ == some ⟨tray, 4, 0, 2, 0⟩) = true := by decide +kernel
theorem test_confirmEyeRise : leaves .confirmEyeRise (started .active)
    (fun t => t.divert.deglitch == .blocking 0 && t.divert.jamTimer == some 0) = true := by decide +kernel
theorem test_confirmEyeFall_ends_jam : leaves .confirmEyeFall
    (mark ((started .withdrawn).setDivert ⟨false, none, .blocked, none, true⟩) .divertJam ⟨true, true, true⟩)
    (fun t => t.divert.deglitch == .clearing 0 && !t.divert.jam && t.fault .divertJam == ⟨true, true, false⟩) = true := by
  decide +kernel
theorem test_confirmCleared : leaves .confirmCleared ((atCounter 60 false).setDivert ⟨false, none, .clearing 3, none, false⟩)
    (fun t => t.divert.deglitch == .clear && t.loop.counter == 61) = true := by decide +kernel
theorem test_divertJam : leaves .divertJam ((started .active).setDivert ⟨false, none, .blocked, some 7, false⟩)
    (fun t => t.divert.jam && t.part.state == .withdrawn && t.line.tx == [TxFrame.waiting (.withdraw 4)]) = true := by
  decide +kernel

/-! ### Places ready and the watchdog (09, "a place fault in each scope"; R169, R172, R173) -/

/-- Place 1 BUILDING with claims for slots 12 QUEUED, 15 ARMED and 18 COMMITTED and records 520 and 521, its watch DROPPING. -/
def placeFault (scope : Scope) : State :=
  let s := withRecords (withClaims (withPlace (withPlace (started .active) 0 (plan .building 1 (some 1) [[⟨crate, 9, 0, 0, 0⟩]])) 1
    (plan .building 2 (some 1) [[⟨keg, 5, 3, 1, 0⟩], [⟨tray, 5, 0, 1, 0⟩]]))
    [claim 12 ⟨1, 1, 1⟩ .queued none, claim 15 ⟨1, 1, 1⟩ .armed (some 4220), claim 18 ⟨1, 1, 1⟩ .committed (some 4604)])
    [⟨520, 3, keg, some ⟨1, 1, 1⟩, .placeable⟩, ⟨521, 4, tray, some ⟨1, 2, 1⟩, .waiting⟩] 522
  setWatch ((withLine s (fun l => { l with tx := [TxFrame.waiting (.claim .current 12 1)] })).setConfig
    { hall64 with policy := some ⟨scope, .latched, .warn, 10, 100⟩ }) 1 ⟨.dropping, 3⟩

theorem test_placeTimer_place_scope : leaves (.placeReadyTimer 1) (placeFault .place)
    (fun t => (t.place 1).state == .suspended && (t.place 0).state == .building && t.part.state == .active &&
      (t.claimAt 18).map (·.state) == some .committed && t.claimAt 15 == none &&
      t.staging.records.map (·.state) == [.waiting, .waiting] && t.port.notices == [.faultRaised 7 1]) = true := by
  decide +kernel
theorem test_placeTimer_cell_scope : leaves (.placeReadyTimer 1) (placeFault .cell)
    (fun t => (t.place 1).state == .suspended && (t.place 0).state == .suspended && t.part.state == .withdrawn &&
      t.contest.claims.map (·.slot) == [18] && t.port.notices == [.faultRaised 7 1, .participation .withdrawn] &&
      t.line.tx == [TxFrame.waiting (.release 15 .cancelled), TxFrame.waiting (.withdraw 7)]) = true := by decide +kernel
theorem test_placeReadyRise : leaves (.placeReadyRise 2) (setWatch (started .active) 2 ⟨.dropping, 5⟩)
    (fun t => t.watch 2 == ⟨.ready, 0⟩ && t.pins.placeReady[2]) = true := by decide +kernel
theorem test_placeReadyFall : leaves (.placeReadyFall 2) (setWatch (started .active) 2 ⟨.rising, 5⟩)
    (fun t => t.watch 2 == ⟨.notReady, 0⟩) = true := by decide +kernel
theorem test_watchdogExpiry : leaves .watchdogExpiry (started .active)
    (fun t => t.part.watchdog == .stopped && t.port.notices == [.faultRaised 6 0] && t.part.state == .active) = true := by
  decide +kernel
theorem test_keepalive_early : leaves .keepalive (started .active)
    (fun t => t.part.watchdog == .stopped && t.indicated .watchdog && t.port.response == ⟨.done, 0⟩) = true := by decide +kernel
theorem test_keepalive_in_time : leaves .keepalive ((started .active).setPart { (started .active).part with watchdogTimer := 10 })
    (fun t => t.part.watchdog == .running && t.part.watchdogTimer == 0) = true := by decide +kernel
theorem test_armWatchdog : leaves .armWatchdog (setWatchdog (started .active) .stopped)
    (fun t => t.part.watchdog == .running && t.port.response == ⟨.done, 0⟩) = true := by decide +kernel
theorem test_readFaults : leaves .readFaults (mark (started .active) .cfgMismatch ⟨true, false, true⟩)
    (fun t => t.fault .cfgMismatch == ⟨true, true, true⟩ && t.port.response.data.toNat == (3 * 2 ^ 28 + 1) * 2 ^ 58) = true := by
  decide +kernel
theorem test_clearFaults : leaves .clearFaults
    (mark (mark (started .active) .indexSlip ⟨true, true, false⟩) .cfgMismatch ⟨true, true, true⟩)
    (fun t => t.fault .indexSlip == ⟨false, false, false⟩ && t.fault .cfgMismatch == ⟨true, false, true⟩ &&
      t.port.response == ⟨.done, BitVec.ofNat 88 (2 ^ 80)⟩) = true := by decide +kernel

/-! ### The cell port (10, "one command and its response") -/

/-- The state of that example: three notices, records 312 to 315, places 0 and 1 BUILDING. -/
def cellExample : State :=
  let s := withRecords (withPlace (withPlace (started .active) 0 (plan .building 1 (some 1) [[⟨crate, 9, 0, 0, 0⟩]])) 1
    (plan .building 1 (some 1) [[⟨tray, 9, 0, 4, 0⟩]]))
    [⟨312, 1, tray, some ⟨1, 1, 1⟩, .placeable⟩, ⟨313, 2, tray, some ⟨1, 1, 1⟩, .placeable⟩,
      ⟨314, 3, tray, some ⟨1, 1, 1⟩, .placeable⟩, ⟨315, 4, tray, some ⟨1, 1, 1⟩, .placeable⟩] 316
  s.setPort ⟨none, ⟨.none, 0⟩, [.loopStopped, .loopRunning, .casePlaceable 315], true⟩

theorem test_placed_frame : decodeCommandFrame [48, 1, 59, 0, 0, 0, 0, 0, 0, 0, 0, 0, 0, 0, 0, 147] = .placed 315 := by decide
theorem test_placed_example : leaves (.placed 315) cellExample
    (fun t => t.staging.records.length == 3 && t.port.response == ⟨.done, 0⟩ && t.port.notices.length == 3 &&
      responseFrame t == [131, 72, 2, 49, 0, 0, 0, 0, 0, 0, 0, 0, 0, 0, 0, 1]) = true := by decide +kernel
theorem test_transactionStart : leaves .transactionStart cellExample (fun t => t.port.transaction.map (·.frame.take 4) ==
    some [131, 72, 2, 64]) = true := by decide +kernel

/-- The bits of some bytes as CPIN gives them. -/
def bitsOf (f : List Byte) : List Bool := f.flatMap (fun b => (List.range 8).map b.getMsbD)

/-- RESTART clocked in bit by bit, 131 clocked out meanwhile, and 1 after the sixteenth byte. -/
theorem test_transaction_bits : leaves .transactionStart cellExample (fun t =>
    let u := (bitsOf (26 :: List.replicate 14 0 ++ [229])).foldl clockBit t
    (List.range 8).map (fun n => ((List.replicate (n + 1) true).foldl clockBit t).cpout) == (bitsOf [131]).map some &&
      t.cpout == none && u.endTransaction.pending == [.restart] && (clockBit u false).cpout == some true &&
      (clockBit u false).endTransaction.pending == [.transactionIncomplete 129]) = true := by decide +kernel
theorem test_incomplete : leaves (.transactionIncomplete 127) cellExample (fun t => t.port.response == ⟨.frameError, 0⟩) = true := by
  decide +kernel
theorem test_checkError : leaves (.checkError (List.replicate 16 0)) cellExample
    (fun t => t.port.response == ⟨.checkError, 0⟩ && t.staging.records.length == 4) = true := by decide +kernel
theorem test_unknownCommand : leaves (.unknownCommand 4) cellExample (fun t => t.port.response == ⟨.unknownCommand, 0⟩) = true := by
  decide +kernel
theorem test_restart_check_error : decodeCommandFrame [26, 0, 0, 0, 0, 0, 0, 0, 0, 0, 0, 0, 0, 0, 0, 0] =
    .checkError [26, 0, 0, 0, 0, 0, 0, 0, 0, 0, 0, 0, 0, 0, 0, 0] := by decide
theorem test_nop : leaves .nop cellExample (fun t => t.port.response == ⟨.done, 0⟩ && t.port.notices.length == 3) = true := by
  decide +kernel

/-! ### Configuration, GO and participation (R2, R159 to R163, R182 to R184; 09, "the digest of a three-station hall") -/

def configured : State := State.reset.setConfig hall64

theorem test_hallSize : leaves (.hallSize 64 128) State.reset (fun t => t.config.hallSize == some ⟨64, 128⟩) = true := by
  decide +kernel
theorem test_hallSize_too_short : leaves (.hallSize 15 128) State.reset
    (fun t => t.config.hallSize == none && t.port.response == ⟨.refusedRange, 0⟩) = true := by decide +kernel
theorem test_stationEntry_absent : leaves (.stationEntry 5 0 0) configured (fun t => t.config.hall[5] == none) = true := by
  decide +kernel
theorem test_ownSetup : leaves (.ownSetup 3 0x2d 12 4) State.reset (fun t => t.config.own == some ⟨3, 0x2d, 12, 4⟩) = true := by
  decide +kernel
theorem test_timing_refused : leaves (.timing ⟨24, 4, 4, 200, 600, 40, 100, 99, 500, 200⟩) State.reset
    (fun t => t.config.timing == none && t.port.response == ⟨.refusedRange, 0⟩) = true := by decide +kernel
theorem test_faultPolicy : leaves (.faultPolicy 1 0 2 10 20) State.reset
    (fun t => t.config.policy == some ⟨.cell, .auto, .withdraw, 10, 20⟩) = true := by decide +kernel
theorem test_digest : hallDigest configured = 7994 := by decide +kernel
theorem test_go : leaves .go configured (fun t => t.part.state == .listening && t.line.state == .seeking &&
    t.line.tx == [TxFrame.waiting (.join 7994)] && t.view.length == 64 && t.part.watchdog == .running) = true := by decide +kernel
theorem test_go_refused : leaves .go (configured.setConfig { hall64 with own := some ⟨5, 0x3f, 6, 6⟩ })
    (fun t => t.part.state == .start && t.port.response == ⟨.configInvalid, BitVec.ofNat 88 (5 * 2 ^ 80)⟩) = true := by
  decide +kernel
theorem test_withdraw : leaves .withdraw (started .active)
    (fun t => t.part.state == .withdrawn && t.line.tx == [TxFrame.waiting (.withdraw 0)]) = true := by decide +kernel
theorem test_rejoin : leaves .rejoin (started .withdrawn)
    (fun t => t.part.state == .listening && t.line.tx == [TxFrame.waiting (.join 7994)]) = true := by decide +kernel
theorem test_restart_keeps_counters : leaves .restart (counting (started .active) .taken (.place 1))
    (fun t => t.part.state == .start && t.config.hallSize == none && t.counters[1].event == some .taken) = true := by
  decide +kernel
theorem test_power_on : leaves .powerOnReset (counting (started .active) .taken (.place 1))
    (fun t => t.part.state == .start && t.counters[1].event == none) = true := by decide +kernel

/-! ### Plans (02, "loading a plan") -/

/-- Place 0 BUILDING with 30 lines, and the loader open for place 2 with the lines given of tiers 1 and 2. -/
def loading (one two : List Line) : State :=
  withPlace (withPlace (started .active) 0 (plan .building 2 (some 1)
    [List.replicate 15 ⟨crate, 9, 0, 0, 0⟩, List.replicate 15 ⟨crate, 9, 0, 0, 0⟩])) 2 (plan .loading 2 none [one, two])

def kegLine : Line := ⟨keg, 1, 0, 0, 0⟩
def crateLine : Line := ⟨crate, 2, 0, 0, 0⟩
def trayLine : Line := ⟨⟨77310, .tray⟩, 3, 0, 0, 0⟩

theorem test_openPlan : leaves (.openPlan 2 8810447 2) (started .active)
    (fun t => (t.place 2).state == .loading && (t.place 2).tierCount == some 2 && t.plans.loader == some 2) = true := by
  decide +kernel
theorem test_openPlan_busy : leaves (.openPlan 3 8810448 1) (loading [kegLine] [])
    (fun t => t.port.response == ⟨.busy, 0⟩ && (t.place 3).state == .empty) = true := by decide +kernel
theorem test_addLine : leaves (.addLine 1 51002 0 2) (loading [kegLine] [])
    (fun t => (t.place 2).tier 1 == [kegLine, crateLine]) = true := by decide +kernel
theorem test_addLine_tier_full : leaves (.addLine 1 51002 0 2) (loading (List.replicate 16 kegLine) [])
    (fun t => t.port.response == ⟨.refusedFull, 0⟩) = true := by decide +kernel
theorem test_commit_emptyTier : leaves .commitPlan (loading [kegLine, crateLine] [])
    (fun t => t.port.response == ⟨.planInvalid, BitVec.ofNat 88 ((1 * 2 ^ 16 + 2 * 2 ^ 8) * 2 ^ 64)⟩ &&
      (t.place 2).state == .loading) = true := by decide +kernel
theorem test_commit_accepted : leaves .commitPlan (loading [kegLine, crateLine] [trayLine])
    (fun t => (t.place 2).state == .building && t.plans.buildOrder == [0, 2] && t.plans.loader == none) = true := by
  decide +kernel
theorem test_abandonPlan : leaves .abandonPlan (loading [kegLine] [])
    (fun t => t.place 2 == Place.empty && t.plans.loader == none) = true := by decide +kernel
theorem test_releasePallet : leaves (.releasePallet 1) (withPlace (started .active) 1 (plan .complete 1 none [[kegLine]]))
    (fun t => t.place 1 == Place.empty && t.port.response == ⟨.done, 0⟩) = true := by decide +kernel

/-- 08, "a cancellation with one committed case". -/
def cancelExample : State :=
  withRecords (withClaims (withPlace (withPlace (started .active) 2 (plan .building 2 (some 1)
    [[⟨keg, 2, 0, 1, 1⟩, ⟨crate, 3, 2, 0, 0⟩], [⟨tray, 2, 0, 1, 0⟩]])) 0 (plan .building 1 (some 1) [[⟨keg, 9, 1, 1, 0⟩]]))
    [claim 30 ⟨2, 1, 2⟩ .committed (some 6140), claim 31 ⟨2, 1, 2⟩ .armed (some 6268), claim 33 ⟨0, 1, 1⟩ .queued none])
    [⟨401, 7, keg, some ⟨2, 1, 1⟩, .placeable⟩, ⟨402, 8, tray, some ⟨2, 2, 1⟩, .waiting⟩, ⟨403, 9, keg, some ⟨0, 1, 1⟩, .placeable⟩]
    404

theorem test_cancelPallet : leaves (.cancelPallet 2) cancelExample
    (fun t => (t.place 2).state == .cancelling && t.contest.claims.map (·.slot) == [30, 33] &&
      t.staging.records.map (·.state) == [.orphan, .orphan, .placeable] && t.lineAt ⟨2, 1, 2⟩ == some ⟨crate, 3, 1, 0, 0⟩ &&
      t.lineAt ⟨2, 1, 1⟩ == some ⟨keg, 2, 0, 0, 1⟩ && t.port.notices == [.caseOrphaned 401, .caseOrphaned 402] &&
      t.line.tx == [TxFrame.waiting (.release 31 .cancelled)]) = true := by decide +kernel

/-! ### The lane (08, "tier advance with lookahead cases") -/

/-- Place 1 at current tier 2 with the records of that example, PLACED(312) taken. -/
def laneExample : State :=
  withRecords (withPlace (started .active) 1 (plan .building 3 (some 2) [[], [⟨keg, 2, 0, 1, 1⟩], [⟨tray, 4, 1, 3, 0⟩]]))
    [⟨310, 1, keg, some ⟨1, 2, 1⟩, .placeable⟩, ⟨311, 2, tray, some ⟨1, 3, 1⟩, .waiting⟩,
      ⟨313, 4, tray, some ⟨1, 3, 1⟩, .suspect⟩, ⟨314, 5, tray, some ⟨1, 3, 1⟩, .waiting⟩] 315

theorem test_placed_advances : leaves (.placed 310) laneExample
    (fun t => (t.place 1).currentTier == some 3 && t.staging.records.map (·.state) == [.placeable, .suspect, .placeable] &&
      t.port.notices == [.tierDone 1 2, .casePlaceable 311, .casePlaceable 314] &&
      t.lineAt ⟨1, 2, 1⟩ == some ⟨keg, 2, 0, 0, 2⟩) = true := by decide +kernel
theorem test_placed_waiting : leaves (.placed 311) laneExample
    (fun t => t.port.response == ⟨.notPlaceable, 0⟩ && t.staging.records.length == 4) = true := by decide +kernel
theorem test_removeCase : leaves (.removeCase 314 1) laneExample
    (fun t => t.lineAt ⟨1, 3, 1⟩ == some ⟨tray, 4, 1, 2, 0⟩ && t.staging.returned == 1 && t.staging.records.length == 3) = true := by
  decide +kernel
theorem test_acceptSuspect : leaves (.acceptSuspect 313) (setPlace laneExample 1 { laneExample.place 1 with currentTier := some 3 })
    (fun t => (t.record? 313).map (·.state) == some .placeable && t.port.notices == [.casePlaceable 313]) = true := by
  decide +kernel

/-! ### Reads and counters (R40, R41, R101, R126, R155, R156, R164, R186, R187, R191; 11, "mean lane occupancy") -/

theorem test_readNotice : leaves .readNotice cellExample (fun t => t.port.notices == [.loopRunning, .casePlaceable 315] &&
    t.port.attn && t.port.response.data.toNat == (2 * 2 ^ 4 + 10) * 2 ^ 78) = true := by decide +kernel
theorem test_readNotice_last : leaves .readNotice ((started .active).setPort ⟨none, ⟨.none, 0⟩, [.loopRunning], true⟩)
    (fun t => !t.port.attn && t.port.response.data.toNat == 11 * 2 ^ 78) = true := by decide +kernel
theorem test_readPallet_empty : leaves (.readPallet 3) (started .active)
    (fun t => t.port.response.data.toNat == 255 * 2 ^ 37) = true := by decide +kernel
theorem test_readLine : leaves (.readLine 2 1 2) (loading [kegLine, crateLine] [])
    (fun t => t.port.response.data.toNat == ((51002 * 2 ^ 3 + 0) * 2 ^ 8 + 2) * 2 ^ 53) = true := by decide +kernel
theorem test_readLine_noSuch : leaves (.readLine 2 2 1) (loading [kegLine] []) (fun t => t.port.response == ⟨.noSuch, 0⟩) = true := by
  decide +kernel
theorem test_readStagingByArrival : leaves (.readStagingByArrival 311) laneExample
    (fun t => t.port.response.data.toNat / 2 ^ 64 == (4 * 16 + 1) * 2 ^ 16 + 311) = true := by decide +kernel
theorem test_readStagingByIndex : leaves (.readStagingByIndex 4) laneExample (fun t => t.port.response == ⟨.noSuch, 0⟩) = true := by
  decide +kernel
theorem test_readStagingSummary : leaves (.readStagingSummary 2) laneExample
    (fun t => t.port.response.data.toNat / 2 ^ 48 == ((((((4 * 16 + 2) * 16 + 1) * 16 + 1) * 16 + 0) * 16 + 3) * 2 ^ 16 + 315)) =
    true := by decide +kernel
theorem test_readClaims : leaves (.readClaims 0) (contest22 3914 .queued)
    (fun t => t.port.response.data.toNat / 2 ^ 60 == ((((((1 * 512 + 22) * 4 + 1) * 16 + 2) * 32 + 3) * 4 + 1) * 8 + 0)) = true := by
  decide +kernel
theorem test_readView : leaves (.readView 37) (withView (atCounter 5736 false) 37 (.claimed (some crate) (some 2) 5 0))
    (fun t => t.port.response.data.toNat ==
      ((((2 * 2 + 1) * 2 ^ 24 + 51002) * 2 ^ 8 + (0 * 32 + 16 + 2)) * 2 ^ 27 + (64 + 5 * 4 + 0) * 2 ^ 20 + (2 ^ 19 + 1000)) * 2 ^ 26) =
    true := by decide +kernel
theorem test_readRoster : leaves (.readRoster 2) (setRoster (started .active) 2 ⟨.mismatched, some 8284⟩)
    (fun t => t.port.response.data.toNat == ((3 * 2 + 1) * 2 ^ 16 + 8284) * 2 ^ 69) = true := by decide +kernel
theorem test_setCounter : leaves (.setCounter 0 18 0 0) (started .active)
    (fun t => t.counters[0] == ⟨0, some .stagingOccupancy, .none⟩ && t.port.response == ⟨.done, 0⟩) = true := by decide +kernel
theorem test_setCounter_misplaced : leaves (.setCounter 1 18 0 0) (started .active)
    (fun t => t.port.response == ⟨.refusedRange, 0⟩) = true := by decide +kernel
theorem test_readCounter : leaves (.readCounter 0) ((started .active).setCounters
    ((started .active).counters.set 0 ⟨11, some .stagingOccupancy, .none⟩))
    (fun t => t.port.response.data.toNat == (11 * 2 ^ 8 + 18) * 2 ^ 48) = true := by decide +kernel
theorem test_occupancy_sampled : leaves .forwardPulse (((cellExample.setLoop ⟨2687, true, false, 0, true, some 0⟩).setCounters
    (cellExample.counters.set 0 ⟨3, some .stagingOccupancy, .none⟩)))
    (fun t => t.loop.counter == 2688 && t.counters[0].value == 7) = true := by decide +kernel

/-- R190: no pitch boundary while STOPPED, though the mark realigns (log 29). -/
theorem test_stopped_mark_adds_nothing : leaves .indexMark (((cellExample.setLoop ⟨8180, true, true, 0, false, none⟩).setCounters
    (cellExample.counters.set 0 ⟨3, some .stagingOccupancy, .none⟩)))
    (fun t => t.loop.counter == 0 && t.counters[0].value == 3) = true := by decide +kernel

/-! ### The step -/

theorem test_step_runs_front : (match step ((started .active).withCommandFrame [48, 1, 59, 0, 0, 0, 0, 0, 0, 0, 0, 0, 0, 0, 0, 147]) with
    | .next t => t.port.response == ⟨.noSuch, 0⟩ && t.pending == []
    | .fault _ => false
    | .refused _ => false) = true := by decide +kernel
theorem test_step_idles_in_start : (match step State.reset with
    | .next t => t == State.reset
    | .fault _ => false
    | .refused _ => false) = true := by decide +kernel

/-! ### Witnesses: states and operands that meet the hypotheses of each statement -/

/-- The laws of a running part, as a check that can be evaluated. -/
theorem running_of (s : State)
    (h : (s.part.state ≠ .start ∧ 0 < s.loopLen ∧ s.stagingSize ≤ 12 ∧ s.loop.counter < s.loopLen ∧
        s.loop.reverseTally < 8 ∧ s.gate.edges.length ≤ 4 ∧ s.gate.report.length < 6 ∧ s.line.rx.length ≤ 8 ∧
        s.line.checkErrors < 8 ∧ s.line.stuckTimer.all (fun n => decide (n ≤ Config.stuckLimit)) = true ∧
        s.view.length = s.slots) ∧
      (s.plans.buildOrder.Nodup ∧
        (∀ q : Fin 4, q ∈ s.plans.buildOrder ↔ (s.plans.places[q].state = .building ∨ s.plans.places[q].state = .suspended)) ∧
        (∀ q : Fin 4, s.plans.loader = some q ↔ s.plans.places[q].state = .loading) ∧
        (∀ q : Fin 4, s.plans.places[q].currentTier.isSome = true →
          (s.plans.places[q].state = .building ∨ s.plans.places[q].state = .suspended))) ∧
      (s.contest.claims.length ≤ 6 ∧ (s.contest.claims.map (·.slot)).Nodup ∧ (∀ c ∈ s.contest.claims, c.slot < s.slots) ∧
        s.staging.records.length + s.contest.claims.length ≤ s.stagingSize ∧ (s.staging.records.map (·.arrival)).Nodup ∧
        s.staging.nextArrival ∉ s.staging.records.map (·.arrival) ∧ s.staging.nextArrival < 65536) ∧
      ((s.divert.output = false ∨ s.divert.fire.any (·.dwell.isSome) = true) ∧ s.port.notices.length ≤ 32 ∧
        s.port.attn = !s.port.notices.isEmpty ∧ ∀ i : Fin 4, s.counters[i].value ≤ 4294967295)) : Running s := by
  obtain ⟨⟨a1, a2, a3, a4, a5, a6, a7, a8, a9, a10, a11⟩, ⟨b1, b2, b3, b4⟩, ⟨c1, c2, c3, c4, c5, c6, c7⟩, d1, d2, d3, d4⟩ := h
  refine ⟨a1, a2, a3, ⟨a4, a5⟩, ⟨a6, a7⟩, ⟨a8, a9, fun n hn => by simpa [hn] using a10⟩, a11, ⟨b1, b2, b3, b4⟩,
    ⟨c1, c2, c3, c4⟩, ⟨c5, c6, c7⟩, fun ho => ?_, ⟨d2, d3⟩, d4⟩
  cases hf : s.divert.fire with
  | none => simp [ho, hf] at d1
  | some f => exact ⟨f, rfl, by simpa [ho, hf] using d1⟩

theorem running_active : Running (started .active) := running_of _ (by decide +kernel)
theorem running_listening : Running (started .listening) := running_of _ (by decide +kernel)
theorem running_cancelExample : Running cancelExample := running_of _ (by decide +kernel)

/-- At the last count of the loop, the counter one below the loop length and every block at its bound. -/
def atBounds : State :=
  withLine (withGate ((started .active).setLoop ⟨8191, true, false, 7, true, some 0⟩) .clear
    (List.replicate 4 ⟨50, 63, 9, false⟩)) (fun l => { l with rx := List.replicate 8 ⟨.missed 9 8, false⟩, checkErrors := 7 })

theorem running_atBounds : Running atBounds := running_of _ (by decide +kernel)

theorem idle_reset : Idle State.reset :=
  ⟨by decide, rfl, rfl, rfl, rfl, rfl, rfl, rfl, rfl, rfl, rfl, rfl, by unfold counterLaw; decide⟩
theorem idle_configured : Idle configured :=
  ⟨by decide, rfl, rfl, rfl, rfl, rfl, rfl, rfl, rfl, rfl, rfl, rfl, by unfold counterLaw; decide⟩

theorem witness_StepRunsFrontCommand : (State.reset.setPending [.nop, .go]).pending = .nop :: [.go] := rfl

def fullNotices (s : State) (n : Nat) : State := s.setPort { s.port with notices := List.replicate n .loopRunning, attn := true }

theorem witness_LoopStoppedTimer : State.reset.loop.stopTimer = none ∧ State.reset.pending = [] ∧ Idle State.reset ∧
    (∀ n ∈ [498, 499], (stopping n).loop.stopTimer = some n ∧ (stopping n).pending = [] ∧ (stopping n).gate.report = [] ∧
      (stopping n).divert.jamTimer = none ∧ (stopping n).line.stuckTimer = none ∧ (∀ p : Fin 4, (stopping n).part.watches[p].state ≠ .dropping ∧
        (stopping n).part.watches[p].state ≠ .rising) ∧ (stopping n).part.watchdog ≠ .running ∧
      (stopping n).contest.searchDue = false) ∧
    498 + 1 < (stopping 498).timing.stopTime ∧ 499 + 1 = (stopping 499).timing.stopTime ∧
    (fullNotices (stopping 0) 31).port.notices.length < 32 :=
  ⟨rfl, rfl, idle_reset, by decide +kernel, by decide, by decide, by decide⟩

theorem witness_EveryStepKeepsSafe : Safe State.reset ∧ Safe (started .active) ∧ Safe atBounds ∧ Safe cancelExample :=
  ⟨.inl ⟨rfl, idle_reset⟩, .inr ⟨running_active, rfl⟩, .inr ⟨running_atBounds, rfl⟩, .inr ⟨running_cancelExample, rfl⟩⟩

/-- Two claims for one line, the CLAIM of slot 22 being sent and that of slot 23 waiting, and one record for that line. -/
def booked : State :=
  let s := withRecords (sending22 true 1 true) [⟨311, 3, tray, some ⟨1, 2, 3⟩, .placeable⟩] 312
  let s1 := withClaims (modifyLine s ⟨1, 2, 3⟩ (fun l => { l with claimed := 2 }))
    [claim 22 ⟨1, 2, 3⟩ .sending none, claim 23 ⟨1, 2, 3⟩ .queued none]
  withLine s1 (fun l => { l with tx := [tx22 true true, TxFrame.waiting (.claim .current 23 1)] })

theorem booked_queues : QueueLaw booked where
  bound := by decide
  announces := by decide
  participation := by decide
  places := by decide +kernel
  one := by decide
  rest := fun h => absurd h (by decide)
  driven := fun a h => ⟨tx22 true true, by decide, rfl, fun _ => rfl, 9, Option.some.inj h ▸ rfl⟩
  queued := by decide +kernel
  orphaned := fun x hx ho => absurd ho (by
    have : ∀ x ∈ booked.line.tx, x.orphaned ≠ true := by decide
    exact this x hx)
  sent := fun k => by
    by_cases hk : 22 = k
    · subst hk; decide +kernel
    · have : ownClaims booked k = 0 := by
        have hr : booked.line.rx = [] := rfl
        have hh : booked.line.held = none := rfl
        have ht : booked.line.tx = [tx22 true true, TxFrame.waiting (.claim .current 23 1)] := rfl
        unfold ownClaims
        rw [hr, hh, ht]
        simp [tx22, OutFrame.isClaimFor, TxFrame.waiting, hk]
      omega

/-- The laws of the line counts, as a check that can be evaluated. -/
theorem counts_of (s : State)
    (bounds : ∀ p : Fin 4, (s.place p).tiers.length ≤ 12 ∧ ∀ t ∈ (s.place p).tiers, t.length ≤ 16)
    (lines : ∀ (p : Fin 4) (t : Fin 12) (n : Fin 16), ∀ l ∈ (s.lineAt ⟨p, t.val + 1, n.val + 1⟩).toList,
      l.claimed = (s.contest.claims.filter (fun c => decide (c.target = ⟨p, t.val + 1, n.val + 1⟩))).length ∧
      l.staged = (s.staging.records.filter (fun r => decide (r.target = some ⟨p, t.val + 1, n.val + 1⟩))).length ∧
      l.claimed + l.staged + l.placed ≤ l.quantity)
    (claims : ∀ c ∈ s.contest.claims, 1 ≤ c.target.tier ∧ 1 ≤ c.target.line ∧ (s.lineAt c.target).isSome = true ∧
      ((s.place c.target.place).state = .building ∨ (s.place c.target.place).state = .suspended ∨
        (s.place c.target.place).state = .cancelling))
    (records : ∀ r ∈ s.staging.records, ∀ g ∈ r.target.toList, 1 ≤ g.tier ∧ 1 ≤ g.line ∧ (s.lineAt g).isSome = true ∧
      ((s.place g.place).state = .building ∨ (s.place g.place).state = .suspended))
    (loading : ∀ p, (s.place p).state = .loading → ∃ n ∈ (s.place p).tierCount.toList, 1 ≤ n)
    (building : ∀ p, (s.place p).state = .building ∨ (s.place p).state = .suspended →
      ∃ t ∈ (s.place p).currentTier.toList, ∃ n ∈ (s.place p).tierCount.toList, 1 ≤ t ∧ t ≤ n ∧ t ≤ 12 ∧
        (∀ u : Fin 12, u.val + 1 < t → tierFinished ((s.place p).tier (u.val + 1)) = true) ∧
        ∀ u : Fin 12, n ≤ u.val → (s.place p).tiers.getD u.val [] = [])
    (cancelling : ∀ p, (s.place p).state = .cancelling → ∃ c ∈ s.contest.claims, c.target.place = p) : CountLaw s := by
  refine ⟨fun g l ht hn h => ?_, claims, fun r hr g hg => records r hr g (by simp [hg]), fun p => ⟨fun hl => ?_, fun hb => ?_⟩,
    cancelling⟩
  · obtain ⟨h1, h2⟩ := bounds g.place
    have within : g.tier - 1 < 12 ∧ g.line - 1 < 16 := by
      have h' := h
      unfold State.lineAt Place.line? Place.tier at h'
      obtain ⟨hl, -⟩ := List.getElem?_eq_some_iff.mp h'
      by_cases ht : g.tier - 1 < (s.place g.place).tiers.length
      · rw [List.getD_eq_getElem _ _ ht] at hl
        exact ⟨by omega, Nat.lt_of_lt_of_le hl (h2 _ (List.getElem_mem ht))⟩
      · rw [List.getD_eq_default _ _ (by omega)] at hl
        exact absurd hl (by simp)
    obtain ⟨p, t, n⟩ := g
    have := lines p ⟨t - 1, within.1⟩ ⟨n - 1, within.2⟩
    simp only [Nat.sub_add_cancel ht, Nat.sub_add_cancel hn, h, Option.toList] at this
    exact this l (by simp)
  · obtain ⟨n, hn, h1⟩ := loading p hl
    exact ⟨(bounds p).1, n, by simpa using hn, h1⟩
  · obtain ⟨t, ht, n, hn, h1, h2, h3, h4, h5⟩ := building p hb
    refine ⟨t, n, by simpa using ht, by simpa using hn, h1, h2, fun u hu hut => ?_, fun u hu => ?_⟩
    · have := h4 ⟨u - 1, by omega⟩ (by show u - 1 + 1 < t; omega)
      simpa [Nat.sub_add_cancel hu] using this
    · by_cases h12 : u - 1 < 12
      · exact h5 ⟨u - 1, h12⟩ (by show n ≤ u - 1; omega)
      · exact List.getD_eq_default _ _ (by have := (bounds p).1; omega)

theorem booked_counts : CountLaw booked := by apply counts_of <;> decide +kernel

theorem witness_EveryStepKeepsQueuesAndCounts : Safe booked ∧ QueueLaw booked ∧ CountLaw booked :=
  ⟨.inr ⟨running_of _ (by decide +kernel), rfl⟩, booked_queues, booked_counts⟩

/-- ALIGNED, with CFG_MISMATCH raised and its condition live, and a claim held. -/
def mismatched (st : Participation) : State :=
  withClaims (mark (started st) .cfgMismatch ⟨true, true, true⟩) [claim 12 ⟨1, 1, 1⟩ .committed (some 3836)]

theorem witness_CommandsKeepQueueAndInputs :
    exec .nop (mismatched .active) = .next (answer (mismatched .active) .done) ∧ movesInput .nop = false := ⟨rfl, rfl⟩

theorem witness_OnlyResetsUndo : (mismatched .active).part.state ≠ .start ∧ resets .nop = false ∧
    exec .nop (mismatched .active) = .next (answer (mismatched .active) .done) ∧ (mismatched .active).loop.aligned = true ∧
    ((mismatched .active).fault .cfgMismatch).indication = true ∧ ((mismatched .active).fault .cfgMismatch).condition = true :=
  ⟨by decide, rfl, rfl, rfl, by decide, by decide⟩

theorem witness_ClaimsMadeOnlyWhileActive : exec .nop (mismatched .withdrawn) = .next (answer (mismatched .withdrawn) .done) ∧
    (answer (mismatched .withdrawn) .done).part.state ≠ .active ∧
    ((answer (mismatched .withdrawn) .done).claimAt 12).isSome = true := ⟨rfl, by decide, by decide⟩

/-- Counter 1 at its limit. -/
def saturated : State := (started .active).setCounters ((started .active).counters.set 1 ⟨4294967295, some .taken, .none⟩)

theorem witness_CountersOnlyRise : counterLaw saturated.counters ∧ Instr.nop ≠ .powerOnReset ∧
    (∀ a b d e, Instr.nop ≠ .setCounter a b d e) ∧ exec .nop saturated = .next (answer saturated .done) :=
  ⟨by unfold counterLaw; decide, by decide, nofun, rfl⟩

theorem witness_NopAndResets : resets .restart = true ∧ resets .powerOnReset = true := ⟨rfl, rfl⟩

/-- 32 notices and 12 records. -/
def fullSummary : State :=
  withRecords (fullNotices (started .active) 32) ((List.range 12).map (fun i => ⟨i, i, keg, some ⟨1, 1, 1⟩, .waiting⟩)) 12

theorem witness_TransactionStartShowsStatus : fullSummary.port.notices.length ≤ 32 ∧ fullSummary.staging.records.length ≤ 12 := by
  decide

/-- A transaction in progress, some bits received and n bits driven. -/
def clocked (bits : List Bool) (n : Nat) : State :=
  (started .active).setPort { (started .active).port with transaction := some ⟨List.replicate 16 131, bits, n⟩ }

theorem witness_TransactionStartShowsStatus_bits : (started .active).port.transaction = none ∧
    (∀ n ∈ [0, 127, 128], (clocked [true] (n + 1)).port.transaction = some ⟨List.replicate 16 131, [true], n + 1⟩) ∧
    127 < 8 * (List.replicate 16 (131 : Byte)).length ∧ 8 * (List.replicate 16 (131 : Byte)).length ≤ 128 ∧
    [true].length ≠ 128 ∧ (List.replicate 16 (26 : Byte)).length = 16 ∧
    (clocked (bitsOf (List.replicate 16 26)) 128).port.transaction =
      some ⟨List.replicate 16 131, (List.replicate 16 (26 : Byte)).flatMap (fun b => (List.range 8).map b.getMsbD), 128⟩ :=
  ⟨rfl, by decide, by decide, by decide, by decide, by decide, rfl⟩

theorem witness_BrokenTransactionsTakeNoCommand : (List.replicate 15 (0 : Byte)).length ≠ 16 ∧
    (List.replicate 17 (0 : Byte)).length ≠ 16 ∧ (26 :: List.replicate 15 (0 : Byte)).length = 16 ∧
    byteSum (26 :: List.replicate 15 (0 : Byte)) % 256 ≠ 255 := by decide

theorem witness_BrokenTransactionsTakeNoCommand_codes :
    (∀ f ∈ [[4, 0, 0, 0, 0, 0, 0, 0, 0, 0, 0, 0, 0, 0, 0, 251], [26, 0, 0, 0, 0, 0, 0, 0, 0, 0, 0, 0, 0, 0, 0, (229 : Byte)]],
      f.length = 16 ∧ byteSum f % 256 = 255) ∧ (4 : Byte).toNat ∉ [0, 1, 2, 3, 16, 26, 81] ∧
    (26 : Byte).toNat ∈ [0, 1, 2, 3, 16, 26, 81] := by decide

theorem test_unknown_code : decodeCommandFrame [4, 0, 0, 0, 0, 0, 0, 0, 0, 0, 0, 0, 0, 0, 0, 251] = .unknownCommand 4 := by decide

theorem witness_CommandFramesAndReadDataPacked : 2 ≤ (2 : BitVec 8).toNat ∧ packWidth [(24, 40117), (64, 5)] ≤ 88 ∧
    1 < [(24, 40117), (64, 5)].length ∧ packWidth [] ≤ 88 := by decide

/-! Configuration and GO -/

theorem witness_ConfigurationTakenOrRefused_taken : State.reset.part.state = .start ∧
    (16 ≤ (16 : BitVec 10).toNat ∧ (16 : BitVec 10).toNat ≤ 512 ∧ 16 ≤ (16 : BitVec 11).toNat ∧ (16 : BitVec 11).toNat ≤ 1024 ∧
      (16 : BitVec 10).toNat * (16 : BitVec 11).toNat ≤ 524288) ∧
    (512 : BitVec 10).toNat * (1024 : BitVec 11).toNat ≤ 524288 ∧
    (2 ≤ (2 : BitVec 4).toNat ∧ (12 : BitVec 4).toNat ≤ 12) ∧
    (∀ t ∈ [(⟨0, 1, 1, 1, 1, 1, 1, 100, 50, 10⟩ : TimingParams), ⟨511, 64, 64, 2048, 524287, 1024, 1024, 10000, 5000, 500⟩],
      1 ≤ t.gateDeglitch.toNat ∧ t.gateDeglitch.toNat ≤ 64 ∧ 1 ≤ t.confirmDeglitch.toNat ∧ t.confirmDeglitch.toNat ≤ 64 ∧
      1 ≤ t.scanWindow.toNat ∧ t.scanWindow.toNat ≤ 2048 ∧ 1 ≤ t.armLead.toNat ∧ 1 ≤ t.dwell.toNat ∧ t.dwell.toNat ≤ 1024 ∧
      1 ≤ t.confirmWindow.toNat ∧ t.confirmWindow.toNat ≤ 1024 ∧ 100 ≤ t.jamTime.toNat ∧ t.jamTime.toNat ≤ 10000 ∧
      50 ≤ t.stopTime.toNat ∧ t.stopTime.toNat ≤ 5000 ∧ 10 ≤ t.placeDeglitch.toNat ∧ t.placeDeglitch.toNat ≤ 500) ∧
    ([WatchdogMode.off, .warn, .withdraw][(2 : BitVec 2).toNat]? = some .withdraw ∧ 10 ≤ (10 : BitVec 10).toNat ∧
      (1000 : BitVec 10).toNat ≤ 1000 ∧ (1000 : BitVec 10).toNat + 10 ≤ (1010 : BitVec 13).toNat ∧
      (5000 : BitVec 13).toNat ≤ 5000) := by decide

theorem witness_ConfigurationTakenOrRefused_refused : (started .withdrawn).part.state ≠ .start ∧ State.reset.part.state = .start ∧
    (15 : BitVec 10).toNat < 16 ∧ 512 < (513 : BitVec 10).toNat ∧ 1024 < (1025 : BitVec 11).toNat ∧
    524288 < (513 : BitVec 10).toNat * (1024 : BitVec 11).toNat ∧ (1 : BitVec 4).toNat < 2 ∧ 12 < (13 : BitVec 4).toNat ∧
    (99 : BitVec 14).toNat < 100 ∧ 10000 < (10001 : BitVec 14).toNat ∧ (65 : BitVec 7).toNat > 64 ∧
    (9 : BitVec 10).toNat < 10 ∧ (1009 : BitVec 13).toNat < (1000 : BitVec 10).toNat + 10 ∧ 5000 < (5001 : BitVec 13).toNat := by
  decide

/-- The spec's hall with one value of GO's checks changed. -/
def goWith (own : Option OwnSetup) (t : Timing) : State := State.reset.setConfig { hall64 with own := own, timing := some t }

def goodOwn : OwnSetup := ⟨5, 0x3f, 6, 2⟩
def goodTiming : Timing := ⟨24, 4, 4, 200, 600, 40, 100, 1000, 500, 200⟩

/-- Station 8 and station 11 out of order. -/
def badHall : State := State.reset.setConfig { hall64 with
  hall := (hall64.hall.set 8 (some ⟨4900, 4900⟩)).set 11 (some ⟨0, 8192⟩) }

/-- The setup of GO refused by its gap, window, tolerance and reserve checks, each beside the nearest one that passes. -/
def edgeTimings : List (Timing × Timing × (State → Bool)) :=
  [({ goodTiming with armLead := 1101 }, { goodTiming with armLead := 1100 }, gapShort),
    ({ goodTiming with dwell := 129 }, { goodTiming with dwell := 128 }, windowLong),
    ({ goodTiming with tolerance := 33 }, { goodTiming with tolerance := 32 }, toleranceBad)]

theorem witness_GoRefusedByFirstFailingCheck :
    State.reset.part.state = .start ∧ (∀ o, (goWith none goodTiming).config.own = some o → False) ∧
    (∃ o, badHall.config.own = some o ∧ (badHall.config.hall[o.id]).isSome = true) ∧
    badHall.config.hall[(8 : Fin 16)] = some ⟨4900, 4900⟩ ∧ ¬((4900 : Nat) < 4900 ∧ 4900 < badHall.loopLen) ∧
    ((∀ j : Fin 16, j < 8 → badOrder badHall j = false) ∧ ∀ j : Fin 16, badOrder (goWith (some goodOwn) goodTiming) j = false) ∧
    edgeTimings.all (fun x => x.2.2 (goWith (some goodOwn) x.1) && !x.2.2 (goWith (some goodOwn) x.2.1)) = true ∧
    reserveBad (goWith (some ⟨5, 0x3f, 6, 6⟩) goodTiming) = true ∧ reserveBad (goWith (some ⟨5, 0x3f, 6, 5⟩) goodTiming) = false := by
  refine ⟨rfl, nofun, ⟨goodOwn, ?_⟩, ?_⟩ <;> decide +kernel

theorem witness_GoStartsTheStation : configured.part.state = .start ∧ Idle configured ∧ configProblem configured = none :=
  ⟨rfl, idle_configured, by decide +kernel⟩

/-! Participation, the watchdog and the fault record -/

theorem witness_WithdrawAndRejoin : Running (started .listening) ∧ (started .listening).part.state = .listening ∧
    Running cancelExample ∧ cancelExample.part.state = .active ∧ (∃ c ∈ cancelExample.contest.claims, c.state = .committed) ∧
    cancelExample.port.notices.length + 5 ≤ 32 ∧ (started .withdrawn).part.state = .withdrawn :=
  ⟨running_listening, rfl, running_cancelExample, rfl, by decide, by decide, rfl⟩

theorem witness_WithdrawAndRejoin_released : (∃ c ∈ cancelExample.contest.claims, c.state = .armed) ∧
    leaves .withdraw cancelExample (fun t => t.line.tx.any (fun x => x.frame == .release 31 .withdrawn)) = true := by decide +kernel

/-- A claim in each state, a fire with its window open, and every cause of an immediate withdrawal one event away. -/
def endingAll : State :=
  withLine (((withClaims (atCounter 24 true) [claim 1 ⟨1, 1, 1⟩ .queued none, claim 2 ⟨1, 1, 1⟩ .sending none,
    claim 3 ⟨1, 1, 1⟩ .armed (some 2684), claim 4 ⟨1, 1, 1⟩ .committed (some 2812), claim 41 ⟨1, 1, 1⟩ .firing (some 7548)]).setDivert
    ⟨true, some ⟨41, 1, some 3, some 3⟩, .clear, some 7, false⟩).setLoop ⟨24, true, true, 7, true, some 0⟩)
    (fun l => { l with checkErrors := 7, tx := [⟨.claim .current 1 1, false, true, false, false⟩] })

/-- Each of those causes leaves behind what the statements of an immediate withdrawal say. -/
theorem witness_WithdrawnAtOnce : ∀ c ∈ [Instr.forwardPulse, .reversePulse, .divertJam, .frameReceived [16, 0, 0, 0] false],
    leaves c (counting endingAll .missed (.place 1)) (fun t => t.part.state == .withdrawn && t.contest.claims == [] &&
      t.contest.orphans == [2] && t.counters[1].value == 1 && t.port.notices.contains (.divertMissed 41 1) &&
      [OutFrame.release 3 .fault, .release 4 .fault, .missed 41].all (fun f => t.line.tx.any (fun x => x.frame == f)) &&
      t.line.tx.any (fun x => x.frame.isClaimFor 1 && x.orphaned && x.withdrawAsked)) = true := by decide +kernel

theorem witness_WithdrawAndRejoin_rejoin : (started .active).part.state ≠ .withdrawn ∧ (mismatched .withdrawn).indicated .cfgMismatch = true ∧
    (started .withdrawn).part.state = .withdrawn ∧ (∀ f ∈ FaultId.all, (started .withdrawn).indicated f = false) ∧
    (fullNotices (started .withdrawn) 31).port.notices.length < 32 := by decide

def watchdogAt (w : WatchdogState) (n : Nat) (mode : WatchdogMode) : State :=
  ((started .active).setPart { (started .active).part with watchdog := w, watchdogTimer := n }).setConfig
    { hall64 with policy := some ⟨.place, .latched, mode, 10, 100⟩ }

theorem witness_WatchdogKeptArmedExpired : (watchdogAt .stopped 0 .warn).part.watchdog ≠ .running ∧
    (watchdogAt .running 10 .warn).part.watchdog = .running ∧
    (watchdogAt .running 10 .warn).policy.lower ≤ (watchdogAt .running 10 .warn).part.watchdogTimer ∧
    (watchdogAt .running 9 .withdraw).part.watchdogTimer < (watchdogAt .running 9 .withdraw).policy.lower ∧
    (watchdogAt .running 9 .withdraw).port.notices.length < 32 ∧ (watchdogAt .running 9 .withdraw).policy.mode = .withdraw ∧
    (watchdogAt .running 9 .warn).policy.mode ≠ .withdraw ∧ (watchdogAt .stopped 0 .warn).part.watchdog = .stopped ∧
    (watchdogAt .stopped 0 .warn).indicated .watchdog = false ∧
    (mark (watchdogAt .stopped 0 .warn) .watchdog ⟨true, true, false⟩).indicated .watchdog = true := by decide

theorem witness_WatchdogKeptArmedExpired_expired : (watchdogAt .off 0 .warn).part.watchdog ≠ .running ∧
    (watchdogAt .running 99 .withdraw).part.watchdog = .running ∧ (watchdogAt .running 99 .withdraw).policy.mode = .withdraw ∧
    (watchdogAt .running 100 .warn).policy.mode ≠ .withdraw ∧ (watchdogAt .running 99 .withdraw).port.notices.length < 32 := by
  decide

/-- Place 1 SUSPENDED, its PLACE_NOT_READY shown and ended. -/
def endedPlaceFault (r : Recovery) : State :=
  (mark (withPlace (started .active) 1 (plan .suspended 1 (some 1) [[⟨keg, 5, 0, 0, 0⟩]])) (.placeNotReady 1)
    ⟨true, true, false⟩).setConfig { hall64 with policy := some ⟨.place, r, .warn, 10, 100⟩ }

theorem witness_ClearFaultsClearsShown : (started .active).contest.searchDue = false ∧
    (∀ p : Fin 4, ((started .active).fault (.placeNotReady p)).indication = false) ∧
    (endedPlaceFault .auto).policy.scope = .place ∧ (endedPlaceFault .auto).policy.recovery = .auto ∧
    (endedPlaceFault .latched).policy.recovery = .latched ∧
    (endedPlaceFault .latched).fault (.placeNotReady 1) = ⟨true, true, false⟩ ∧
    ((endedPlaceFault .latched).place 1).state = .suspended ∧ ((endedPlaceFault .latched).watch 1).state = .unwatched := by
  decide

/-! Plans and places -/

theorem witness_InStartNothingRuns : State.reset.part.state = .start ∧ configured.part.state = .start := ⟨rfl, rfl⟩

theorem witness_OpenPlanChecksAndOpens : (started .active).part.state ≠ .start ∧ 4 ≤ (4 : BitVec 8).toNat ∧
    (0 : BitVec 8).toNat = 0 ∧ 12 < (13 : BitVec 8).toNat ∧ (3 : BitVec 8).toNat = (3 : Fin 4).val ∧ 1 ≤ (1 : BitVec 8).toNat ∧
    (12 : BitVec 8).toNat ≤ 12 ∧ (loading [] []).plans.loader ≠ none ∧ (started .active).plans.loader = none ∧
    (cellExample.place 0).state ≠ .empty ∧ cellExample.plans.loader = none ∧ ((started .active).place 3).state = .empty := by decide

theorem witness_AddLineChecksAndAppends : (started .active).plans.loader = none ∧ (loading [] []).plans.loader = some 2 ∧
    (0 : BitVec 8).toNat = 0 ∧ 12 < (13 : BitVec 8).toNat ∧ 5 < (6 : BitVec 8).toNat ∧ Form.other.code = (5 : BitVec 8).toNat ∧
    1 ≤ (1 : BitVec 8).toNat ∧ (12 : BitVec 8).toNat ≤ 12 ∧
    16 ≤ (((loading (List.replicate 16 kegLine) []).place 2).tier (1 : BitVec 8).toNat).length ∧
    ¬16 ≤ (((loading (List.replicate 15 kegLine) []).place 2).tier (1 : BitVec 8).toNat).length ∧
    ¬48 ≤ ((loading (List.replicate 15 kegLine) []).place 2).lineCount ∧
    ¬128 ≤ totalLines (loading (List.replicate 15 kegLine) []) := by decide +kernel

/-- A plan of one tier, open for place 2, that holds lines in tier 3, none, an article twice, or a form not supported. -/
def openFor (n : Nat) (tiers : List (List Line)) : State :=
  (withPlace (started .active) 2 (plan .loading n none tiers)).setConfig { hall64 with own := some ⟨5, 0x1f, 6, 2⟩ }

theorem witness_CommitRefusedByFirstFailingCheck : (started .active).plans.loader = none ∧
    (∀ s ∈ [openFor 2 [[kegLine], [kegLine], [kegLine]], openFor 1 [[]], openFor 1 [[crateLine, kegLine, kegLine]], openFor 1 [[crateLine]]],
      s.part.state ≠ .start ∧ s.plans.loader = some 2) ∧
    ((openFor 2 [[kegLine], [kegLine], [kegLine]]).place 2).tier 3 ≠ [] ∧ ((openFor 1 [[]]).place 2).tier 1 = [] ∧
    (∀ t ∈ tierNumbers, 1 < t → ((openFor 1 [[crateLine, kegLine, kegLine]]).place 2).tier t = []) ∧
    (((openFor 1 [[crateLine, kegLine, kegLine]]).place 2).tier 1)[1]? = some kegLine ∧
    (((openFor 1 [[crateLine, kegLine, kegLine]]).place 2).tier 1)[2]? = some kegLine ∧
    (openFor 1 [[crateLine]]).supports crateLine.case.form = false := by decide +kernel

/-- The same plan in CELL scope with the condition of place 2 live, beside a BUILDING place 0. -/
def cellCommit : State :=
  (setWatch (withPlace (openFor 1 [[kegLine]]) 0 (plan .building 1 (some 1) [[⟨crate, 9, 0, 0, 0⟩]])) 2 ⟨.notReady, 0⟩).setConfig
    { hall64 with policy := some ⟨.cell, .latched, .warn, 10, 100⟩ }

theorem witness_CommitStartsBuilding :
    (∀ s ∈ [openFor 1 [[kegLine]], setWatch (openFor 1 [[kegLine]]) 2 ⟨.notReady, 0⟩, setWatch (openFor 1 [[kegLine]]) 2 ⟨.rising, 7⟩],
      s.part.state ≠ .start ∧ s.plans.loader = some 2 ∧ planProblem s (s.place 2) = none ∧ s.policy.scope = .place) ∧
    ((openFor 1 [[kegLine]]).watch 2).state = .unwatched ∧ (cellCommit.plans.loader = some 2 ∧
      planProblem cellCommit (cellCommit.place 2) = none ∧ (cellCommit.watch 2).state = .notReady ∧ cellCommit.policy.scope = .cell ∧
      cellCommit.part.state ≠ .start ∧ (cellCommit.place 0).state = .building) := by decide +kernel

/-- Place 1 COMPLETE with one line. -/
def completePallet : State := withPlace (started .active) 1 (plan .complete 1 none [[kegLine]])

theorem witness_AbandonAndReleaseEmptyThePlace : (started .active).part.state ≠ .start ∧ (started .active).plans.loader = none ∧
    (loading [kegLine] []).plans.loader = some 2 ∧ 4 ≤ (4 : BitVec 8).toNat ∧ (2 : BitVec 8).toNat = (2 : Fin 4).val ∧
    ((loading [kegLine] []).place 2).state = .loading ∧ (1 : BitVec 8).toNat = (1 : Fin 4).val ∧
    (completePallet.place 1).state = .complete ∧ ((started .active).place 1).state ≠ .complete := by decide +kernel

theorem witness_CancelPalletEndsThePlace_more : Running (endedPlaceFault .latched) ∧
    ((endedPlaceFault .latched).place 1).state = .suspended ∧ (setPlaceState cancelExample 2 .cancelling).part.state ≠ .start ∧
    ((setPlaceState cancelExample 2 .cancelling).place 2).state = .cancelling :=
  ⟨running_of _ (by decide +kernel), by decide, by decide, by decide⟩

theorem witness_CancelPalletEndsThePlace : Running cancelExample ∧ cancelExample.part.state ≠ .start ∧
    (2 : BitVec 8).toNat = (2 : Fin 4).val ∧ (cancelExample.place 2).state = .building ∧ 4 ≤ (4 : BitVec 8).toNat ∧
    (cancelExample.place 1).state = .empty ∧ (completePallet.place 1).state = .complete ∧
    ((loading [] []).place 2).state = .loading ∧ (cancelExample.place 3).state ≠ .cancelling :=
  ⟨running_cancelExample, by decide, rfl, by decide, by decide, by decide, by decide, by decide, by decide⟩

/-- Place 2 CANCELLING with its last claim FIRING, the window of its fire at its last pulse. -/
def cancelling2 : State :=
  (withClaims (withPlace (started .active) 2 (plan .cancelling 1 none [[⟨crate, 3, 1, 0, 0⟩]])) [claim 30 ⟨2, 1, 1⟩ .firing (some 6140)]).setDivert
    ⟨false, some ⟨30, 2, none, some 99⟩, .clear, none, false⟩

theorem witness_CancelPalletEndsThePlace_later : Running cancelling2 ∧ cancelling2.contest.searchDue = false ∧
    (cancelling2.place 2).state = .cancelling ∧ (∃ x ∈ cancelling2.contest.claims, x.target.place = 2) ∧
    resets .windowClosedMissed = false ∧ resets .nop = false ∧ exec .nop cancelling2 = .next (answer cancelling2 .done) ∧
    cancelling2.port.notices.length + 16 ≤ 32 ∧
    leaves .windowClosedMissed cancelling2 (fun t => t.contest.claims == [] && t.place 2 == Place.empty &&
      t.port.notices == [.divertMissed 30 2, .cancelDone 2]) = true ∧
    (∃ c ∈ cancelExample.contest.claims, c.target.place = 2 ∧ c.state = .armed) ∧
    cancelExample.port.notices.length + 2 + 1 ≤ 32 :=
  ⟨running_of _ (by decide +kernel), rfl, by decide, by decide, rfl, rfl, rfl, by decide, by decide +kernel, by decide, by decide⟩

/-! The lane -/

theorem witness_PlacedMovesStagedToPlaced : laneExample.part.state ≠ .start ∧ laneExample.record? (65535 : BitVec 16).toNat = none ∧
    (laneExample.record? 311).map (·.state) = some .waiting ∧
    laneExample.record? (310 : BitVec 16).toNat = some ⟨310, 1, keg, some ⟨1, 2, 1⟩, .placeable⟩ ∧
    laneExample.lineAt ⟨1, 2, 1⟩ = some ⟨keg, 2, 0, 1, 1⟩ := by decide +kernel

/-- The same with tier 2 the last tier. -/
def lastTier : State := setPlace laneExample 1 { laneExample.place 1 with tierCount := some 2 }

theorem witness_FinishedTierAdvancesOrCompletes :
    (∀ s ∈ [laneExample, lastTier], s.part.state ≠ .start ∧
      s.record? (310 : BitVec 16).toNat = some ⟨310, 1, keg, some ⟨1, 2, 1⟩, .placeable⟩ ∧
      s.lineAt ⟨1, 2, 1⟩ = some ⟨keg, 2, 0, 1, 1⟩ ∧ (s.place 1).currentTier = some 2 ∧ s.port.notices.length < 32 ∧
      (s.place 1).tier 2 = [⟨keg, 2, 0, 1, 1⟩]) ∧
    (laneExample.place 1).tierCount = some 3 ∧ (lastTier.place 1).tierCount = some 2 ∧
    (∀ i x, i ≠ 0 → ([⟨keg, 2, 0, 1, 1⟩] : List Line)[i]? = some x → x.placed = x.quantity) :=
  ⟨by decide +kernel, by decide, by decide, by
    intro i x hi h
    cases i with
    | zero => exact absurd rfl hi
    | succ n => cases h⟩

theorem witness_RemoveCaseAndAcceptSuspect : laneExample.part.state ≠ .start ∧ 2 ≤ (2 : BitVec 8).toNat ∧ (1 : BitVec 8).toNat < 2 ∧
    laneExample.record? (65535 : BitVec 16).toNat = none ∧
    laneExample.record? (314 : BitVec 16).toNat = some ⟨314, 5, tray, some ⟨1, 3, 1⟩, .waiting⟩ ∧
    laneExample.lineAt ⟨1, 3, 1⟩ = some ⟨tray, 4, 1, 3, 0⟩ ∧
    (withRecords (started .withdrawn) [⟨7, 1, keg, none, .orphan⟩] 8).record? 7 = some ⟨7, 1, keg, none, .orphan⟩ ∧
    (withRecords (started .withdrawn) [⟨7, 1, keg, none, .orphan⟩] 8).part.state ≠ .active := by decide +kernel

theorem witness_RemoveCaseAndAcceptSuspect_accept : laneExample.part.state ≠ .start ∧ laneExample.record? (0 : BitVec 16).toNat = none ∧
    (laneExample.record? 310).map (·.state) = some .placeable ∧
    laneExample.record? (313 : BitVec 16).toNat = some ⟨313, 4, tray, some ⟨1, 3, 1⟩, .suspect⟩ ∧
    (laneExample.place 1).state = .building ∧ (laneExample.place 1).currentTier ≠ some 3 ∧
    ((setPlace laneExample 1 { laneExample.place 1 with currentTier := some 3 }).place 1).currentTier = some 3 := by decide +kernel

/-! Reads and counters -/

theorem witness_ReadNoticeTakesTheOldest : (started .active).port.notices = [] ∧
    cellExample.port.notices = .loopStopped :: [.loopRunning, .casePlaceable 315] ∧
    ((started .active).setPort ⟨none, ⟨.none, 0⟩, [.loopRunning], true⟩).port.notices = .loopRunning :: [] := by decide

theorem witness_ReadNoticeTakesTheOldest_full : 32 ≤ (fullNotices (stopping 0) 32).port.notices.length ∧
    (fullNotices (stopping 0) 32).loop.stopTimer.isSome = true ∧ (fullNotices (stopping 0) 31).port.notices.length < 32 := by decide

theorem witness_PalletAndLineReads : 4 ≤ (4 : BitVec 8).toNat ∧ (3 : BitVec 8).toNat = (3 : Fin 4).val ∧ (0 : BitVec 8).toNat = 0 ∧
    12 < (13 : BitVec 8).toNat ∧ 16 < (17 : BitVec 8).toNat ∧ 1 ≤ (12 : BitVec 8).toNat ∧ (12 : BitVec 8).toNat ≤ 12 ∧
    1 ≤ (16 : BitVec 8).toNat ∧ (16 : BitVec 8).toNat ≤ 16 ∧
    ((loading [kegLine] []).place 2).line? (12 : BitVec 8).toNat (16 : BitVec 8).toNat = none ∧
    ((loading [kegLine] []).place 2).line? (1 : BitVec 8).toNat (1 : BitVec 8).toNat = some kegLine := by decide +kernel

theorem witness_StagingReads : (∀ r ∈ laneExample.staging.records, r.arrival ≠ (65535 : BitVec 16).toNat) ∧
    laneExample.staging.records[3]? = some ⟨314, 5, tray, some ⟨1, 3, 1⟩, .waiting⟩ ∧
    (∀ x ∈ laneExample.staging.records.take 3, x.arrival ≠ (314 : BitVec 16).toNat) ∧ 12 ≤ (12 : BitVec 16).toNat ∧
    (11 : BitVec 16).toNat < 12 ∧ laneExample.staging.records.length ≤ (4 : BitVec 16).toNat ∧
    laneExample.staging.records[(0 : BitVec 16).toNat]? = some ⟨310, 1, keg, some ⟨1, 2, 1⟩, .placeable⟩ ∧
    2 < (3 : BitVec 8).toNat := by decide +kernel

theorem witness_ClaimReadsInFireOrder : 6 ≤ (6 : BitVec 8).toNat ∧ (5 : BitVec 8).toNat < 6 ∧
    cancelExample.contest.claims.length ≤ (3 : BitVec 8).toNat ∧
    ((fireOrder cancelExample)[(0 : BitVec 8).toNat]?).map (·.slot) = some 30 ∧
    ((fireOrder (firing41 (some 1) (some 1) .clear))[(0 : BitVec 8).toNat]?).map (·.state) = some .firing := by decide +kernel

theorem witness_ViewAndRosterReads : (started .active).part.state ≠ .start ∧ (started .active).slots ≤ (64 : BitVec 16).toNat ∧
    (63 : BitVec 16).toNat < (started .active).slots ∧ 16 ≤ (16 : BitVec 8).toNat ∧ (15 : BitVec 8).toNat = (15 : Fin 16).val := by
  decide

/-- Operands of SET COUNTER that pass its checks, at the ends of their ranges. -/
def goodSelections : List (BitVec 8 × BitVec 8 × BitVec 8 × BitVec 8) := [(3, 17, 1, 15), (0, 19, 0, 0), (3, 0, 2, 3)]

theorem witness_SetAndReadCounter : 4 ≤ (4 : BitVec 8).toNat ∧ 19 < (20 : BitVec 8).toNat ∧ 2 < (3 : BitVec 8).toNat ∧
    16 ≤ (16 : BitVec 8).toNat ∧ ((18 : BitVec 8).toNat = 18 ∧ (1 : BitVec 8).toNat ≠ 0) ∧
    (∀ x ∈ goodSelections, ¬(4 ≤ x.1.toNat ∨ 19 < x.2.1.toNat ∨ 2 < x.2.2.1.toNat ∨ (x.2.2.1.toNat = 1 ∧ 16 ≤ x.2.2.2.toNat) ∨
      (x.2.2.1.toNat = 2 ∧ 4 ≤ x.2.2.2.toNat) ∨ (x.2.2.1.toNat = 0 ∧ x.2.2.2.toNat ≠ 0) ∨
      ((x.2.1.toNat = 18 ∨ x.2.1.toNat = 19) ∧ (x.1.toNat ≠ 0 ∨ x.2.2.1.toNat ≠ 0)))) ∧
    (3 : BitVec 8).toNat = (3 : Fin 4).val := by simp [goodSelections]

/-! The belt, the gate and the divert -/

/-- Counter 0 at an occupancy sum, the counter at c, running or not. -/
def summing (e : CounterEvent) (c : Nat) (awaited running : Bool) : State :=
  (cellExample.setLoop ⟨c, true, awaited, 0, running, some 0⟩).setCounters (cellExample.counters.set 0 ⟨3, some e, .none⟩)

theorem witness_ReportsAndOccupancyCounted :
    (∀ e ∈ [CounterEvent.stagingOccupancy, .claimOccupancy], ∀ c ∈ [2686, 2687, 8180], ∀ r ∈ [true, false],
      (summing e c true r).counters[0].event = some e ∧ (summing e c true r).part.state ≠ .start) ∧
    (∀ s : State, exec .forwardPulse s = .next (forwardPulse s) ∧ exec .indexMark s = .next (indexMark s) ∧
      exec .nop s = .next (answer s .done)) ∧
    ((summing .claimOccupancy 2687 true true).loop.aligned = true ∧ (2687 + 1) % (summing .claimOccupancy 2687 true true).loopLen %
      (summing .claimOccupancy 2687 true true).pitch = 0 ∧ (2686 + 1) % (summing .claimOccupancy 2687 true true).loopLen %
      (summing .claimOccupancy 2687 true true).pitch ≠ 0) ∧
    (summing .claimOccupancy 8180 true true).loopLen ≤ 8180 + (summing .claimOccupancy 8180 true true).timing.tolerance ∧
    Instr.nop ∉ [Instr.forwardPulse, .indexMark, .gateEdgeAccepted, .gateCleared, .edgeExpired, .dwellEnd, .windowClosedMissed,
      .confirmEdge, .confirmCleared] ∧ resets .nop = false ∧ (∀ a b d f, Instr.nop ≠ .setCounter a b d f) :=
  ⟨by decide +kernel, fun _ => ⟨rfl, rfl, rfl⟩, by decide, by decide, by decide, rfl, nofun⟩

/-- The claim for slot 22 in a state, the counter at c, its CLAIM frame in the transmit queue as given. -/
def pulseAt (c : Nat) (st : ClaimState) (tx : List TxFrame) : State :=
  withLine (withClaims (contest22 c st) [claim 22 ⟨1, 2, 3⟩ st (if st = .queued ∨ st = .sending then none else some 5116)])
    (fun l => { l with tx := tx })

/-- Slot 22 passes the gate at 2,816, is near up to 4,516 and fires at 5,116; a waiting ANNOUNCE and a pending edge of it. -/
theorem witness_AlignedPulseReachesPosition :
    Running (pulseAt 4516 .queued [tx22 false false]) ∧ Running (pulseAt 5115 .armed []) ∧
    (∀ c ∈ [2815, 4515, 4516, 5115], ∀ st ∈ [ClaimState.sending, .queued, .armed, .committed],
      (pulseAt c st []).loop.aligned = true ∧
      ¬((c + 1) % 8192 = (pulseAt c st []).timing.tolerance + 1 ∧ ((pulseAt c st []).loop.markAwaited = true ∨
        (c + 1) % 8192 + (pulseAt c st []).timing.tolerance = (pulseAt c st []).loopLen)) ∧
      ((pulseAt c st []).claimAt 22).map (·.state) = some st ∧ (pulseAt c st []).gate.deglitch = .clear) ∧
    22 * (pulseAt 2815 .queued []).pitch = 2815 + 1 ∧
    (posMod ((4516 : Int) - (22 * 128 : Nat)) 8192 < 2300 ∧ 600 ≤ 2300 - posMod ((4516 : Int) - (22 * 128 : Nat)) 8192 ∧
      ¬600 ≤ 2300 - posMod ((4517 : Int) - (22 * 128 : Nat)) 8192) ∧
    (tx22 false false ∈ (pulseAt 4516 .queued [tx22 false false]).line.tx ∧ (tx22 false false).frame.isClaimFor 22 = true ∧
      (tx22 false false).sending = false ∧ (tx22 false false).inAttempt = false ∧
      ∀ y ∈ (pulseAt 4516 .queued [tx22 false true]).line.tx, y.inAttempt = true) ∧
    (∀ st ∈ [ClaimState.armed, .committed], ((pulseAt 5115 st []).claimAt 22).map (·.firePos) = some (some (5115 + 1))) ∧
    (pulseAt 5115 .armed []).contest.claims.length = 1 ∧
    (counting (pulseAt 4516 .queued [tx22 false false]) .claimExpired (.place 1)).counters[1].filter = .place 1 :=
  ⟨running_of _ (by decide +kernel), running_of _ (by decide +kernel), by decide +kernel, by decide, by decide, by decide, by decide, by decide, by decide⟩

theorem witness_PulsesMoveTheCounter : (started .active).part.state ≠ .start ∧
    ((atCounter 24 true).loop.aligned = true ∧ (atCounter 24 true).loop.markAwaited = true ∧
      ((atCounter 24 true).loop.counter + 1) % (atCounter 24 true).loopLen = (atCounter 24 true).timing.tolerance + 1) ∧
    ((atCounter 8167 false).loop.counter + 1) % (atCounter 8167 false).loopLen + (atCounter 8167 false).timing.tolerance =
      (atCounter 8167 false).loopLen ∧
    (((started .active).setLoop ⟨50, true, false, 0, false, none⟩).loop.running = false ∧ (started .active).port.notices.length < 32) ∧
    ((unaligned .active 8191).loop.aligned = false ∧ (unaligned .active 8191).loop.running = true ∧
      (unaligned .active 8191).gate.edges = [] ∧ (unaligned .active 8191).gate.deglitch = .clear ∧
      (unaligned .active 8191).divert.deglitch = .clear ∧ (unaligned .active 8191).divert.fire = none ∧
      (unaligned .active 8191).contest.searchDue = false) ∧
    ((started .active).loop.reverseTally + 1 < 8 ∧ (started .active).loop.running = true) ∧
    8 ≤ atBounds.loop.reverseTally + 1 := by decide +kernel

theorem witness_IndexMarkClassified : (started .active).part.state ≠ .start ∧ (unaligned .listening 3117).loop.aligned = false ∧
    (unaligned .listening 3117).part.state = .listening ∧
    ((armed46 8168).loop.aligned = true ∧ (armed46 8168).loopLen ≤ (armed46 8168).loop.counter + (armed46 8168).timing.tolerance ∧
      (armed46 8168).loop.markAwaited = true ∧ ∃ x ∈ (armed46 8168).contest.claims, (x.state = .armed ∨ x.state = .committed) ∧
        x.firePos = some 8188 ∧ (armed46 8168).loop.counter < 8188) ∧
    ((atCounter 24 true).loop.counter ≤ (atCounter 24 true).timing.tolerance ∧
      ¬(atCounter 24 true).loopLen ≤ (atCounter 24 true).loop.counter + (atCounter 24 true).timing.tolerance) ∧
    ((atCounter 0 false).loop.counter ≤ (atCounter 0 false).timing.tolerance ∧ (atCounter 0 false).loop.markAwaited = false) ∧
    (∀ c ∈ [25, 4095, 4096, 8167], ¬(atCounter c false).loopLen ≤ c + (atCounter c false).timing.tolerance ∧
      ¬c ≤ (atCounter c false).timing.tolerance) ∧ 4095 < (atCounter 4095 false).loopLen / 2 ∧
    ¬4096 < (atCounter 4096 false).loopLen / 2 := by decide +kernel

/-- A claim for slot k in a state and its CLAIM frame, the mark awaited at counter c. -/
def marking (c k : Nat) (st : ClaimState) (tx : List TxFrame) : State :=
  withLine (withClaims (withPlace (atCounter c true) 1 (plan .building 1 (some 1) [[⟨crate, 9, 1, 0, 0⟩]])) [claim k ⟨1, 1, 1⟩ st (some 77)])
    (fun l => { l with tx := tx })

/-- A fire with its window open, and a claim that a forward realignment sweeps. -/
def sweeping : State :=
  (withClaims (atCounter 8180 true) [claim 46 ⟨0, 1, 1⟩ .committed (some 0), claim 41 ⟨1, 2, 3⟩ .firing (some 7548)]).setDivert
    ⟨true, some ⟨41, 1, some 3, some 4⟩, .clear, none, false⟩

theorem witness_IndexMarkClassified_swept : Running sweeping ∧ sweeping.loop.aligned = true ∧
    sweeping.loopLen ≤ sweeping.loop.counter + sweeping.timing.tolerance ∧ sweeping.loop.markAwaited = true ∧
    sweeping.claimAt 46 = some (claim 46 ⟨0, 1, 1⟩ .committed (some 0)) ∧
    (∀ z ∈ sweeping.contest.claims, z ≠ claim 46 ⟨0, 1, 1⟩ .committed (some 0) → z.state = .firing) ∧
    sweeping.divert.fire = some ⟨41, 1, some 3, some 4⟩ ∧ sweeping.port.notices.length < 32 ∧
    (sweeping.claimAt 41).map (·.state) = some .firing ∧ countsAt (counting sweeping .missed (.place 1)) 1 .missed 1 :=
  ⟨running_of _ (by decide +kernel), rfl, by decide, rfl, by decide, by decide, rfl, by decide, by decide, by decide, .inr (by decide)⟩

/-- The same with the divert within the sweep and an arm lead below the tolerance, so that slot 0 passes the divert in it. -/
def passingDivert (st : ClaimState) (tx : List TxFrame) : State :=
  let s := marking 8180 0 st tx
  s.setConfig { s.config with
    hall := s.config.hall.set 5 (some ⟨1000, 8190⟩)
    timing := s.config.timing.map (fun x => { x with armLead := 5 }) }

/-- R9, R114: a claim of slot 0, reachable at c and again at 0, is late by the positions swept between. -/
theorem test_swept_sending_late : leaves .indexMark (passingDivert .sending [])
    (fun t => t.claimAt 0 == some { claim 0 ⟨1, 1, 1⟩ .sending (some 77) with late := true }) = true := by decide +kernel
theorem test_swept_queued_expires : leaves .indexMark
    (counting (passingDivert .queued [TxFrame.waiting (.claim .current 0 1)]) .claimExpired (.place 1))
    (fun t => t.claimAt 0 == none && t.line.tx == [] && t.counters[1].value == 1) = true := by decide +kernel

theorem witness_IndexMarkClassified_passed :
    Running (passingDivert .queued [TxFrame.waiting (.claim .current 0 1)]) ∧
    (passingDivert .queued []).timing.tolerance ≤ (passingDivert .queued []).pitch / 4 ∧
    nearAt (passingDivert .queued []) 8180 0 = true ∧ nearAt (passingDivert .queued []) 0 0 = true ∧
    (∃ c ∈ sweptValues (passingDivert .queued []), nearAt (passingDivert .queued []) c 0 = false) ∧
    (∀ c ∈ sweptValues (marking 8180 60 .queued []), nearAt (marking 8180 60 .queued []) c 60 = true) :=
  ⟨running_of _ (by decide +kernel), by decide, by decide, by decide, ⟨8191, by decide +kernel, by decide⟩, by decide +kernel⟩

/-- Slot 60 is reachable at counter 0, slot 22 is not, and slot 47 has fewer pulses to fire than the arm lead. -/
theorem witness_IndexMarkClassified_tested :
    (∀ c ∈ [8180, 24], Running (marking c 22 .queued [TxFrame.waiting (.claim .current 22 1)]) ∧
      (marking c 22 .queued []).loop.aligned = true ∧ (marking c 22 .queued []).loop.markAwaited = true) ∧
    (8192 ≤ 8180 + (marking 8180 22 .queued []).timing.tolerance ∧ ¬8192 ≤ 24 + (marking 24 22 .queued []).timing.tolerance) ∧
    (nearAt (marking 24 60 .queued []) 0 60 = true ∧ nearAt (marking 24 22 .queued []) 0 22 = false ∧
      pulsesAt (marking 24 47 .armed []) 0 47 < (marking 24 47 .armed []).timing.armLead) ∧
    (∀ st ∈ [ClaimState.queued, .sending, .armed, .committed], (marking 24 22 st []).claimAt 22 = some (claim 22 ⟨1, 1, 1⟩ st (some 77)) ∧
      ¬(24 < 77 ∧ 8192 ≤ 24)) ∧
    (∃ y ∈ (marking 24 22 .queued [TxFrame.waiting (.claim .current 22 1)]).line.tx, y.frame.isClaimFor 22 = true ∧ y.idle = true) :=
  ⟨fun c hc => by
    simp only [List.mem_cons, List.not_mem_nil, or_false] at hc
    rcases hc with rfl | rfl <;> exact ⟨running_of _ (by decide +kernel), rfl, rfl⟩,
    by decide, by decide +kernel, by decide, by decide⟩

theorem witness_EyesMoveTheDeglitch : (started .active).part.state ≠ .start ∧ (started .active).divert.jam = false ∧
    ((started .active).setDivert ⟨false, none, .blocked, none, true⟩).divert.jam = true := by decide

/-- A pending edge at the last age of the scan window. -/
def agedEdge : State := withGate (atCounter 3833 false) .clear [⟨3630, 20, 199, false⟩]

theorem witness_GatePulsesAcceptClearAndExpire : (started .active).part.state ≠ .start ∧
    (∀ n ∈ [3, 9], (withGate (started .active) (.blocking 3500 true n) []).gate.deglitch = .blocking 3500 true n ∧
      (started .active).timing.gateDeglitch ≤ n + 1) ∧
    (withGate (started .active) (.clearing 3) []).gate.deglitch = .clearing 3 ∧
    ((∃ e ∈ agedEdge.gate.edges, agedEdge.timing.scanWindow ≤ e.age + 1) ∧ agedEdge.gate.deglitch = .clear) ∧
    (counting agedEdge .noRead .none).counters[1].event = some .noRead ∧ (counting agedEdge .noRead .none).counters[1].filter = .none ∧
    gateAcceptDue (withGate (started .active) (.blocking 3500 true 2) []) = false ∧
    gateClearDue (withGate (started .active) (.clearing 2) []) = false ∧
    (∀ e ∈ (withGate (started .active) .clear [⟨3630, 20, 198, false⟩]).gate.edges, e.age + 1 < (started .active).timing.scanWindow) := by
  decide +kernel

theorem witness_ScannerReportsPaired :
    (∀ s ∈ [started .active, withGate (started .active) .clear [⟨3500, 19, 9, false⟩], withGate (started .active) .clear [⟨3500, 19, 9, true⟩],
        withView (withGate (started .active) .clear [⟨3500, 19, 9, false⟩]) 19 (.free (some keg) (some 2))],
      s.part.state ≠ .start ∧ s.gate.report.length < 6 ∧ s.gate.report.length + 1 < 6 ∧
      s.gate.report.length + kegReport.length = 6) ∧
    ((started .active).setGate ⟨.clear, [], code [1, 0, 156, 181, 3], 0⟩).gate.report.length + 1 = 6 ∧
    (started .active).gate.edges = [] ∧
    (withGate (started .active) .clear [⟨3500, 19, 9, false⟩]).gate.edges = ⟨3500, 19, 9, false⟩ :: [] ∧
    reportCase (code [1, 0, 156, 181, 7, 166]) = none ∧ reportCase kegReport = some keg ∧
    (started .active).viewAt 19 = .empty ∧ (started .active).part.state = .active ∧ (started .active).gate.report = [] ∧
    ((started .active).setGate ⟨.clear, [], code [1], 0⟩).gate.report ≠ [] := by decide +kernel

/-- Slot 41 FIRING for a CANCELLING place. -/
def firingCancelled : State := setPlaceState (firing41 (some 23) (some 23) (.blocking 3)) 1 .cancelling

/-- An UNALIGNED part with a confirm edge about to be accepted and no fire. -/
def strayDue : State := (unaligned .active 60).setDivert ⟨false, none, .blocking 3, none, false⟩

theorem witness_DivertPulsesDecideTheFire :
    (∀ s ∈ [firing41 (some 23) (some 23) (.blocking 3), firingCancelled], s.part.state ≠ .start ∧ s.divert.deglitch = .blocking 3 ∧
      s.timing.confirmDeglitch ≤ 3 + 1 ∧ s.divert.fire = some ⟨41, 1, some 23, some 23⟩ ∧
      (firingClaim s 41).map (·.slot) = some 41 ∧ (s.loop.counter + 1) % s.loopLen ≠ s.timing.tolerance + 1) ∧
    (firingCancelled.place 1).state = .cancelling ∧ ((firing41 none none .clear).place 1).state = .building ∧
    (strayDue.part.state ≠ .start ∧ strayDue.divert.deglitch = .blocking 3 ∧ strayDue.divert.fire = none ∧
      strayDue.loop.aligned = false ∧ strayDue.loop.running = true ∧ strayDue.gate.edges = [] ∧ strayDue.gate.deglitch = .clear ∧
      strayDue.contest.searchDue = false) ∧
    (firing41 none none (.clearing 3)).divert.deglitch = .clearing 3 ∧
    ((firing41 (some 39) none .clear).divert.fire = some ⟨41, 1, some 39, none⟩ ∧ (firing41 (some 39) none .clear).timing.dwell ≤ 39 + 1 ∧
      ∀ x ∈ (firing41 (some 39) none .clear).contest.claims, x.firePos ≠ some ((6960 + 1) % 8192)) ∧
    ((firing41 none (some 99) .clear).divert.fire = some ⟨41, 1, none, some 99⟩ ∧
      (firing41 none (some 99) .clear).timing.confirmWindow ≤ 99 + 1 ∧ confirmEdgeDue (firing41 none (some 99) .clear) = false ∧
      ((firing41 none (some 99) .clear).claimAt 41).map (·.state) = some .firing ∧
      (fullNotices (firing41 none (some 99) .clear) 28).port.notices.length + 4 ≤ 32) ∧
    confirmEdgeDue (firing41 none none (.blocking 2)) = false ∧ confirmClearDue (firing41 none none (.clearing 2)) = false ∧
    dwellEndDue (firing41 (some 38) none .clear) = false ∧ windowMissDue (firing41 none (some 98) .clear) = false := by decide +kernel

/-- Slot 41 FIRING with the books of its line in step. -/
def firingBooked (dwell window : Option Nat) (d : ConfirmDeglitch) : State :=
  modifyLine (firing41 dwell window d) ⟨1, 2, 3⟩ (fun l => { l with staged := 0 })

theorem witness_DivertPulsesDecideTheFire_books :
    (∀ s ∈ [firingBooked (some 23) (some 23) (.blocking 3), firingBooked (some 30) (some 99) .clear], Running s ∧ CountLaw s ∧
      (s.place 1).state = .building ∧ s.lineAt ⟨1, 2, 3⟩ = some ⟨tray, 4, 1, 0, 0⟩ ∧ s.port.notices.length + 4 ≤ 32) ∧
    countsAt (counting (firingBooked (some 30) (some 99) .clear) .missed .none) 1 .missed 1 ∧
    countsAt (counting (firingBooked (some 23) (some 23) (.blocking 3)) .taken (.place 1)) 1 .taken 1 :=
  ⟨fun s hs => by
    simp only [List.mem_cons, List.not_mem_nil, or_false] at hs
    rcases hs with rfl | rfl <;>
      exact ⟨running_of _ (by decide +kernel), by apply counts_of <;> decide +kernel, by decide, by decide, by decide⟩,
    ⟨by decide, .inl (by decide)⟩, ⟨by decide, .inr (by decide)⟩⟩

theorem witness_DivertJamWithdraws : (started .active).divert.jamTimer = none ∧
    ((started .active).setDivert ⟨false, none, .blocked, some 0, false⟩).divert.jamTimer = some 0 ∧
    ((started .active).setDivert ⟨false, none, .blocked, some 999, false⟩).divert.jamTimer = some 999 := by decide

/-- Place 1 SUSPENDED with its watch RISING. -/
def risingFault (r : Recovery) : State := setWatch (endedPlaceFault r) 1 ⟨.rising, 4⟩

theorem witness_PlaceReadyWatch : ((started .active).watch 3).state ≠ .dropping ∧ ((started .active).watch 3).state ≠ .rising ∧
    ((placeFault .place).watch 1).state = .dropping ∧ (placeFault .place).policy.scope = .place ∧
    ((placeFault .place).place 1).state = .building ∧ ((placeFault .cell).watch 1).state = .dropping ∧
    (placeFault .cell).policy.scope = .cell ∧ ((placeFault .cell).place 2).state ≠ .cancelling ∧
    ((risingFault .auto).watch 1).state = .rising ∧ (risingFault .auto).policy.scope = .place ∧
    (risingFault .auto).policy.recovery = .auto ∧ ((risingFault .auto).place 1).state = .suspended ∧
    (risingFault .latched).policy.recovery = .latched ∧ ((risingFault .latched).watch 1).state = .rising := by decide +kernel

/-- The place fault with the claim of slot 12 SENDING, or QUEUED with its frame in an attempt. -/
def suspending (st : ClaimState) (t : TxFrame) : State :=
  let s := placeFault .place
  withLine (s.setContest { s.contest with claims := [claim 12 ⟨1, 1, 1⟩ st none, claim 15 ⟨1, 1, 1⟩ .armed (some 4220)] })
    (fun l => { l with tx := [t] })

/-- Place 1 SUSPENDED at tier 1 with one WAITING record of it, in a scope, the faults of places 1 and 2 as given. -/
def suspended (sc : Scope) (r : Recovery) (w : WatchState) (f1 f2 : FaultEntry) : State :=
  let s := withRecords (withPlace (started .withdrawn) 1 (plan .suspended 2 (some 1) [[⟨keg, 5, 0, 1, 0⟩], [⟨tray, 5, 0, 1, 0⟩]]))
    [⟨520, 3, keg, some ⟨1, 1, 1⟩, .waiting⟩, ⟨521, 4, tray, some ⟨1, 2, 1⟩, .waiting⟩] 522
  setWatch ((mark (mark s (.placeNotReady 1) f1) (.placeNotReady 2) f2).setConfig
    { hall64 with policy := some ⟨sc, r, .warn, 10, 100⟩ }) 1 ⟨w, 0⟩

theorem witness_SuspensionAndResumption :
    (Running (placeFault .place) ∧ Running (placeFault .cell) ∧ Running (suspending .sending ⟨.claim .current 12 1, true, true, false, false⟩) ∧
      Running (suspended .place .auto .rising ⟨true, true, true⟩ ⟨false, false, false⟩) ∧
      Running (suspended .cell .latched .unwatched ⟨true, true, false⟩ ⟨true, true, true⟩)) ∧
    (∀ s ∈ [placeFault .place, suspending .queued ⟨.claim .current 12 1, false, true, false, false⟩], s.policy.scope = .place ∧
      (s.watch 1).state = .dropping ∧ (s.place 1).state = .building ∧ (s.claimAt 12).map (·.state) = some .queued ∧
      (s.claimAt 15).map (·.state) = some .armed) ∧
    ((placeFault .place).claimAt 18).map (·.state) = some .committed ∧
    (∃ y ∈ (placeFault .place).line.tx, y.frame.isClaimFor 12 = true ∧ y.sending = false ∧ y.inAttempt = false) ∧
    (let s := suspended .place .auto .rising ⟨true, true, true⟩ ⟨false, false, false⟩
     s.policy.scope = .place ∧ s.policy.recovery = .auto ∧ (s.watch 1).state = .rising ∧ (s.place 1).state = .suspended ∧
       (s.place 1).currentTier = some 1 ∧ s.port.notices.length + 2 ≤ 32) ∧
    ((placeFault .cell).policy.scope = .cell ∧ ((placeFault .cell).watch 1).state = .dropping) ∧
    (let clears := fun (s : State) (i : Fin 13) => s.part.faults[i].indication && s.part.faults[i].shown && !s.part.faults[i].condition
     (∀ f2 ∈ [(⟨true, true, true⟩ : FaultEntry), ⟨false, false, false⟩],
       let s := suspended .cell .latched .unwatched ⟨true, true, false⟩ f2
       s.policy.scope = .cell ∧ s.contest.searchDue = false ∧ clears s 7 = true ∧
         (s.part.faults[8].indication = true ∧ clears s 8 = false ∨ ∀ p : Fin 4, s.part.faults[6 + p.val].indication = true → p = 1)) ∧
     let s := suspended .cell .latched .unwatched ⟨true, true, false⟩ ⟨false, false, false⟩
     (∀ p, (s.watch p).state = .unwatched ∨ (s.place p).state = .building) ∧
       ∀ p, (s.place p).state = .suspended → (s.place p).currentTier.isSome = true) :=
  ⟨⟨running_of _ (by decide +kernel), running_of _ (by decide +kernel), running_of _ (by decide +kernel),
    running_of _ (by decide +kernel), running_of _ (by decide +kernel)⟩, by decide +kernel, by decide +kernel, by decide +kernel,
    by decide +kernel, by decide +kernel, by decide +kernel⟩

/-! The hall line -/

theorem witness_HallFramesReadBack : (511 : Nat) < 512 ∧ (7 : Nat) < 8 ∧ (3 : Nat) < 4 ∧ (16777215 : Nat) < 16777216 ∧
    (65535 : Nat) < 65536 ∧ (15 : Nat) < 16 ∧ ([0, 0, 0] : List Byte).length = 3 ∧ frameKind [0x0f, 0, 0] = 0 ∧
    8 ≤ frameKind [0x80, 0, 0] := by decide

def seekingLine (stuck : Bool) : State := withLine (started .active) (fun l => { l with state := .seeking, stuck := stuck })

theorem witness_LineStatesAndAttempts : (seekingLine false).line.state = .seeking ∧ (seekingLine false).line.stuck = false ∧
    (seekingLine true).line.stuck = true ∧ (started .active).line.state ≠ .seeking ∧ (started .active).line.tx = [] ∧
    (let s := withLine (contest22 3914 .queued) (fun l => { l with tx := [tx22 false false] })
     s.line.state = .free ∧ s.line.stuck = false ∧ s.line.held = none ∧ s.line.attempt = none ∧
       txOrder s = tx22 false false :: []) := by decide +kernel

/-- A transmit queue of n RELEASE frames and an ANNOUNCE for each slot of a list. -/
def queued (n : Nat) (ks : List Nat) : State :=
  withLine (started .active) (fun l => { l with
    tx := (List.range n).map (fun k => TxFrame.waiting (.release k .lost)) ++ ks.map (fun k => TxFrame.waiting (.announce k tray)) })

theorem witness_TransmitQueueTakesAndOrders :
    (OutFrame.announce 3 tray).isAnnounce = true ∧ (OutFrame.taken 3 1).isAnnounce = false ∧
    (5 ≤ ((queued 1 [9, 10, 11, 12, 13]).line.tx.filter (fun y => y.frame.isAnnounce)).length ∧
      ¬5 ≤ ((queued 7 [9, 10, 11, 12]).line.tx.filter (fun y => y.frame.isAnnounce)).length) ∧
    ((∀ s ∈ [queued 10 [9, 10], queued 12 []], 12 ≤ s.line.tx.length) ∧ ¬12 ≤ (queued 9 [9, 10]).line.tx.length) ∧
    (TxFrame.waiting (.announce 10 tray) ∈ (queued 10 [9, 10]).line.tx ∧ ∀ y ∈ (queued 12 []).line.tx, y.frame.isAnnounce = false) ∧
    (started .listening).part.state = .listening ∧ (started .withdrawn).part.state = .withdrawn ∧
    (started .withdrawn).withdrawingSet = false ∧
    (let s := withLine (started .active) (fun l => { l with tx := [⟨.join 7994, false, true, false, false⟩] })
     ∀ y ∈ s.line.tx, y.frame.isParticipation = true ∧ y.sending = false ∧ y.inAttempt = true) := by decide +kernel

/-- An attempt with a CLAIM, or with an ANNOUNCE, whose withdrawal was asked for, in a station that is not ACTIVE. -/
def askedWithdrawal (f : OutFrame) : State :=
  withLine ((contest22 3914 .queued).setPart { (contest22 3914 .queued).part with state := .withdrawn }) (fun l =>
    { l with state := .carrying, tx := [⟨f, false, true, true, false⟩], attempt := some ⟨f.onLine 5 9, false, none⟩ })

theorem witness_ArbitrationDecides : (started .active).line.attempt = none ∧
    ((sending22 true 1 true).line.attempt.map (·.won) = some true) ∧
    (∀ s ∈ [sending22 false 0 false, sending22 false 1 true], s.line.attempt = some ⟨.claim 1 9 5 22 1, false, none⟩ ∧
      s.contest.searchDue = false) ∧
    ((sending22 false 0 false).line.tx.find? (·.inAttempt) = some (tx22 false true) ∧ (tx22 false true).sending = false ∧
      (tx22 false true).withdrawAsked = false ∧ (tx22 false true).orphaned = false ∧
      ((sending22 false 0 false).claimAt 22).isSome = true) ∧
    ((sending22 false 1 true).line.tx.find? (·.inAttempt) = some (tx22 true true) ∧ (tx22 true true).sending = true) ∧
    (∀ f ∈ [OutFrame.announce 22 tray, .claim .current 22 1], (askedWithdrawal f).part.state ≠ .active ∧
      (askedWithdrawal f).line.tx.find? (·.inAttempt) = some ⟨f, false, true, true, false⟩ ∧
      (askedWithdrawal f).line.attempt.map (·.won) = some false) ∧
    ((sending22 false 0 false).line.attempt.all (fun a => !lostArbitration a.sent.kind a.sent.bytes ownKey &&
      lostArbitration a.sent.kind a.sent.bytes lowerKey && lineBit a.sent.bytes 16 && !lineBit lowerKey 16) = true ∧
      16 < keyBits (Frame.claim 1 9 5 22 1).kind) ∧
    (let key := fun x : Frame => bytesToNat (x.bytes.take 3) / 2 ^ (24 - keyBits (Frame.claim 1 9 5 22 1).kind)
     3 ≤ claim12.bytes.length ∧ 3 ≤ (Frame.claim 1 9 5 22 1).bytes.length ∧ key claim12 < key (.claim 1 9 5 22 1)) ∧
    (let s := withLine (askedWithdrawal (.claim .current 22 1)) (fun l => { l with tx := l.tx.map (fun x => { x with orphaned := true }) })
     s.line.tx.find? (·.inAttempt) = some ⟨.claim .current 22 1, false, true, true, true⟩) := by decide +kernel

/-- The same in an ACTIVE station, with a pending end. -/
def askedActive (f : OutFrame) (pe : Option PendingEnd) : State :=
  withClaims ((askedWithdrawal f).setPart { (askedWithdrawal f).part with state := .active })
    [{ claim 22 ⟨1, 2, 3⟩ .queued none with pendingEnd := pe }]

theorem witness_ArbitrationDecides_active : ∀ f ∈ [OutFrame.announce 22 tray, .claim .current 22 1],
    ∀ pe ∈ [none, some .lost, some .expired, some .cancelled], let s := askedActive f pe
    s.part.state = .active ∧ s.contest.searchDue = false ∧ s.line.tx.find? (·.inAttempt) = some ⟨f, false, true, true, false⟩ ∧
      s.line.attempt.map (·.won) = some false ∧ (s.claimAt 22).map (·.pendingEnd) = some pe ∧
      s.line.attempt.all (fun a => lostArbitration a.sent.kind a.sent.bytes [0, 0, 0]) = true := by decide +kernel

/-- A queued claim that its key's loss ends in an ACTIVE station is counted, and a search claims the FREE slot anew. -/
theorem test_arbitration_active : leaves (.arbitrationEnd [0, 0, 0])
    (counting (withView (askedActive (.claim .current 22 1) (some .lost)) 22 (.free (some tray) (some 2))) .claimLost (.place 1))
    (fun t => t.counters[1].value == 1 && t.claimAt 22 == some (claim 22 ⟨1, 2, 3⟩ .queued none) &&
      t.line.tx == [TxFrame.waiting (.claim .current 22 1)]) = true := by decide +kernel

/-- A FREE line with n frames received and e check errors in a row. -/
def receiving (n e : Nat) : State :=
  withLine (started .active) (fun l => { l with rx := List.replicate n ⟨claim12, false⟩, checkErrors := e })

theorem witness_FramesReceivedAndAnswered : ¬((seekingLine false).line.state = .free ∨ (seekingLine false).line.state = .carrying) ∧
    (∀ s ∈ [receiving 7 0, receiving 8 0, receiving 0 6, receiving 0 7], s.line.state = .free ∧ s.line.attempt = none ∧
      s.line.answer = none ∧ s.contest.searchDue = false) ∧
    (claim12.bytes.length = frameDataLength (frameKind claim12.bytes) + 1 ∧ byteSum claim12.bytes % 256 = 255) ∧
    (receiving 7 0).line.rx.length < 8 ∧ 8 ≤ (receiving 8 0).line.rx.length ∧ byteSum [16, 0, 0, 0] % 256 ≠ 255 ∧
    (receiving 0 6).line.checkErrors + 1 < 8 ∧ 8 ≤ (receiving 0 7).line.checkErrors + 1 ∧
    (let s := withLine (sending22 true 1 true) (fun l => { l with attempt := some ⟨.claim 1 9 5 22 1, true, none⟩ })
     s.line.state = .carrying ∧ s.line.attempt = some ⟨.claim 1 9 5 22 1, true, none⟩) := by decide +kernel

theorem witness_FrameEndsAndHeldFrame : (started .active).line.state ≠ .carrying ∧
    (let s := withLine (started .active) (fun l => { l with state := .carrying, answer := some .accept })
     s.line.state = .carrying ∧ s.line.attempt = none) ∧
    (∀ n ∈ [1, 7, 8], (sending22 true n true).line.state = .carrying ∧
      (sending22 true n true).line.attempt = some ⟨.claim 1 9 5 22 1, true, some false⟩ ∧
      (sending22 true n true).line.tx.find? (·.inAttempt) = some (tx22 true true) ∧ (sending22 true n true).contest.searchDue = false) ∧
    (sending22 false 1 true).line.attempt = some ⟨.claim 1 9 5 22 1, false, none⟩ ∧
    (sending22 true 7 true).line.repeatCount < 8 ∧ 8 ≤ (sending22 true 8 true).line.repeatCount ∧
    (sending22 true 8 true).line.rx.length < 8 ∧
    8 ≤ (withLine (sending22 true 8 true) (fun l => { l with rx := List.replicate 8 ⟨claim12, false⟩ })).line.rx.length ∧
    ((sending22 true 8 true).setPart { (sending22 true 8 true).part with state := .withdrawn }).part.state ≠ .active ∧
    (started .active).line.held = none ∧
    (let s := withLine (receiving 7 0) (fun l => { l with held := some claim12 })
     s.line.held = some claim12 ∧ s.line.rx.length < 8) := by decide +kernel

/-- An ACTIVE station at the end of its send of a frame. -/
def ending (f : OutFrame) (repeats : Nat) : State :=
  withLine (contest22 3914 .queued) (fun l => { l with
    state := .carrying
    repeatCount := repeats
    tx := [⟨f, true, true, false, false⟩]
    attempt := some ⟨f.onLine 5 9, true, some false⟩ })

theorem witness_FrameEndsAndHeldFrame_active :
    (∀ f ∈ [OutFrame.announce 22 tray, .claim .current 22 1, .release 22 .late, .taken 41 1], ∀ n ∈ [1, 8],
      (ending f n).part.state = .active ∧ (ending f n).contest.searchDue = false ∧ (ending f n).line.state = .carrying ∧
      (ending f n).line.attempt = some ⟨f.onLine 5 9, true, some false⟩ ∧
      (ending f n).line.tx.find? (·.inAttempt) = some ⟨f, true, true, false, false⟩) ∧
    (∀ n ∈ [7, 8], let s := withLine (receiving (n + 1) 0) (fun l => { l with held := some (.missed 9 5) })
      s.line.held = some (.missed 9 5) ∧ s.line.rx = ⟨claim12, false⟩ :: List.replicate n ⟨claim12, false⟩) := by decide +kernel

theorem test_handling_lets_held_in : leaves .frameHandled (withLine (receiving 8 0) (fun l => { l with held := some (.missed 9 5) }))
    (fun t => t.line.rx == List.replicate 7 ⟨claim12, false⟩ ++ [⟨.missed 9 5, true⟩] && t.line.held == none) = true := by decide +kernel
theorem test_release_sent : leaves (.frameEnd true false) (counting (ending (.release 22 .late) 1) .releaseSent .none)
    (fun t => t.counters[1].value == 1 && t.line.tx == [] && t.line.rx.length == 1) = true := by decide +kernel

/-- A line n ms dominant in a frame, with no other timer running. -/
def dominantFor (n : Nat) : State :=
  withLine ((stopping 0).setLoop ⟨50, true, false, 0, false, none⟩) (fun l => { l with state := .carrying, stuckTimer := some n })

theorem witness_StuckLine : State.reset.line.state = .off ∧ (seekingLine true).line.stuck = true ∧
    ((seekingLine false).line.state = .seeking ∧ (seekingLine false).line.stuck = false ∧
      (seekingLine false).contest.searchDue = false) ∧
    (let s := withLine (receiving 0 6) (fun l => { l with state := .carrying })
     s.line.state = .carrying ∧ s.line.stuck = false ∧ s.line.attempt = none ∧ s.line.answer = none ∧
       s.line.checkErrors + 1 < 8 ∧ s.contest.searchDue = false) ∧
    ((sending22 true 7 true).line.state = .carrying ∧ (sending22 true 7 true).line.stuck = false ∧
      (sending22 true 7 true).line.attempt = some ⟨.claim 1 9 5 22 1, true, some false⟩ ∧ (sending22 true 7 true).line.repeatCount < 8 ∧
      (sending22 true 7 true).line.tx.find? (·.inAttempt) = some (tx22 true true)) ∧
    (∀ n ∈ [0, 1, 2], (dominantFor n).pending = [] ∧ (dominantFor n).line.stuckTimer = some n ∧ (dominantFor n).line.stuck = false ∧
      (dominantFor n).line.state ≠ .off ∧ (dominantFor n).loop.stopTimer = none ∧ (dominantFor n).gate.report = [] ∧
      (dominantFor n).divert.jamTimer = none ∧ (dominantFor n).part.watchdog ≠ .running ∧
      (dominantFor n).contest.searchDue = false ∧ ∀ p : Fin 4, (dominantFor n).part.watches[p].state ≠ .dropping ∧
        (dominantFor n).part.watches[p].state ≠ .rising) := by decide +kernel

/-! Frames handled -/

theorem witness_HandledFramesTestedAndRostered : (started .active).line.rx = [] ∧
    (∀ f ∈ [Frame.unknown [0x0f, 0, 0], .missed 3 4, .missed 3 5, .missed 64 8, .announce 3 8 1 6, .missed 63 8, .join 8 8284],
      (heard (started .listening) f).line.rx = ⟨f, false⟩ :: [] ∧ (heard (started .listening) f).line.held = none ∧
      (heard (started .listening) f).contest.searchDue = false) ∧
    hall64.hall[(4 : Fin 16)] = none ∧ (hall64.hall[(8 : Fin 16)]).isSome = true ∧ (8 : Station) ≠ (started .listening).ownId ∧
    ¬64 < (started .listening).slots ∧ 63 < (started .listening).slots ∧ (5 : Station) = (started .listening).ownId ∧
    (started .listening).part.digest ≠ some 8284 ∧ (started .listening).part.state = .listening ∧
    (∀ d, Frame.missed 63 8 ≠ .unknown d) :=
  ⟨rfl, by decide +kernel, by decide, by decide, by decide, by decide, by decide, by decide, by decide, rfl, nofun⟩

/-- A JOIN with another digest heard while ACTIVE, with one of the reasons to be silent, or none. -/
def joined (t : List TxFrame) (r : RosterEntry) (f : FaultEntry) : State :=
  setRoster (mark (withLine (heard (started .active) (.join 8 8284)) (fun l => { l with tx := t })) .cfgMismatch f) 8 r

theorem witness_HandledFramesTestedAndRostered_joins :
    (∀ x ∈ [joined [] ⟨.joined, some 7994⟩ ⟨false, false, false⟩, joined [] ⟨.mismatched, some 8284⟩ ⟨false, false, false⟩,
        joined [TxFrame.waiting (.join 7994)] ⟨.joined, none⟩ ⟨false, false, false⟩, joined [] ⟨.joined, none⟩ ⟨true, true, true⟩],
      x.line.rx = ⟨.join 8 8284, false⟩ :: [] ∧ (x.config.hall[(8 : Fin 16)]).isSome = true ∧ (8 : Station) ≠ x.ownId ∧
      x.part.digest ≠ some 8284 ∧ x.part.state ≠ .listening ∧ x.contest.searchDue = false) ∧
    (let x := joined [] ⟨.joined, some 7994⟩ ⟨false, false, false⟩
     (x.fault .cfgMismatch).indication = false ∧ x.rosterEntry 8 ≠ ⟨.mismatched, some 8284⟩ ∧
       ∀ y ∈ x.line.tx, y.frame.isParticipation = false) ∧
    (joined [] ⟨.mismatched, some 8284⟩ ⟨false, false, false⟩).rosterEntry 8 = ⟨.mismatched, some 8284⟩ := by decide +kernel

theorem witness_HandledFramesChangeTheView :
    (∀ f ∈ [Frame.taken 63 8 0, .missed 63 8, .release 0 8 4, .claim 0 3 8 63 1, .announce 0 8 16777215 5, .join 8 7994, .withdraw 8 0],
      (heard (started .active) f).line.rx = ⟨f, false⟩ :: [] ∧ (hall64.hall[f.sender]).isSome = true ∧
      f.sender ≠ (started .active).ownId) ∧ (started .active).view.length = (started .active).slots ∧
    63 < (started .active).slots ∧ Form.other.code = 5 ∧ ((started .active).rosterEntry 8).state ≠ .mismatched ∧
    ((setRoster (started .active) 8 ⟨.mismatched, some 1⟩).rosterEntry 8).state = .mismatched ∧
    (∀ i d, Frame.taken 63 8 0 ≠ .join i d) :=
  ⟨by decide +kernel, by decide +kernel, by decide, rfl, by decide, by decide, nofun⟩

/-- The ANNOUNCE of another station for slot 63, with a waiting ANNOUNCE of the same case and one of another slot. -/
def announcedTwice (st : Participation) : State :=
  withLine (heard (started st) (.announce 63 8 40117 3)) (fun l => { l with
    tx := [TxFrame.waiting (.announce 63 keg), TxFrame.waiting (.announce 62 keg)] })

theorem witness_HandledFramesChangeTheView_retested : (announcedTwice .withdrawn).part.state ≠ .active ∧
    (announcedTwice .withdrawn).line.tx.length < 12 ∧ (Frame.announce 63 8 40117 3).slot? = some 63 ∧
    (Frame.announce 63 8 40117 3).inRange (announcedTwice .active).slots = true ∧ (40117 : Nat) = keg.article ∧ (3 : Nat) < 6 ∧
    ((announcedTwice .active).rosterEntry 8).state ≠ .mismatched ∧
    [TxFrame.waiting (.announce 63 keg)].Sublist (announcedTwice .active).line.tx ∧
    (counting (announcedTwice .active) .announceHeard (.station 8)).counters[1].filter = .station 8 ∧
    leaves .frameHandled (counting (announcedTwice .active) .announceDropped .none) (fun t =>
      t.line.tx == [TxFrame.waiting (.announce 62 keg)] && t.counters[1].value == 1 && t.viewAt 63 == .free (some keg) (some 8)) =
      true :=
  ⟨by decide, by decide, rfl, by decide, rfl, by decide, by decide, by decide, by decide, by decide +kernel⟩

/-- A frame of station 8 for slot 22 heard with the claim there in a state, its CLAIM frame as given. -/
def facing (f : Frame) (st : ClaimState) (tx : List TxFrame) : State := heard (withView (pulseAt 3920 st tx) 22 (.free (some tray) (some 2))) f

/-- The own CLAIM of slot 22 without an entry, about to meet an entry. -/
def unowned (e : ViewEntry) : State := (ownFrame (withView (started .active) 22 e) (.claim 1 9 5 22 1)).setContest ⟨[], [22], false⟩

theorem witness_HandledFramesEndClaims :
    Running (facing (.claim 0 16 8 22 0) .queued [tx22 false false]) ∧ Running (unowned .empty) ∧
    (∀ f ∈ [Frame.claim 0 16 8 22 0, .taken 22 8 0, .announce 22 8 64221 2, .release 22 8 4, .missed 22 8],
      ∀ st ∈ [ClaimState.queued, .sending, .armed, .committed, .firing],
      (facing f st []).contest.searchDue = false ∧ (facing f st []).line.rx = ⟨f, false⟩ :: [] ∧
      ((facing f st []).config.hall[f.sender]).isSome = true ∧ f.sender ≠ (facing f st []).ownId ∧
      ((facing f st []).rosterEntry f.sender).state ≠ .mismatched ∧ f.slot? = some 22 ∧ f.inRange (facing f st []).slots = true ∧
      ((facing f st []).claimAt 22).map (·.state) = some st ∧
      (facing f st []).viewAt 22 = .free (some tray) (some 2)) ∧
    some tray ≠ (Form.ofCode 2).map (fun fm => (⟨64221, fm⟩ : CaseId)) ∧
    (∃ y ∈ (facing (.taken 22 8 0) .queued [tx22 false false]).line.tx, y.frame.isClaimFor 22 = true ∧ y.sending = false ∧
      y.inAttempt = false) ∧
    (∀ e ∈ [ViewEntry.empty, .free (some tray) (some 2), .claimed (some tray) (some 2) 8 0],
      (unowned e).line.rx = ⟨.claim 1 9 (unowned e).ownId 22 1, true⟩ :: [] ∧ 22 ∈ (unowned e).contest.orphans ∧
      (unowned e).viewAt 22 = e ∧ ((unowned e).rosterEntry (unowned e).ownId).state ≠ .mismatched) :=
  ⟨running_of _ (by decide +kernel), running_of _ (by decide +kernel), by decide +kernel, by decide, by decide +kernel,
    by decide +kernel⟩

/-- The own CLAIM for slot 22 about to be handled at a counter, with an entry and a pending end. -/
def deciding (c : Nat) (st : Participation) (e : ViewEntry) (pe : Option PendingEnd) : State :=
  let s := ownFrame (withView (contest22 c .sending) 22 e) (.claim 1 9 5 22 1)
  (withClaims s [{ claim 22 ⟨1, 2, 3⟩ .sending none with pendingEnd := pe }]).setPart { s.part with state := st }

theorem witness_WinDecision :
    (∀ pe ∈ [none, some .cancelled, some .withdrawn, some .lost, some .expired],
      (∀ e ∈ [ViewEntry.empty, .free (some tray) (some 2), .claimed (some tray) (some 2) 8 0, .disputed tray none],
        let s := deciding 3920 .withdrawn e pe
        s.line.rx = ⟨.claim 1 9 s.ownId 22 1, true⟩ :: [] ∧ (s.config.hall[s.ownId]).isSome = true ∧ 22 < s.slots ∧
        s.view.length = s.slots ∧ (s.rosterEntry s.ownId).state ≠ .mismatched ∧ 22 ∉ s.contest.orphans ∧
        (s.claimAt 22).map (·.state) = some .sending ∧ (s.claimAt 22).map (·.pendingEnd) = some pe ∧ s.part.state ≠ .active ∧
        s.viewAt 22 = e)) ∧
    pulsesToFire (deciding 4516 .active .empty none) 22 = 600 ∧ pulsesToFire (deciding 4517 .active .empty none) 22 = 599 ∧
    (deciding 4517 .active .empty none).timing.armLead = 600 := by decide +kernel

theorem witness_WinDecision_active : ∀ pe ∈ [none, some .cancelled, some .withdrawn, some .lost, some .expired],
    ∀ e ∈ [ViewEntry.empty, .free (some tray) (some 2), .claimed (some tray) (some 2) 5 1, .disputed tray none],
    let s := counting (deciding 3920 .active e pe) .claimWon (.place 1)
    s.line.rx = ⟨.claim 1 9 s.ownId 22 1, true⟩ :: [] ∧ (s.rosterEntry s.ownId).state ≠ .mismatched ∧ 22 ∉ s.contest.orphans ∧
      (s.claimAt 22).map (fun c => (c.state, c.pendingEnd, c.target.place)) = some (.sending, pe, 1) ∧ s.part.state = .active ∧
      s.viewAt 22 = e ∧ s.counters[1].event = some .claimWon ∧ s.counters[1].filter = .place 1 := by decide +kernel

theorem witness_SearchChoosesTheRankedLine :
    (bestLine (loading [] []) crate).map (·.1.place) = some 0 ∧
    bestLine (withPlace (started .active) 1 (plan .building 2 (some 1) [[⟨keg, 1, 0, 0, 0⟩], []])) keg = some (⟨1, 1, 1⟩, .closing) ∧
    bestLine (withPlace (started .active) 1 (plan .building 2 (some 1) [[⟨keg, 1, 1, 0, 0⟩], [⟨tray, 3, 0, 0, 0⟩]])) tray =
      some (⟨1, 2, 1⟩, .ahead) ∧
    (∃ q, (loading [] []).plans.buildOrder[0]? = some q ∧ (matchingLine (loading [] []) q crate).map (·.2) = some .current) ∧
    roomFor (loading [] []) .current = true ∧
    (let s := loading [] []
     (0 : PlaceId) ∈ s.plans.buildOrder ∧ (s.place 0).state = .building ∧ (s.place 0).currentTier = some 1 ∧
       (s.place 0).tierCount = some 2 ∧ s.staging.records.length + s.contest.claims.length < s.stagingSize ∧
       ∃ l ∈ (s.place 0).tier 1, l.case = crate ∧ 1 ≤ l.openNeed) ∧
    (let s := withPlace (started .active) 1 (plan .building 2 (some 1) [[⟨keg, 1, 1, 0, 0⟩], [⟨tray, 3, 0, 0, 0⟩]])
     (1 : PlaceId) ∈ s.plans.buildOrder ∧ (s.place 1).state = .building ∧ (s.place 1).currentTier = some 1 ∧
       (s.place 1).tierCount = some 2 ∧ s.staging.records.length + s.contest.claims.length < s.stagingSize ∧ 1 < 2 ∧
       tierCovered ((s.place 1).tier 1) = true ∧ (∃ l ∈ (s.place 1).tier (1 + 1), l.case = tray ∧ 1 ≤ l.openNeed) ∧
       lookaheadRecords s + lookaheadClaims s < s.stagingSize - s.reserve) := by decide +kernel

/-- The ANNOUNCE of a case for slot 60 heard by an ACTIVE station that builds place 0 of crates, slot 62 a later candidate. -/
def announced (c : CaseId) : State := heard (withView (loading [] []) 62 (.free (some tray) (some 2))) (.announce 60 8 c.article c.form.code)

theorem witness_SearchQueuesClaims :
    (∀ c ∈ [crate, tray], (announced c).line.rx = ⟨.announce 60 8 c.article c.form.code, false⟩ :: [] ∧
      ((announced c).config.hall[(8 : Fin 16)]).isSome = true ∧ (8 : Station) ≠ (announced c).ownId ∧
      ((announced c).rosterEntry 8).state ≠ .mismatched ∧ (announced c).view.length = (announced c).slots ∧
      (announced c).viewAt 60 = .empty ∧ (announced c).part.state = .active ∧ reachable (announced c) 60 = true ∧
      (announced c).claimAt 60 = none ∧ isCandidate (announced c) 62 = true ∧
      ∀ j : Fin 64, isCandidate (announced c) j = true → pulsesToFire (announced c) 60 < pulsesToFire (announced c) j) ∧
    60 < (announced crate).slots ∧ (announced crate).slots = 64 ∧ bestLine (announced crate) crate = some (⟨0, 1, 1⟩, .current) ∧
    bestLine (announced tray) tray = none ∧ framePlaces (announced crate) < 6 ∧
    6 ≤ framePlaces ((announced crate).setContest ⟨[], [1, 2, 3, 4, 5, 6], false⟩) ∧
    ((announced crate).lineAt ⟨0, 1, 1⟩).isSome = true := by decide +kernel

/-- Slot 60 FREE with a case, nearest of the candidates. -/
def candidate60 (c : CaseId) : State := withView (withView (loading [] []) 62 (.free (some tray) (some 2))) 60 (.free (some c) (some 8))

theorem witness_SearchQueuesClaims_slot :
    (∀ c ∈ [crate, tray], (candidate60 c).viewAt 60 = .free (some c) (some 8) ∧ reachable (candidate60 c) 60 = true ∧
      (candidate60 c).claimAt 60 = none ∧
      ∀ j : Fin 64, j.val ≠ 60 → isCandidate (candidate60 c) j = true → pulsesToFire (candidate60 c) 60 < pulsesToFire (candidate60 c) j) ∧
    60 < (candidate60 crate).slots ∧ (candidate60 crate).slots = 64 ∧ bestLine (candidate60 crate) crate = some (⟨0, 1, 1⟩, .current) ∧
    bestLine (candidate60 tray) tray = none ∧ framePlaces (candidate60 crate) < 6 ∧
    6 ≤ framePlaces ((candidate60 crate).setContest ⟨[], [1, 2, 3, 4, 5, 6], false⟩) := by decide +kernel

/-- A LISTENING station one mark short of ACTIVE. -/
def secondMark (c : Nat) : State :=
  (atCounter c true).setPart { (atCounter c true).part with state := .listening, listeningMarks := 1 }

theorem witness_SearchQueuesClaims_causes :
    (∀ s ∈ [loading [kegLine, crateLine] [trayLine], laneExample, risingFault .auto], s.contest.searchDue = false ∧ s.part.state = .active) ∧
    (let s := loading [kegLine, crateLine] [trayLine]
     s.plans.loader = some 2 ∧ planProblem s (s.place 2) = none ∧ (s.watch 2).state = .unwatched) ∧
    ((laneExample.record? (310 : BitVec 16).toNat).map (fun r => (r.state, r.target)) = some (.placeable, some ⟨1, 2, 1⟩) ∧
      (laneExample.lineAt ⟨1, 2, 1⟩).isSome = true ∧ (1 : BitVec 8).toNat < 2) ∧
    ((risingFault .auto).policy.scope = .place ∧ (risingFault .auto).policy.recovery = .auto ∧
      ((risingFault .auto).watch 1).state = .rising ∧ ((risingFault .auto).place 1).state = .suspended) ∧
    (∀ c ∈ [0, 24, 8168], (secondMark c).contest.searchDue = false ∧ (secondMark c).part.state = .listening ∧
      1 ≤ (secondMark c).part.listeningMarks ∧ (secondMark c).loop.aligned = true ∧ (secondMark c).loop.markAwaited = true ∧
      ((secondMark c).loopLen ≤ (secondMark c).loop.counter + (secondMark c).timing.tolerance ∨
        (secondMark c).loop.counter ≤ (secondMark c).timing.tolerance) ∧ (secondMark c).contest.claims = []) := by decide +kernel

/-- The mark that makes the station ACTIVE claims the case that stood on the loop (R104, R161). -/
theorem test_second_mark_searches : ∀ c ∈ [24, 8168],
    leaves .indexMark (((candidate60 crate).setLoop (secondMark c).loop).setPart (secondMark c).part)
      (fun t => t.part.state == .active && t.claimAt 60 == some { claim 60 ⟨0, 1, 1⟩ .queued none with urgency := .current }) = true := by
  decide +kernel

/-- COMMIT PLAN in an ACTIVE station claims the case that waited for a plan. -/
theorem test_commit_searches : leaves .commitPlan (withView (loading [kegLine, crateLine] [trayLine]) 60 (.free (some keg) (some 2)))
    (fun t => t.claimAt 60 == some { claim 60 ⟨2, 1, 1⟩ .queued none with urgency := .current } &&
      t.lineAt ⟨2, 1, 1⟩ == some ⟨keg, 1, 1, 0, 0⟩) = true := by decide +kernel

/-- In CELL scope the claims of place 0 are released before those of place 1 (log 31). -/
def cellScopeOrder : State :=
  setWatch ((withClaims (withPlace (withPlace (started .active) 1 (plan .building 1 (some 1) [[⟨keg, 5, 1, 0, 0⟩]])) 0
    (plan .building 1 (some 1) [[⟨keg, 5, 1, 0, 0⟩]])) [claim 15 ⟨1, 1, 1⟩ .armed (some 4220), claim 40 ⟨0, 1, 1⟩ .armed (some 7420)]).setConfig
    { hall64 with policy := some ⟨.cell, .latched, .warn, 10, 100⟩ }) 1 ⟨.dropping, 0⟩

theorem test_cell_scope_place_order : leaves (.placeReadyTimer 1) cellScopeOrder
    (fun t => (t.line.tx.map (·.frame)).take 2 == [.release 40 .cancelled, .release 15 .cancelled]) = true := by decide +kernel

/-- Two SUSPENDED places whose place-ready timers reach the deglitch in one idle millisecond: the search of the first
resumption is made before the second place resumes, whose line would rank above (log 3, R104). -/
def resumingTwo : State :=
  let s := withPlace (withPlace (stopping 0) 0 (plan .suspended 1 (some 1) [[⟨crate, 3, 0, 0, 0⟩]])) 1
    (plan .suspended 1 (some 1) [[⟨crate, 1, 0, 0, 0⟩]])
  let w := ⟨.rising, s.timing.placeDeglitch - 1⟩
  setWatch (setWatch ((withView s 60 (.free (some crate) (some 2))).setConfig
    { hall64 with policy := some ⟨.place, .auto, .off, 10, 100⟩ }) 0 w) 1 w

theorem test_each_interval_searches : (match step resumingTwo with
    | .next t => (t.claimAt 60).map (fun c => (c.target.place, c.urgency)) == some (0, .current) &&
        (t.place 1).state == .building
    | .fault _ => false
    | .refused _ => false) = true := by decide +kernel

end Sys2Proof.Tests
end

section
/-! SUPPORT. The search of an event is made before the event ends (log 8): after every command the mark of the search
is clear, and each command keeps a running part running and an idle one idle. -/

namespace Sys2Proof.Laws

open Sys2Proof Sys2Proof.Machine Sys2Proof.Safety

variable {s : State}

/-! ### The mark of the search after each row -/

/-- No search is left over from an event (log 8). -/
def Quiet (s : State) : Prop := s.contest.searchDue = false

theorem quiet_of_contest {t : State} (h : Quiet s) (ht : t.contest = s.contest) : Quiet t := by
  unfold Quiet; rw [ht]; exact h

@[simp] theorem queueClaim_searchDue (s : State) (k : Nat) (t : Target) (u : Urgency) :
    (queueClaim s k t u).contest.searchDue = s.contest.searchDue := by
  unfold queueClaim; simp [setClaims]

@[simp] theorem searchSlot_searchDue (s : State) (k : Nat) :
    (searchSlot s k).contest.searchDue = s.contest.searchDue := by
  unfold searchSlot; (repeat' split) <;> simp

@[simp] theorem search_searchDue (s : State) : (search s).contest.searchDue = s.contest.searchDue :=
  foldl_keeps (fun s => s.contest.searchDue) searchSlot_searchDue _ s

/-- The search at the end of an event leaves no mark behind. -/
theorem quiet_runSearch (s : State) : Quiet (runSearch s) := by
  unfold Quiet runSearch
  dsimp only
  split <;> simp

theorem sampleBoundary_contest (s : State) : (sampleBoundary s).contest = s.contest := by
  unfold sampleBoundary
  split <;> simp

theorem quiet_forwardPulse (h : Quiet s) : Quiet (forwardPulse s) := by
  unfold forwardPulse
  split
  · exact quiet_of_contest (quiet_runSearch _) (sampleBoundary_contest _)
  · exact h

theorem noteTravel_contest (s : State) : (noteTravel s).contest = s.contest := by
  unfold noteTravel
  dsimp only
  split <;> simp

theorem quiet_reversePulse (h : Quiet s) : Quiet (reversePulse s) := by
  unfold reversePulse
  dsimp only
  split
  · split
    · exact quiet_of_contest h (noteTravel_contest s)
    · exact quiet_runSearch _
  · exact h

theorem quiet_sampleRealignment (h : Quiet s) : Quiet (sampleRealignment s) := by
  unfold sampleRealignment
  split
  · exact quiet_of_contest h (by simp)
  · exact h

theorem quiet_indexMark (h : Quiet s) : Quiet (indexMark s) := by
  unfold indexMark
  repeat' split
  · exact quiet_runSearch _
  · exact quiet_sampleRealignment (quiet_runSearch _)
  · exact h
  · exact quiet_runSearch _
  · exact h
  · exact quiet_runSearch _
  · exact h

theorem quiet_gateRise (h : Quiet s) : Quiet (gateRise s) := by
  refine quiet_of_contest h ?_
  unfold gateRise
  dsimp only
  (repeat' split) <;> simp

theorem quiet_gateFall (h : Quiet s) : Quiet (gateFall s) := by
  refine quiet_of_contest h ?_
  unfold gateFall
  dsimp only
  (repeat' split) <;> simp

/-- R111, R123: the beginning of a send moves its claim, or its slot to the orphans, and no mark. -/
@[simp] theorem beginSend_searchDue (s : State) (t : TxFrame) :
    (beginSend s t).contest.searchDue = s.contest.searchDue := by
  unfold beginSend
  dsimp only
  split
  · simp
  · unfold claimBeginsSend
    repeat' split
    · simp [addOrphan]
    · simp [modifyClaim, setClaims]
    · simp

theorem quiet_arbitrationEnd (h : Quiet s) (read : List Byte) : Quiet (arbitrationEnd s read) := by
  unfold arbitrationEnd
  split
  · dsimp only
    repeat' split
    · exact h
    · exact quiet_runSearch _
    · simpa [Quiet] using h
  · exact h

theorem quiet_frameReceived (h : Quiet s) (bytes : List Byte) (e : Bool) : Quiet (frameReceived s bytes e) := by
  unfold frameReceived
  repeat' split
  · exact h
  · exact h
  iterate 2
    · exact quiet_of_contest h (by simp)
    · exact h
    · exact quiet_runSearch _
    · exact h

theorem quiet_frameEnd (h : Quiet s) (a r : Bool) : Quiet (frameEnd s a r) := by
  unfold frameEnd
  dsimp only
  repeat' split
  · exact h
  · exact h
  · exact h
  · unfold endOwnSend
    dsimp only
    split
    · exact quiet_runSearch _
    · exact quiet_of_contest h (by simp)
  · exact h
  · exact quiet_of_contest h (by simp)

theorem quiet_frameHandled (h : Quiet s) : Quiet (frameHandled s) := by
  unfold frameHandled
  split
  · exact quiet_runSearch _
  · exact h

theorem quiet_whenDue (h : Quiet s) (due : State → Bool) (f : State → State) : Quiet (whenDue due f s) := by
  unfold whenDue
  split
  · exact quiet_runSearch _
  · exact h

theorem quiet_elapse (h : Quiet s) (ms : Nat) : Quiet (elapse s ms) := quiet_of_contest h (by simp)

/-- Each interval that runs out in an idle millisecond is an event of its own, with its own search (log 3). -/
theorem quiet_tick (h : Quiet s) : Quiet (tick s) := by
  have fold : ∀ (ps : List PlaceId) (u : State), Quiet u →
      Quiet (ps.foldl (fun s p => whenDue (fun s => placeDue s p) (fun s => placeTimerEnd s p) s) u) := by
    intro ps
    induction ps with
    | nil => exact fun _ hu => hu
    | cons p ps ih => exact fun u hu => ih _ (quiet_whenDue hu _ _)
  unfold tick
  exact quiet_whenDue (fold _ _ (quiet_whenDue (quiet_whenDue (quiet_whenDue (quiet_whenDue (quiet_elapse h 1)
    _ _) _ _) _ _) _ _)) _ _

theorem quiet_divertJam (h : Quiet s) : Quiet (divertJam s) := by
  unfold divertJam
  split
  · exact quiet_runSearch _
  · exact h

theorem quiet_lineStuck (h : Quiet s) : Quiet (lineStuck s) := by
  unfold lineStuck
  split
  · exact quiet_runSearch _
  · exact h

theorem quiet_lineStuckEnd (h : Quiet s) : Quiet (lineStuckEnd s) := by
  refine quiet_of_contest h ?_
  unfold lineStuckEnd
  split <;> simp

theorem quiet_placeReadyTimer (h : Quiet s) (p : PlaceId) : Quiet (placeReadyTimer s p) := by
  unfold placeReadyTimer
  split
  · exact quiet_runSearch _
  · exact h

theorem quiet_watchdogExpiry (h : Quiet s) : Quiet (watchdogExpiry s) := by
  unfold watchdogExpiry
  split
  · exact quiet_runSearch _
  · exact h

theorem quiet_keepalive (h : Quiet s) : Quiet (keepalive s) := by
  unfold keepalive
  repeat' split
  · exact h
  · exact quiet_runSearch _
  · exact h

theorem quiet_answer (h : Quiet s) (r : Result) : Quiet (answer s r) := h

theorem quiet_respond (h : Quiet s) (r : Result) (d : BitVec 88) : Quiet (respond s r d) := h

theorem quiet_afterGo (h : Quiet s) {r : State} (hr : Quiet r) : Quiet (afterGo s r) := by
  unfold afterGo
  split
  · exact h
  · exact hr

theorem quiet_openPlanChecked (h : Quiet s) (p : Nat) (r : BitVec 32) (n : Nat) : Quiet (openPlanChecked s p r n) := by
  unfold openPlanChecked
  (repeat' split) <;> exact h

theorem quiet_addLineChecked (h : Quiet s) (t a f q : Nat) : Quiet (addLineChecked s t a f q) := by
  unfold addLineChecked
  (repeat' split) <;> exact h

theorem quiet_commitPlanChecked (h : Quiet s) : Quiet (commitPlanChecked s) := by
  unfold commitPlanChecked
  repeat' split
  · exact h
  · exact h
  · exact quiet_answer (quiet_runSearch _) _

theorem quiet_abandonPlanChecked (h : Quiet s) : Quiet (abandonPlanChecked s) := by
  unfold abandonPlanChecked
  split <;> exact h

theorem quiet_releasePalletChecked (h : Quiet s) (n : Nat) : Quiet (releasePalletChecked s n) := by
  unfold releasePalletChecked
  (repeat' split) <;> exact h

theorem quiet_cancelPalletChecked (h : Quiet s) (n : Nat) : Quiet (cancelPalletChecked s n) := by
  unfold cancelPalletChecked
  split
  · exact h
  · split
    iterate 2 exact quiet_answer (quiet_runSearch _) _
    all_goals exact h

theorem quiet_placedChecked (h : Quiet s) (a : Nat) : Quiet (placedChecked s a) := by
  unfold placedChecked
  repeat' split
  · exact h
  · exact quiet_answer (quiet_runSearch _) _
  · exact h

theorem quiet_removeCaseChecked (h : Quiet s) (a r : Nat) : Quiet (removeCaseChecked s a r) := by
  unfold removeCaseChecked
  repeat' split
  · exact h
  · exact h
  · exact quiet_answer (quiet_runSearch _) _

theorem quiet_acceptSuspectChecked (h : Quiet s) (a : Nat) : Quiet (acceptSuspectChecked s a) := by
  unfold acceptSuspectChecked
  split
  · exact h
  · split
    · refine quiet_answer (quiet_of_contest h ?_) _
      unfold acceptRecord
      dsimp only
      split <;> simp
    · exact h

theorem quiet_showFaults (h : Quiet s) : Quiet (showFaults s) :=
  quiet_of_contest h (foldl_contest (fun s f => by unfold showEntry; simp) _ s)

theorem quiet_readLine (h : Quiet s) (p t l : Nat) : Quiet (readLine s p t l) := by
  unfold readLine
  (repeat' split) <;> exact h

theorem quiet_setCounterChecked (h : Quiet s) (c e k v : Nat) : Quiet (setCounterChecked s c e k v) := by
  unfold setCounterChecked
  (repeat' split) <;> exact h

theorem quiet_configure (h : Quiet s) (b : Bool) (c : Configuration) : Quiet (configure s b c) := by
  unfold configure
  (repeat' split) <;> exact h

/-! ### A running part -/

/-- Within the laws of a running part, with no search left over: what `Safe` asks after GO. -/
def Working (s : State) : Prop := Running s ∧ Quiet s

/-- What a command's meaning must answer for a safe state. -/
def AnswersSafe (c : Instr) (s : State) : Prop := ∃ t, exec c s = .next t ∧ Safe t

theorem answersSafe_working {c : Instr} {t : State} (he : exec c s = .next t) (hr : Running t) (hq : Quiet t) :
    AnswersSafe c s := ⟨t, he, Or.inr ⟨hr, hq⟩⟩

theorem answersSafe_idle {c : Instr} {t : State} (he : exec c s = .next t) (h : Idle t) : AnswersSafe c s :=
  ⟨t, he, Or.inl ⟨idle_state h, h⟩⟩

/-- A command whose meaning keeps the laws of a running part, and the end of its event, answers a safe state. -/
theorem answersSafe_of_keeps {c : Instr} {f : State → State} (h : Working s) (he : exec c s = .next (f s))
    (hr : ∀ {u}, Running u → Running (f u)) (hq : ∀ {u}, Quiet u → Quiet (f u)) : AnswersSafe c s :=
  answersSafe_working he (hr h.1) (hq h.2)

/-- A row that stands for the next forward pulse, where that pulse completes its interval (log 1). -/
theorem answersSafe_pulseRow {c : Instr} {due : Bool} (h : Working s)
    (he : exec c s = .next (if due = true then forwardPulse s else s)) : AnswersSafe c s := by
  cases due
  · exact answersSafe_working he h.1 h.2
  · exact answersSafe_working he (running_forwardPulse h.1) (quiet_forwardPulse h.2)

theorem answersSafe_scanner (h : Working s) (chars : List ScanChar) : AnswersSafe (.scannerReport chars) s := by
  refine answersSafe_working (t := if s.started then chars.foldl takeCharacter s else s) rfl ?_ ?_
  · split
    · exact running_foldl _ (fun _ _ h => running_takeCharacter h _) _ h.1
    · exact h.1
  · split
    · exact quiet_of_contest h.2 (foldl_contest (fun s c => by simp) chars s)
    · exact h.2

theorem answersSafe_character (h : Working s) (c : ScanChar) : AnswersSafe (.scannerCharacter c) s := by
  refine answersSafe_working (t := if s.started then takeCharacter s c else s) rfl ?_ ?_
  · split
    · exact running_takeCharacter h.1 c
    · exact h.1
  · split
    · exact quiet_of_contest h.2 (by simp)
    · exact h.2

theorem answersSafe_armWatchdog (h : Working s) : AnswersSafe .armWatchdog s := by
  refine answersSafe_working (t := if s.part.watchdog = .stopped ∧ s.indicated .watchdog = false then
    answer (setWatchdog s .running) .done else answer s .refusedState) rfl ?_ ?_
  · split
    · exact running_answer (running_setWatchdog h.1 _) _
    · exact running_answer h.1 _
  · split <;> exact h.2

theorem answersSafe_withdraw (h : Working s) : AnswersSafe .withdraw s := by
  have gone := running_answer (running_runSearch (running_orderlyWithdraw h.1 0)) .done
  have refused := running_answer h.1 .refusedState
  unfold AnswersSafe
  show ∃ t, execWithdraw s = .next t ∧ Safe t
  unfold execWithdraw
  cases s.part.state
  · exact ⟨_, rfl, Or.inr ⟨refused, h.2⟩⟩
  · exact ⟨_, rfl, Or.inr ⟨gone, quiet_runSearch _⟩⟩
  · exact ⟨_, rfl, Or.inr ⟨gone, quiet_runSearch _⟩⟩
  · exact ⟨_, rfl, Or.inr ⟨refused, h.2⟩⟩

theorem answersSafe_rejoin (h : Working s) : AnswersSafe .rejoin s := by
  refine answersSafe_working (t := if s.part.state = .withdrawn ∧ s.withdrawingSet = false then
    answer (enterListening s) .done else answer s .refusedState) rfl ?_ ?_
  · split
    · exact running_answer (running_enterListening h.1) _
    · exact running_answer h.1 _
  · split
    · exact quiet_answer (quiet_of_contest h.2 (by simp)) _
    · exact h.2

theorem answersSafe_readNotice (h : Working s) : AnswersSafe .readNotice s := by
  unfold AnswersSafe
  show ∃ t, execReadNotice s = .next t ∧ Safe t
  unfold execReadNotice
  split
  · exact ⟨_, rfl, Or.inr ⟨running_answer h.1 _, h.2⟩⟩
  · rename_i n rest hn
    have short : rest.length ≤ Config.noticeCapacity := by
      have := h.1.notices.1
      rw [hn, List.length_cons] at this
      omega
    exact ⟨_, rfl, Or.inr ⟨running_respond (running_setPort h.1 ⟨short, rfl⟩) _ _, h.2⟩⟩

theorem answersSafe_transactionStart (h : Working s) : AnswersSafe .transactionStart s :=
  answersSafe_working rfl (running_setPort h.1 (x := { s.port with transaction := some _ }) h.1.notices) h.2

end Sys2Proof.Laws
end

section
/-! SUPPORT. Every command from a safe state: a running part stays within its laws or is reset, an idle one stays idle
or is started by GO. -/

namespace Sys2Proof.Laws

open Sys2Proof Sys2Proof.Machine Sys2Proof.Safety

variable {s : State}

theorem counterLaw_reset : counterLaw State.reset.counters := by
  have : ∀ i : Fin 4, State.reset.counters[i].value ≤ Config.counterMax := by decide
  exact this

theorem answersSafe_powerOnReset (s : State) : AnswersSafe .powerOnReset s :=
  answersSafe_idle rfl (idle_reset _ counterLaw_reset s.pins s.pending)

theorem answersSafe_restart (h : counterLaw s.counters) : AnswersSafe .restart s :=
  answersSafe_idle rfl (idle_reset _ h s.pins s.pending)

/-- A read answers with the response alone, whatever it finds. -/
theorem answersSafe_answered {c : Instr} {r : Result} {d : BitVec 88} (h : Working s)
    (he : exec c s = .next (respond s r d)) : AnswersSafe c s := answersSafe_working he (running_respond h.1 r d) h.2

theorem answersSafe_configure {c : Instr} {b : Bool} {x : Configuration} (h : Working s)
    (he : exec c s = .next (configure s b x)) : AnswersSafe c s :=
  answersSafe_working he (running_configure h.1 b x) (quiet_configure h.2 b x)

/-- A command taken after GO alone. -/
theorem answersSafe_afterGo {c : Instr} {t : State} (h : Working s) (he : exec c s = .next (afterGo s t))
    (hr : Running t) (hq : Quiet t) : AnswersSafe c s :=
  answersSafe_working he (running_afterGo h.1 hr) (quiet_afterGo h.2 hq)

theorem answersSafe_go (h : Working s) : AnswersSafe .go s :=
  answersSafe_answered (r := .refusedState) (d := 0) h
    (by show execGo s = _; unfold execGo; rw [if_pos h.1.started]; rfl)

theorem answersSafe_readView (h : Working s) (k : BitVec 16) : AnswersSafe (.readView k) s := by
  refine answersSafe_afterGo h rfl ?_ ?_
  · split
    · exact running_answer h.1 _
    · exact running_respond h.1 _ _
  · split <;> exact h.2

/-- The reads that a check of their parameters refuses or answers. -/
theorem answersSafe_reads (h : Working s) :
    (∀ p, AnswersSafe (.readPallet p) s) ∧ (∀ v, AnswersSafe (.readStagingByArrival v) s) ∧
    (∀ v, AnswersSafe (.readStagingByIndex v) s) ∧ (∀ m, AnswersSafe (.readStagingSummary m) s) ∧
    (∀ i, AnswersSafe (.readClaims i) s) ∧ (∀ i, AnswersSafe (.readRoster i) s) ∧
    ∀ i, AnswersSafe (.readCounter i) s := by
  have one : ∀ {c : Instr} {t : State}, exec c s = .next t → (∃ r d, t = respond s r d) → AnswersSafe c s := by
    rintro c t he ⟨r, d, rfl⟩
    exact answersSafe_answered h he
  refine ⟨fun p => one rfl ?_, fun v => one rfl ?_, fun v => one rfl ?_, fun m => one rfl ?_, fun i => one rfl ?_,
    fun i => one rfl ?_, fun i => one rfl ?_⟩
  · split <;> exact ⟨_, _, rfl⟩
  · split
    · unfold readRecord
      split <;> exact ⟨_, _, rfl⟩
    · exact ⟨_, _, rfl⟩
  · split
    · exact ⟨_, _, rfl⟩
    · unfold readRecord
      split <;> exact ⟨_, _, rfl⟩
  · split <;> exact ⟨_, _, rfl⟩
  · split
    · exact ⟨_, _, rfl⟩
    · split <;> exact ⟨_, _, rfl⟩
  · split <;> exact ⟨_, _, rfl⟩
  · split <;> exact ⟨_, _, rfl⟩

/-- Every command from a running part with no search left over. -/
theorem answersSafe_of_working (h : Working s) (c : Instr) : AnswersSafe c s := by
  have ⟨readPallet, readByArrival, readByIndex, readSummary, readClaims, readRoster, readCounter⟩ := answersSafe_reads h
  have ⟨hr, hq⟩ := h
  cases c with
  | powerOnReset => exact answersSafe_powerOnReset s
  | restart => exact answersSafe_restart hr.counters
  | forwardPulse => exact answersSafe_of_keeps h rfl running_forwardPulse quiet_forwardPulse
  | reversePulse => exact answersSafe_of_keeps h rfl running_reversePulse quiet_reversePulse
  | indexMark => exact answersSafe_of_keeps h rfl running_indexMark quiet_indexMark
  | loopStopped => exact answersSafe_working rfl (running_loopStopped hr) (quiet_of_contest hq (by simp))
  | gateEyeRise => exact answersSafe_of_keeps h rfl running_gateRise quiet_gateRise
  | gateEyeFall => exact answersSafe_of_keeps h rfl running_gateFall quiet_gateFall
  | gateEdgeAccepted => exact answersSafe_pulseRow h rfl
  | gateCleared => exact answersSafe_pulseRow h rfl
  | edgeExpired => exact answersSafe_pulseRow h rfl
  | dwellEnd => exact answersSafe_pulseRow h rfl
  | windowClosedMissed => exact answersSafe_pulseRow h rfl
  | confirmEdge => exact answersSafe_pulseRow h rfl
  | confirmCleared => exact answersSafe_pulseRow h rfl
  | scannerReport chars => exact answersSafe_scanner h chars
  | scannerCharacter c => exact answersSafe_character h c
  | reportGapTimeout => exact answersSafe_working rfl (running_reportGapTimeout hr) (quiet_of_contest hq (by simp))
  | lineFree => exact answersSafe_working rfl (running_lineBecomesFree hr) (quiet_of_contest hq (by simp))
  | startBitBegins => exact answersSafe_working rfl (running_startBit hr) (quiet_of_contest hq (by simp))
  | sendAttempt => exact answersSafe_working rfl (running_sendAttempt hr) (quiet_of_contest hq (by simp))
  | arbitrationEnd read => exact answersSafe_working rfl (running_arbitrationEnd hr read) (quiet_arbitrationEnd hq read)
  | frameReceived b e => exact answersSafe_working rfl (running_frameReceived hr b e) (quiet_frameReceived hq b e)
  | frameEnd a r => exact answersSafe_working rfl (running_frameEnd hr a r) (quiet_frameEnd hq a r)
  | heldOwnFrameEnters => exact answersSafe_working rfl (running_enterHeld hr) (quiet_of_contest hq (by simp))
  | lineStuck => exact answersSafe_of_keeps h rfl running_lineStuck quiet_lineStuck
  | lineStuckEnd => exact answersSafe_of_keeps h rfl running_lineStuckEnd quiet_lineStuckEnd
  | frameHandled => exact answersSafe_of_keeps h rfl running_frameHandled quiet_frameHandled
  | confirmEyeRise => exact answersSafe_working rfl (running_confirmRise hr) (quiet_of_contest hq (by simp))
  | confirmEyeFall => exact answersSafe_working rfl (running_confirmFall hr) (quiet_of_contest hq (by simp))
  | divertJam => exact answersSafe_of_keeps h rfl running_divertJam quiet_divertJam
  | placeReadyRise p => exact answersSafe_working rfl (running_placeReadyRise hr p) (quiet_of_contest hq (by simp))
  | placeReadyFall p => exact answersSafe_working rfl (running_placeReadyFall hr p) (quiet_of_contest hq (by simp))
  | placeReadyTimer p => exact answersSafe_working rfl (running_placeReadyTimer hr p) (quiet_placeReadyTimer hq p)
  | watchdogExpiry => exact answersSafe_of_keeps h rfl running_watchdogExpiry quiet_watchdogExpiry
  | transactionStart => exact answersSafe_transactionStart h
  | transactionIncomplete n => exact answersSafe_answered h rfl
  | checkError f => exact answersSafe_answered h rfl
  | unknownCommand n => exact answersSafe_answered h rfl
  | nop => exact answersSafe_answered h rfl
  | keepalive => exact answersSafe_working rfl (running_answer (running_keepalive hr) _) (quiet_answer (quiet_keepalive hq) _)
  | clearFaults =>
    exact answersSafe_working rfl (running_respond (running_clearFaults hr) _ _) (quiet_respond (quiet_runSearch _) _ _)
  | armWatchdog => exact answersSafe_armWatchdog h
  | hallSize l p => exact answersSafe_configure h rfl
  | stationEntry i g d => exact answersSafe_configure h rfl
  | ownSetup i f a b => exact answersSafe_configure h rfl
  | timing t => exact answersSafe_configure h rfl
  | faultPolicy a b m l u => exact answersSafe_configure h rfl
  | go => exact answersSafe_go h
  | withdraw => exact answersSafe_withdraw h
  | rejoin => exact answersSafe_rejoin h
  | openPlan p r n => exact answersSafe_afterGo h rfl (running_openPlanChecked hr _ _ _) (quiet_openPlanChecked hq _ _ _)
  | addLine t a f q => exact answersSafe_afterGo h rfl (running_addLineChecked hr _ _ _ _) (quiet_addLineChecked hq _ _ _ _)
  | commitPlan => exact answersSafe_afterGo h rfl (running_commitPlanChecked hr) (quiet_commitPlanChecked hq)
  | abandonPlan => exact answersSafe_afterGo h rfl (running_abandonPlanChecked hr) (quiet_abandonPlanChecked hq)
  | cancelPallet p => exact answersSafe_afterGo h rfl (running_cancelPalletChecked hr _) (quiet_cancelPalletChecked hq _)
  | releasePallet p => exact answersSafe_afterGo h rfl (running_releasePalletChecked hr _) (quiet_releasePalletChecked hq _)
  | placed a => exact answersSafe_afterGo h rfl (running_placedChecked hr _) (quiet_placedChecked hq _)
  | removeCase a r => exact answersSafe_afterGo h rfl (running_removeCaseChecked hr _ _) (quiet_removeCaseChecked hq _ _)
  | acceptSuspect a => exact answersSafe_afterGo h rfl (running_acceptSuspectChecked hr _) (quiet_acceptSuspectChecked hq _)
  | readNotice => exact answersSafe_readNotice h
  | readPallet p => exact readPallet p
  | readLine p t l => exact answersSafe_working rfl (running_readLine hr _ _ _) (quiet_readLine hq _ _ _)
  | readStagingByArrival v => exact readByArrival v
  | readStagingByIndex v => exact readByIndex v
  | readStagingSummary m => exact readSummary m
  | readClaims i => exact readClaims i
  | readView k => exact answersSafe_readView h k
  | readRoster i => exact readRoster i
  | readFaults =>
    exact answersSafe_working rfl (running_respond (running_showFaults hr) _ _) (quiet_respond (quiet_showFaults hq) _ _)
  | setCounter c e k v =>
    exact answersSafe_working rfl (running_setCounterChecked hr _ _ _ _) (quiet_setCounterChecked hq _ _ _ _)
  | readCounter i => exact readCounter i

/-! ### A part at rest in START -/

/-- In START no event of the belt, of the hall line or of an interval changes anything. -/
theorem idle_rows (h : Idle s) :
    exec .forwardPulse s = .next s ∧ exec .reversePulse s = .next s ∧ exec .indexMark s = .next s ∧
    exec .loopStopped s = .next s ∧ (∀ c, exec (.scannerReport c) s = .next s) ∧
    (∀ c, exec (.scannerCharacter c) s = .next s) ∧ exec .reportGapTimeout s = .next s ∧
    exec .lineFree s = .next s ∧ exec .startBitBegins s = .next s ∧ exec .sendAttempt s = .next s ∧
    (∀ b, exec (.arbitrationEnd b) s = .next s) ∧ (∀ b e, exec (.frameReceived b e) s = .next s) ∧
    (∀ a r, exec (.frameEnd a r) s = .next s) ∧ exec .heldOwnFrameEnters s = .next s ∧
    exec .lineStuck s = .next s ∧ exec .lineStuckEnd s = .next s ∧ exec .frameHandled s = .next s ∧
    exec .divertJam s = .next s ∧ (∀ p, exec (.placeReadyTimer p) s = .next s) ∧
    exec .watchdogExpiry s = .next s := by
  have rest := not_started h
  have off : s.line = HallLine.reset := h.line
  refine ⟨?_, ?_, ?_, ?_, ?_, ?_, ?_, ?_, ?_, ?_, ?_, ?_, ?_, ?_, ?_, ?_, ?_, ?_, ?_, ?_⟩
  · simp [exec, execForwardPulse, forwardPulse, rest]
  · simp [exec, execReversePulse, reversePulse, rest]
  · simp [exec, execIndexMark, indexMark, rest]
  · simp [exec, execLoopStopped, loopStopped, h.loop, LoopTracker.reset]
  · simp [exec, execScannerReport, rest]
  · simp [exec, execScannerCharacter, rest]
  · simp [exec, execReportGapTimeout, reportGapTimeout, h.gate, GateUnit.reset]
  · simp [exec, execLineFree, lineBecomesFree, off, HallLine.reset]
  · simp [exec, execStartBitBegins, startBit, off, HallLine.reset]
  · simp [exec, execSendAttempt, sendAttempt, mayAttempt, off, HallLine.reset]
  · simp [exec, execArbitrationEnd, arbitrationEnd, off, HallLine.reset]
  · simp [exec, execFrameReceived, frameReceived, off, HallLine.reset]
  · simp [exec, execFrameEnd, frameEnd, off, HallLine.reset]
  · simp [exec, execHeldOwnFrameEnters, enterHeld, off, HallLine.reset]
  · simp [exec, execLineStuck, lineStuck, mayStick, off, HallLine.reset]
  · simp [exec, execLineStuckEnd, lineStuckEnd, off, HallLine.reset]
  · simp [exec, execFrameHandled, frameHandled, off, HallLine.reset]
  · simp [exec, execDivertJam, divertJam, h.divert, DivertUnit.reset]
  · simp [exec, execPlaceReadyTimer, placeReadyTimer, idle_watch h, Watch.timed]
  · simp [exec, execWatchdogExpiry, watchdogExpiry, h.part, FaultUnit.reset]

theorem idle_keepalive (h : Idle s) : keepalive s = s := by
  simp [keepalive, h.part, FaultUnit.reset]

theorem idle_gateRise (h : Idle s) : Idle (gateRise s) := by
  unfold gateRise
  rw [not_started h]
  exact idle_setPins h _

theorem idle_gateFall (h : Idle s) : Idle (gateFall s) := by
  unfold gateFall
  rw [not_started h]
  exact idle_setPins h _

theorem idle_confirmRise (h : Idle s) : Idle (confirmRise s) := by
  unfold confirmRise
  rw [not_started h]
  exact idle_setPins h _

theorem idle_confirmFall (h : Idle s) : Idle (confirmFall s) := by
  unfold confirmFall
  rw [not_started h]
  exact idle_setPins h _

theorem idle_placeReadyRise (h : Idle s) (p : PlaceId) : Idle (placeReadyRise s p) := by
  unfold placeReadyRise
  rw [idle_watch h]
  exact idle_setPins h _

theorem idle_placeReadyFall (h : Idle s) (p : PlaceId) : Idle (placeReadyFall s p) := by
  unfold placeReadyFall
  rw [idle_watch h]
  exact idle_setPins h _

theorem idle_pulseRow {c : Instr} {due : Bool} (h : Idle s)
    (he : exec c s = .next (if due = true then forwardPulse s else s)) : AnswersSafe c s := by
  have still : forwardPulse s = s := by simp [forwardPulse, not_started h]
  rw [still, ite_self] at he
  exact answersSafe_idle he h

theorem idle_setCounterChecked (h : Idle s) (c e k v : Nat) : Idle (setCounterChecked s c e k v) := by
  unfold setCounterChecked
  split
  · split
    · exact idle_answer h _
    · exact idle_answer (idle_setCounters h (counterLaw_set h.counters _ (Nat.zero_le _))) _
  · exact idle_answer h _

theorem idle_readLine (h : Idle s) (p t l : Nat) : Idle (readLine s p t l) := by
  unfold readLine
  repeat' split
  · exact idle_answer h _
  · exact idle_answer h _
  · exact idle_respond h _ _
  · exact idle_answer h _

theorem idle_readRecord (h : Idle s) (i : Nat) : Idle (readRecord s i) := by
  unfold readRecord
  split
  · exact idle_respond h _ _
  · exact idle_answer h _

/-- In START the reads are answered or refused, the notice queue being empty. -/
theorem idle_reads (h : Idle s) :
    AnswersSafe .readNotice s ∧ (∀ p, AnswersSafe (.readPallet p) s) ∧
    (∀ v, AnswersSafe (.readStagingByArrival v) s) ∧ (∀ v, AnswersSafe (.readStagingByIndex v) s) ∧
    (∀ m, AnswersSafe (.readStagingSummary m) s) ∧ (∀ i, AnswersSafe (.readClaims i) s) ∧
    (∀ i, AnswersSafe (.readRoster i) s) ∧ ∀ i, AnswersSafe (.readCounter i) s := by
  refine ⟨?_, fun p => answersSafe_idle rfl ?_, fun v => answersSafe_idle rfl ?_, fun v => answersSafe_idle rfl ?_,
    fun m => answersSafe_idle rfl ?_, fun i => answersSafe_idle rfl ?_, fun i => answersSafe_idle rfl ?_,
    fun i => answersSafe_idle rfl ?_⟩
  · refine answersSafe_idle (t := answer s .noSuch) ?_ (idle_answer h _)
    simp only [exec, execReadNotice, h.notices]
  · split
    · exact idle_answer h _
    · exact idle_respond h _ _
  · split
    · exact idle_readRecord h _
    · exact idle_answer h _
  · split
    · exact idle_answer h _
    · exact idle_readRecord h _
  · split
    · exact idle_answer h _
    · exact idle_respond h _ _
  · split
    · exact idle_answer h _
    · split
      · exact idle_respond h _ _
      · exact idle_answer h _
  · split
    · exact idle_respond h _ _
    · exact idle_answer h _
  · split
    · exact idle_respond h _ _
    · exact idle_answer h _

/-- R183: GO is refused, or starts the part within its laws. -/
theorem idle_go (h : Idle s) (hq : Quiet s) : AnswersSafe .go s := by
  unfold AnswersSafe
  show ∃ t, execGo s = .next t ∧ Safe t
  unfold execGo
  rw [if_neg (not_not.2 (idle_state h))]
  split
  · have refused := idle_respond h .configInvalid
    exact ⟨_, rfl, Or.inl ⟨idle_state (refused _), refused _⟩⟩
  · rename_i hc
    have started := running_go h (loopPos_of_noProblem hc)
    have quiet : Quiet (startStation (startBlocks s)) := by
      unfold startStation
      exact quiet_of_contest hq (by simp [startBlocks])
    exact ⟨_, rfl, Or.inr ⟨running_answer started _, quiet_answer quiet _⟩⟩

theorem idle_refusedWatchdog (h : Idle s) : AnswersSafe .armWatchdog s := by
  refine answersSafe_idle (t := answer s .refusedState) ?_ (idle_answer h _)
  simp [exec, execArmWatchdog, h.part, FaultUnit.reset]

theorem idle_withdraw (h : Idle s) : AnswersSafe .withdraw s := by
  refine answersSafe_idle (t := answer s .refusedState) ?_ (idle_answer h _)
  simp [exec, execWithdraw, idle_state h]

theorem idle_rejoin (h : Idle s) : AnswersSafe .rejoin s := by
  refine answersSafe_idle (t := answer s .refusedState) ?_ (idle_answer h _)
  simp [exec, execRejoin, idle_state h]

/-- Every command from a part at rest in START. -/
theorem answersSafe_of_idle (h : Idle s) (c : Instr) : AnswersSafe c s := by
  have ⟨forward, reverse, mark, stopped, scanned, scanChar, gap, free, startBit, attempt, arbitration, received, ended,
    held, stuck, stuckEnd, handled, jam, placeTimer, expiry⟩ := idle_rows h
  have ⟨readNotice, readPallet, readByArrival, readByIndex, readSummary, readClaims, readRoster, readCounter⟩ :=
    idle_reads h
  have still : ∀ {c : Instr}, exec c s = .next s → AnswersSafe c s := fun he => answersSafe_idle he h
  have hq : Quiet s := by unfold Quiet; rw [h.contest]; rfl
  cases c with
  | powerOnReset => exact answersSafe_powerOnReset s
  | restart => exact answersSafe_restart h.counters
  | forwardPulse => exact still forward
  | reversePulse => exact still reverse
  | indexMark => exact still mark
  | loopStopped => exact still stopped
  | gateEyeRise => exact answersSafe_idle rfl (idle_gateRise h)
  | gateEyeFall => exact answersSafe_idle rfl (idle_gateFall h)
  | gateEdgeAccepted => exact idle_pulseRow h rfl
  | gateCleared => exact idle_pulseRow h rfl
  | edgeExpired => exact idle_pulseRow h rfl
  | dwellEnd => exact idle_pulseRow h rfl
  | windowClosedMissed => exact idle_pulseRow h rfl
  | confirmEdge => exact idle_pulseRow h rfl
  | confirmCleared => exact idle_pulseRow h rfl
  | scannerReport chars => exact still (scanned chars)
  | scannerCharacter c => exact still (scanChar c)
  | reportGapTimeout => exact still gap
  | lineFree => exact still free
  | startBitBegins => exact still startBit
  | sendAttempt => exact still attempt
  | arbitrationEnd read => exact still (arbitration read)
  | frameReceived b e => exact still (received b e)
  | frameEnd a r => exact still (ended a r)
  | heldOwnFrameEnters => exact still held
  | lineStuck => exact still stuck
  | lineStuckEnd => exact still stuckEnd
  | frameHandled => exact still handled
  | confirmEyeRise => exact answersSafe_idle rfl (idle_confirmRise h)
  | confirmEyeFall => exact answersSafe_idle rfl (idle_confirmFall h)
  | divertJam => exact still jam
  | placeReadyRise p => exact answersSafe_idle rfl (idle_placeReadyRise h p)
  | placeReadyFall p => exact answersSafe_idle rfl (idle_placeReadyFall h p)
  | placeReadyTimer p => exact still (placeTimer p)
  | watchdogExpiry => exact still expiry
  | transactionStart =>
    exact answersSafe_idle rfl (idle_setPort h (x := { s.port with transaction := some _ }) h.notices h.attn)
  | transactionIncomplete n => exact answersSafe_idle rfl (idle_answer h _)
  | checkError f => exact answersSafe_idle rfl (idle_answer h _)
  | unknownCommand n => exact answersSafe_idle rfl (idle_answer h _)
  | nop => exact answersSafe_idle rfl (idle_answer h _)
  | keepalive => exact answersSafe_idle rfl (idle_answer (by rw [idle_keepalive h]; exact h) _)
  | clearFaults => exact answersSafe_idle rfl (idle_respond (by rw [idle_clear h]; exact h) _ _)
  | armWatchdog => exact idle_refusedWatchdog h
  | hallSize l p => exact answersSafe_idle rfl (idle_configure h _ _ fun _ => own_lane h)
  | stationEntry i g d => exact answersSafe_idle rfl (idle_configure h _ _ fun _ => own_lane h)
  | ownSetup i f a b =>
    refine answersSafe_idle rfl (idle_configure h _ _ fun hb => ?_)
    simp only [Bool.and_eq_true, decide_eq_true_eq] at hb
    exact hb.2
  | timing t => exact answersSafe_idle rfl (idle_configure h _ _ fun _ => own_lane h)
  | faultPolicy a b m l u => exact answersSafe_idle rfl (idle_configure h _ _ fun _ => own_lane h)
  | go => exact idle_go h hq
  | withdraw => exact idle_withdraw h
  | rejoin => exact idle_rejoin h
  | openPlan p r n => exact answersSafe_idle rfl (idle_afterGo h _)
  | addLine t a f q => exact answersSafe_idle rfl (idle_afterGo h _)
  | commitPlan => exact answersSafe_idle rfl (idle_afterGo h _)
  | abandonPlan => exact answersSafe_idle rfl (idle_afterGo h _)
  | cancelPallet p => exact answersSafe_idle rfl (idle_afterGo h _)
  | releasePallet p => exact answersSafe_idle rfl (idle_afterGo h _)
  | placed a => exact answersSafe_idle rfl (idle_afterGo h _)
  | removeCase a r => exact answersSafe_idle rfl (idle_afterGo h _)
  | acceptSuspect a => exact answersSafe_idle rfl (idle_afterGo h _)
  | readNotice => exact readNotice
  | readPallet p => exact readPallet p
  | readLine p t l => exact answersSafe_idle rfl (idle_readLine h _ _ _)
  | readStagingByArrival v => exact readByArrival v
  | readStagingByIndex v => exact readByIndex v
  | readStagingSummary m => exact readSummary m
  | readClaims i => exact readClaims i
  | readView k => exact answersSafe_idle rfl (idle_afterGo h _)
  | readRoster i => exact readRoster i
  | readFaults => exact answersSafe_idle rfl (idle_respond (by rw [idle_show h]; exact h) _ _)
  | setCounter c e k v => exact answersSafe_idle rfl (idle_setCounterChecked h _ _ _ _)
  | readCounter i => exact readCounter i

/-- The waiting commands are no part of any law. -/
theorem safe_setPending (h : Safe s) (q : List Instr) : Safe (s.setPending q) := by
  rcases h with ⟨hs, hi⟩ | ⟨hr, hq⟩
  · exact Or.inl ⟨hs, idle_setPending hi q⟩
  · exact Or.inr ⟨running_setPending hr q, hq⟩

theorem answersSafe_of_safe (h : Safe s) (c : Instr) : AnswersSafe c s := by
  rcases h with ⟨_, hi⟩ | ⟨hr, hq⟩
  · exact answersSafe_of_idle hi c
  · exact answersSafe_of_working ⟨hr, hq⟩ c

theorem safe_tick (h : Safe s) : Safe (tick s) := by
  rcases h with ⟨hs, hi⟩ | ⟨hr, hq⟩
  · rw [idle_tick hi]
    exact Or.inl ⟨hs, hi⟩
  · exact Or.inr ⟨running_tick hr, quiet_tick hq⟩

end Sys2Proof.Laws

open Sys2Proof.Laws Sys2Proof.Safety

/-- Settles O3: the front command answers a safe state by the laws it keeps, and an idle millisecond keeps them too. -/
theorem everyStepKeepsSafe : Obligations.EveryStepKeepsSafe := by
  unfold Obligations.EveryStepKeepsSafe
  intro s h
  unfold Sys2Proof.Machine.step
  split
  · exact answersSafe_of_safe (safe_setPending h _) _
  · exact ⟨_, rfl, safe_tick h⟩
end

section
/-! SUPPORT. The resets, NOP, the configuration commands and what START refuses. -/

namespace Sys2Proof.Laws

open Sys2Proof Sys2Proof.Machine Sys2Proof.Safety

variable {s : State}

/-! ### The state after reset -/

theorem reset_place (q : List Instr) (p : PlaceId) : (State.reset.setPending q).place p = Place.empty := by
  have : ∀ p : Fin 4, PlanStore.reset.places[p] = Place.empty := by decide
  exact this p

/-- After reset no line exists at any target. -/
theorem reset_lineAt (q : List Instr) (g : Target) : (State.reset.setPending q).lineAt g = none := by
  simp [State.lineAt, reset_place, Place.line?, Place.tier, Place.empty]

theorem queueLaw_reset (q : List Instr) : QueueLaw (State.reset.setPending q) where
  bound := Nat.zero_le _
  announces := Nat.zero_le _
  participation := Nat.zero_le _
  places := Nat.zero_le _
  one := Nat.zero_le _
  rest := fun _ x hx => absurd hx List.not_mem_nil
  driven := fun a ha => absurd ha (by simp [State.reset, HallLine.reset])
  queued := List.Perm.refl []
  orphaned := fun x hx => absurd hx List.not_mem_nil
  sent := fun k => Nat.zero_le _

theorem countLaw_reset (q : List Instr) : CountLaw (State.reset.setPending q) where
  lines := fun g l _ _ hl => by simp [reset_lineAt] at hl
  claims := fun c hc => absurd hc List.not_mem_nil
  records := fun r hr => absurd hr List.not_mem_nil
  tiers := fun p => by
    rw [reset_place]
    exact ⟨by simp [Place.empty], by simp [Place.empty]⟩
  cancelling := fun p hp => by simp [reset_place, Place.empty] at hp

/-! ### Configuration -/

/-- A configuration command in START with its values in range. -/
theorem configure_taken (h : s.part.state = .start) {b : Bool} (hb : b = true) (c : Configuration) :
    configure s b c = answer (s.setConfig c) .done := by
  simp [configure, h, hb]

theorem configure_outOfRange (h : s.part.state = .start) {b : Bool} (hb : b = false) (c : Configuration) :
    configure s b c = answer s .refusedRange := by
  simp [configure, h, hb]

theorem configure_started (h : s.part.state ≠ .start) (b : Bool) (c : Configuration) :
    configure s b c = answer s .refusedState := by
  simp [configure, h]

theorem hallSizeInRange_iff (l p : Nat) : hallSizeInRange l p = true ↔
    16 ≤ l ∧ l ≤ 512 ∧ 16 ≤ p ∧ p ≤ 1024 ∧ l * p ≤ 524288 := by
  simp [hallSizeInRange, and_assoc]

theorem within_iff (low high n : Nat) : within low high n = true ↔ low ≤ n ∧ n ≤ high := by simp [within]

/-- R182: the ranges of TIMING; the arm lead has no upper bound of its own below its width. -/
theorem timing_inRange_iff (t : TimingParams) : (timingOf t).inRange = true ↔
    (1 ≤ t.gateDeglitch.toNat ∧ t.gateDeglitch.toNat ≤ 64) ∧
    (1 ≤ t.confirmDeglitch.toNat ∧ t.confirmDeglitch.toNat ≤ 64) ∧
    (1 ≤ t.scanWindow.toNat ∧ t.scanWindow.toNat ≤ 2048) ∧ 1 ≤ t.armLead.toNat ∧
    (1 ≤ t.dwell.toNat ∧ t.dwell.toNat ≤ 1024) ∧ (1 ≤ t.confirmWindow.toNat ∧ t.confirmWindow.toNat ≤ 1024) ∧
    (100 ≤ t.jamTime.toNat ∧ t.jamTime.toNat ≤ 10000) ∧ (50 ≤ t.stopTime.toNat ∧ t.stopTime.toNat ≤ 5000) ∧
    (10 ≤ t.placeDeglitch.toNat ∧ t.placeDeglitch.toNat ≤ 500) := by
  have lead : t.armLead.toNat ≤ 524287 := Nat.le_of_lt_succ t.armLead.isLt
  simp only [Timing.inRange, timingOf, Bool.and_eq_true, within_iff, lead, and_true, and_assoc]

theorem boundsInRange_iff (l u : Nat) :
    boundsInRange l u = true ↔ (10 ≤ l ∧ l ≤ 1000) ∧ l + 10 ≤ u ∧ u ≤ 5000 := by
  simp [boundsInRange, within_iff]

theorem watchdogModeOf_eq (m : BitVec 2) : watchdogModeOf m = [WatchdogMode.off, .warn, .withdraw][m.toNat]? := by
  revert m
  decide

theorem watchdogModeOf_isSome_iff (m : BitVec 2) : (watchdogModeOf m).isSome = true ↔ m ≠ 3 := by
  revert m
  decide

end Sys2Proof.Laws

open Sys2Proof Sys2Proof.Machine Sys2Proof.Safety Sys2Proof.Laws

/-- Settles O5: the reset state is idle, and its queues and counts are empty. -/
theorem resetIsSafe : Obligations.ResetIsSafe := by
  unfold Obligations.ResetIsSafe
  intro q
  have rest : Idle (State.reset.setPending q) :=
    ⟨Nat.zero_le _, rfl, rfl, rfl, rfl, rfl, rfl, rfl, rfl, rfl, rfl, rfl, counterLaw_reset⟩
  exact ⟨Or.inl ⟨rfl, rest⟩, queueLaw_reset q, countLaw_reset q, rfl⟩

/-- Settles O10: both resets answer the reset state with the inputs, the queue and, for RESTART, the counters kept. -/
theorem nopAndResets : Obligations.NopAndResets := by
  unfold Obligations.NopAndResets
  refine ⟨fun s => rfl, fun c s hc => ?_⟩
  have places : ∀ p : Fin 4, PlanStore.reset.places[p] = ⟨.empty, none, none, none, []⟩ := by decide
  have roster : ∀ i : Fin 16, FaultUnit.reset.roster[i] = ⟨.absent, none⟩ := by decide
  have faults : ∀ i : Fin 13, FaultUnit.reset.faults[i] = ⟨false, false, false⟩ := by decide
  have watches : ∀ p : Fin 4, FaultUnit.reset.watches[p] = ⟨.unwatched, 0⟩ := by decide
  have hall : ∀ i : Fin 16, Configuration.reset.hall[i] = none := by decide
  have zeroed : ∀ i : Fin 4, State.reset.counters[i] = ⟨0, none, .none⟩ := by decide
  have line : HallLine.reset.state = .off ∧ HallLine.reset.recessiveRun = 0 ∧ HallLine.reset.stuck = false ∧
      HallLine.reset.stuckTimer = none ∧ HallLine.reset.tx = [] ∧ HallLine.reset.repeatCount = 0 ∧
      HallLine.reset.rx = [] ∧ HallLine.reset.held = none ∧ HallLine.reset.checkErrors = 0 ∧
      HallLine.reset.attempt = none ∧ HallLine.reset.answer = none := by decide
  cases c <;> simp only [resets, Bool.false_eq_true] at hc
  case powerOnReset =>
    exact ⟨_, rfl, rfl, rfl, line, rfl, rfl, rfl, places, rfl, rfl, rfl, rfl,
      ⟨rfl, rfl, rfl, rfl, rfl, roster, fun f => faults f.index, watches⟩, rfl, ⟨rfl, rfl, rfl, rfl, hall⟩, rfl, rfl,
      fun h => absurd h (by decide), fun _ => zeroed⟩
  case restart =>
    exact ⟨_, rfl, rfl, rfl, line, rfl, rfl, rfl, places, rfl, rfl, rfl, rfl,
      ⟨rfl, rfl, rfl, rfl, rfl, roster, fun f => faults f.index, watches⟩, rfl, ⟨rfl, rfl, rfl, rfl, hall⟩, rfl, rfl,
      fun _ => rfl, fun h => absurd h (by decide)⟩

/-- Settles O14: each command is `configure` under its range check, decided for the values given. -/
theorem configurationTakenOrRefused : Obligations.ConfigurationTakenOrRefused := by
  unfold Obligations.ConfigurationTakenOrRefused
  intro s
  have next : ∀ {a b : State}, a = b → (Host.Outcome.next a : Host.Outcome State Fault Refusal) = .next b :=
    fun h => congrArg _ h
  refine ⟨fun h => ⟨?_, ?_, ?_, ?_, ?_⟩, fun h => ⟨?_, ?_, ?_, ?_, ?_, ?_⟩, fun h => ⟨?_, ?_, ?_, ?_⟩⟩
  · exact fun l p h1 h2 h3 h4 h5 => next (configure_taken h ((hallSizeInRange_iff _ _).2 ⟨h1, h2, h3, h4, h5⟩) _)
  · exact fun i g d => next (configure_taken h rfl _)
  · exact fun i f a b h1 h2 => next (configure_taken h (by simp [h1, h2]) _)
  · intro t
    intros
    exact next (configure_taken h ((timing_inRange_iff t).2 (by omega)) _)
  · intro a b m l u w hw
    intros
    rw [← watchdogModeOf_eq] at hw
    have inRange : ((watchdogModeOf m).isSome && boundsInRange l.toNat u.toNat) = true := by
      simp only [hw, Option.isSome_some, Bool.true_and, boundsInRange_iff]
      omega
    refine next ((configure_taken h inRange _).trans ?_)
    simp only [hw, Option.getD_some, scopeOf, recoveryOf]
  · exact fun l p => next (configure_started h _ _)
  · exact fun i g d => next (configure_started h _ _)
  · exact fun i f a b => next (configure_started h _ _)
  · exact fun t => next (configure_started h _ _)
  · exact fun a b m l u => next (configure_started h _ _)
  · exact next (if_pos h)
  · intro l p hr
    refine next (configure_outOfRange h (Bool.eq_false_iff.2 fun hc => ?_) _)
    have := (hallSizeInRange_iff _ _).1 hc
    omega
  · intro i f a b hr
    refine next (configure_outOfRange h (Bool.eq_false_iff.2 fun hc => ?_) _)
    simp only [Bool.and_eq_true, decide_eq_true_eq] at hc
    omega
  · intro t hr
    refine next (configure_outOfRange h (Bool.eq_false_iff.2 fun hc => ?_) _)
    have := (timing_inRange_iff t).1 hc
    omega
  · intro a b m l u hr
    refine next (configure_outOfRange h (Bool.eq_false_iff.2 fun hc => ?_) _)
    obtain ⟨hm, hb⟩ := (Bool.and_eq_true _ _).mp hc
    have bounds := (boundsInRange_iff _ _).1 hb
    rcases hr with hr | hr
    · exact (watchdogModeOf_isSome_iff m).1 hm hr
    · omega

/-- Settles O21: the belt's events ask whether the part is started, and the commands are taken after GO alone. -/
theorem inStartNothingRuns : Obligations.InStartNothingRuns := by
  unfold Obligations.InStartNothingRuns
  intro s h
  have rest : s.started = false := by simp [State.started, h]
  have refused : ∀ r, (Host.Outcome.next (afterGo s r) : Host.Outcome State Fault Refusal) =
      .next (answer s .refusedState) := fun r => by rw [afterGo, if_pos h]
  refine ⟨⟨?_, ?_, ?_, fun c => ?_, fun cs => ?_⟩, fun a b c => refused _, fun a b c d => refused _, refused _,
    refused _, fun a => ⟨refused _, refused _⟩, fun a => ⟨refused _, refused _, refused _⟩, fun a b => refused _⟩
  · simp [exec, execForwardPulse, forwardPulse, rest]
  · simp [exec, execReversePulse, reversePulse, rest]
  · simp [exec, execIndexMark, indexMark, rest]
  · simp [exec, execScannerCharacter, rest]
  · simp [exec, execScannerReport, rest]
end

section
/-! SUPPORT. The loop-stopped timer (R14) and GO (R163, R183). -/

namespace Sys2Proof.Laws

open Sys2Proof Sys2Proof.Machine Sys2Proof.Safety

variable {s : State}

/-! ### Notices -/

theorem offerNotice_room (h : s.port.notices.length < 32) (n : Notice) :
    offerNotice s n = s.setPort { s.port with notices := s.port.notices ++ [n], attn := true } := by
  unfold offerNotice
  exact if_pos h

@[simp] theorem offerNotice_watches (s : State) (n : Notice) : (offerNotice s n).part.watches = s.part.watches := by
  unfold offerNotice
  split <;> rfl

@[simp] theorem offerNotice_watchdog (s : State) (n : Notice) : (offerNotice s n).part.watchdog = s.part.watchdog := by
  unfold offerNotice
  split <;> rfl

/-! ### Time with no place, watchdog or line timed -/

theorem elapse_loop (s : State) (ms : Nat) : (elapse s ms).loop =
    { s.loop with stopTimer := s.loop.stopTimer.map (advance s.timing.stopTime ms) } := by
  unfold elapse
  dsimp only
  split <;> rfl

theorem elapse_counters (s : State) (ms : Nat) : (elapse s ms).counters = s.counters := by
  unfold elapse
  dsimp only
  split <;> rfl

theorem elapse_port (s : State) (ms : Nat) : (elapse s ms).port = s.port := by
  unfold elapse
  dsimp only
  split <;> rfl

/-- The watches and the watchdog timer are the only fields of their unit that count milliseconds. -/
theorem elapse_faults (s : State) (ms : Nat) : (elapse s ms).part.faults = s.part.faults := by
  unfold elapse
  dsimp only
  split <;> rfl

/-- A watch whose place is not timed stands as time passes. -/
theorem watch_elapse_untimed {w : Watch} (h : w.state ≠ .dropping ∧ w.state ≠ .rising) (t ms : Nat) :
    w.elapse t ms = w := by
  unfold Watch.elapse
  split
  · exact absurd ‹_› h.1
  · exact absurd ‹_› h.2
  all_goals rfl

/-- With the loop-stopped timer the one running interval, time moves that timer alone. -/
theorem elapse_stopTimer_only (hr : s.gate.report = []) (hj : s.divert.jamTimer = none)
    (hl : s.line.stuckTimer = none)
    (hw : ∀ p : Fin 4, s.part.watches[p].state ≠ .dropping ∧ s.part.watches[p].state ≠ .rising)
    (hd : s.part.watchdog ≠ .running) (ms : Nat) :
    elapse s ms = s.setLoop { s.loop with stopTimer := s.loop.stopTimer.map (advance s.timing.stopTime ms) } := by
  have divert : ({ s.divert with jamTimer := s.divert.jamTimer.map (advance s.timing.jamTime ms) } : DivertUnit) =
      s.divert := by
    rw [hj, Option.map_none, ← hj]
  have line : ({ s.line with stuckTimer := s.line.stuckTimer.map (advance Config.stuckLimit ms) } : HallLine) =
      s.line := by
    rw [hl, Option.map_none, ← hl]
  have watches : (#v[s.part.watches[0].elapse s.timing.placeDeglitch ms,
      s.part.watches[1].elapse s.timing.placeDeglitch ms, s.part.watches[2].elapse s.timing.placeDeglitch ms,
      s.part.watches[3].elapse s.timing.placeDeglitch ms] : Vector Watch 4) = s.part.watches := by
    ext1 i hi
    match i, hi with
    | 0, _ => exact watch_elapse_untimed (hw 0) _ _
    | 1, _ => exact watch_elapse_untimed (hw 1) _ _
    | 2, _ => exact watch_elapse_untimed (hw 2) _ _
    | 3, _ => exact watch_elapse_untimed (hw 3) _ _
  unfold elapse
  dsimp only
  rw [if_pos hr, if_neg hd, divert, line, watches]
  rfl

/-- No interval but the stop time is running. -/
structure StopTimerOnly (s : State) : Prop where
  report : s.gate.report = []
  jam : s.divert.jamTimer = none
  watches : ∀ p : Fin 4, s.part.watches[p].state ≠ .dropping ∧ s.part.watches[p].state ≠ .rising
  watchdog : s.part.watchdog ≠ .running

/-- An idle millisecond on a recessive line in which no interval but the stop time can run out. -/
theorem tick_stopTimer_only (h : StopTimerOnly (whenDue stopDue stopLoop (elapse s 1)))
    (hl : s.line.stuckTimer = none) : tick s = whenDue stopDue stopLoop (elapse s 1) := by
  unfold tick
  generalize whenDue stopDue stopLoop (elapse s 1) = v at h ⊢
  have gap : gapDue v = false := by simp [gapDue, h.report]
  have jam : jamDue v = false := by simp [jamDue, h.jam]
  have stuck : stuckNext s = false := by simp [stuckNext, hl]
  have place : ∀ p, placeDue v p = false := fun p => by
    have untimed : (v.watch p).timed = false := by
      simp only [Watch.timed, Bool.or_eq_false_iff, decide_eq_false_iff_not]
      exact h.watches p
    simp [placeDue, untimed]
  have watchdog : watchdogDue v = false := by simp [watchdogDue, h.watchdog]
  simp [whenDue, gap, jam, stuck, place, watchdog, allPlaces]

theorem stopTimerOnly_stopLoop (h : StopTimerOnly s) : StopTimerOnly (stopLoop s) := by
  unfold stopLoop
  exact ⟨by simpa using h.report, by simpa using h.jam, by simpa using h.watches, by simpa using h.watchdog⟩

/-- R14 in one idle millisecond: the timer rises by one, or the loop stops. -/
theorem tick_stopTimer (h : StopTimerOnly s) (hl : s.line.stuckTimer = none) (hq : Quiet s) {n : Nat}
    (hn : s.loop.stopTimer = some n) :
    (n + 1 < s.timing.stopTime → tick s = s.setLoop { s.loop with stopTimer := some (n + 1) }) ∧
    (n + 1 = s.timing.stopTime →
      tick s = offerNotice (s.setLoop { s.loop with running := false, stopTimer := none }) .loopStopped) := by
  have passed : n + 1 ≤ s.timing.stopTime → elapse s 1 = s.setLoop { s.loop with stopTimer := some (n + 1) } := by
    intro hle
    rw [elapse_stopTimer_only h.report h.jam hl h.watches h.watchdog, hn, Option.map_some]
    have : advance s.timing.stopTime 1 n = n + 1 := by unfold advance; omega
    rw [this]
  refine ⟨fun hlt => ?_, fun heq => ?_⟩
  · have still : whenDue stopDue stopLoop (elapse s 1) = s.setLoop { s.loop with stopTimer := some (n + 1) } := by
      rw [passed hlt.le, whenDue, if_neg]
      show ¬decide (s.timing.stopTime ≤ n + 1) = true
      simp only [decide_eq_true_eq]
      omega
    rw [tick_stopTimer_only _ hl, still]
    rw [still]
    exact ⟨h.report, h.jam, h.watches, h.watchdog⟩
  · have stopped : whenDue stopDue stopLoop (elapse s 1) =
        offerNotice (s.setLoop { s.loop with running := false, stopTimer := none }) .loopStopped := by
      rw [passed heq.le, whenDue, if_pos (by simp [stopDue, heq])]
      exact runSearch_quiet (by simp [stopLoop]; exact hq)
    rw [tick_stopTimer_only _ hl, stopped]
    rw [stopped]
    exact stopTimerOnly_stopLoop (s := s) ⟨h.report, h.jam, h.watches, h.watchdog⟩

/-! ### GO -/

/-- R163: the three terms of one station ID, the first with weight w. -/
def digestShare (w : Nat) (p : Option StationPos) : Nat :=
  match p with
  | some q => w + (w + 1) * q.gate + (w + 2) * q.divert
  | none => 0

theorem weightedSum_digestTerms (w : Nat) (p : Option StationPos) (l : List Nat) :
    weightedSum w (digestTerms p ++ l) = digestShare w p + weightedSum (w + 3) l := by
  cases p <;> simp [digestTerms, digestShare, weightedSum, add_assoc]

/-- R163: station ID j of a list of stations that begins at weight w takes the weights w + 3j, w + 3j + 1, w + 3j + 2. -/
theorem weightedSum_stations (w : Nat) (ps : List (Option StationPos)) :
    weightedSum w (ps.map digestTerms).flatten = (ps.mapIdx fun j p => digestShare (w + 3 * j) p).sum := by
  induction ps generalizing w with
  | nil => rfl
  | cons p ps ih =>
    rw [List.map_cons, List.flatten_cons, weightedSum_digestTerms, ih, List.mapIdx_cons, List.sum_cons]
    simp only [Nat.mul_zero, Nat.add_zero, Nat.mul_add, Nat.mul_one]
    congr 3
    funext j p
    congr 1
    omega

theorem allStations_eq : allStations = List.finRange 16 := by decide

/-- R163: the digest as one sum over the station IDs. -/
theorem hallDigest_eq (s : State) : hallDigest s = (s.slots + 2 * s.pitch +
    ((List.finRange 16).map (fun j : Fin 16 => digestShare (3 * j.val + 3) s.config.hall[j])).sum) % 65536 := by
  unfold hallDigest digestSequence
  have stations : (allStations.map fun i : Fin 16 => digestTerms s.config.hall[i]) =
      ((List.finRange 16).map fun i : Fin 16 => s.config.hall[i]).map digestTerms := by
    rw [allStations_eq, List.map_map]
    rfl
  have shares : ((List.finRange 16).map fun i : Fin 16 => s.config.hall[i]).mapIdx
      (fun j p => digestShare (3 + 3 * j) p) =
      (List.finRange 16).map (fun j : Fin 16 => digestShare (3 * j.val + 3) s.config.hall[j]) := by
    refine List.ext_getElem (by simp) fun i hi _ => ?_
    simp [Nat.add_comm]
  have sum : weightedSum 1 ([s.slots, s.pitch] ++ (allStations.map fun i => digestTerms s.config.hall[i]).flatten) =
      s.slots + (2 * s.pitch +
        weightedSum 3 (allStations.map fun i : Fin 16 => digestTerms s.config.hall[i]).flatten) := by
    simp only [List.cons_append, List.nil_append, weightedSum, Nat.one_mul]
  rw [sum, stations, weightedSum_stations, shares, Nat.add_assoc]

theorem offerJoin_empty (h : s.line.tx = []) :
    offerJoin s = setTx s [⟨.join (s.part.digest.getD 0), false, false, false, false⟩] := by
  simp [offerJoin, askWithdrawal, h, offerFrame, OutFrame.isAnnounce, offerOther, setTx, Config.txCapacity,
    TxFrame.waiting, State.setLine]

/-- R160: entry to LISTENING with no notice and no frame queued. -/
theorem enterListening_first (hs : s.part.state = .start) (hn : s.port.notices = []) (ht : s.line.tx = []) :
    enterListening s = setTx ((s.setPort { s.port with notices := [.participation .listening], attn := true }).setPart
      { s.part with state := .listening, listeningMarks := 0 }) [⟨.join (s.part.digest.getD 0), false, false, false, false⟩] := by
  have moved : moveTo s .listening = (s.setPart { s.part with state := .listening }).setPort
      { s.port with notices := [.participation .listening], attn := true } := by
    unfold moveTo
    rw [if_neg (by simp [hs]), offerNotice_room (by simp [hn])]
    simp [hn]
  show offerJoin ((moveTo s .listening).setPart { (moveTo s .listening).part with listeningMarks := 0 }) = _
  rw [moved, offerJoin_empty (by exact ht)]
  rfl

end Sys2Proof.Laws

open Sys2Proof Sys2Proof.Machine Sys2Proof.Safety Sys2Proof.Laws

/-- Settles O2: the row lets the rest of the interval pass and stops the loop, and an idle millisecond is one step of it. -/
theorem loopStoppedTimer : Obligations.LoopStoppedTimer := by
  unfold Obligations.LoopStoppedTimer
  intro s
  refine ⟨fun h => ?_, fun n hn => ⟨stopLoop (elapse s (s.timing.stopTime - n)), ?_, ?_⟩, fun hp => ⟨fun h => ?_, ?_⟩⟩
  · simp [exec, execLoopStopped, loopStopped, h]
  · simp [exec, execLoopStopped, loopStopped, hn]
  · refine ⟨by simp [stopLoop, elapse_loop], by simp, by simp, by simp, by simp, by simp, by simp, by simp, by simp,
      by simp [elapse_counters], by simp, fun hl => ?_⟩
    unfold stopLoop
    rw [offerNotice_room (by simpa [elapse_port] using hl)]
    simp [elapse_faults]
  · rw [show step s = .next (tick s) by simp [step, hp], idle_tick h]
  · intro n hn hr hj hl hw hd hq
    rw [show step s = .next (tick s) by simp [step, hp]]
    obtain ⟨rise, stop⟩ := tick_stopTimer ⟨hr, hj, hw, hd⟩ hl hq hn
    exact ⟨fun h => congrArg _ (rise h), fun h => congrArg _ (stop h)⟩

/-- Settles O16: GO starts the blocks and offers a JOIN to an empty transmit queue. -/
theorem goStartsTheStation : Obligations.GoStartsTheStation := by
  unfold Obligations.GoStartsTheStation
  refine ⟨hallDigest_eq, fun s hs h hc => ⟨answer (startStation (startBlocks s)) .done, ?_, ?_⟩⟩
  · show execGo s = _
    unfold execGo
    rw [if_neg (not_not.2 hs), hc]
  · have digest : hallDigest (startBlocks s) = hallDigest s := rfl
    unfold startStation
    dsimp only
    rw [digest, enterListening_first (by exact hs) (by exact h.notices) (by rfl)]
    generalize hallDigest s = d
    refine ⟨rfl, rfl, rfl, rfl, rfl, rfl, rfl, rfl, rfl, rfl, rfl, rfl, rfl, rfl, ?_⟩
    simp [startBlocks]

end

section
/-! SUPPORT. What a report does to the counters (R188, R189), what an entry of the fault record reads after a write
(R168), and what every event but a reset keeps: the configuration, the participation, the alignment, CFG_MISMATCH, the
notices queued, and each counter but for the reports made. -/

namespace Sys2Proof.Laws

open Sys2Proof Sys2Proof.Machine Sys2Proof.Safety

/-! ### Reports -/

theorem report_counters (s : State) (e : CounterEvent) (i : Option Station) (p : Option PlaceId) :
    (report s e i p).counters = s.counters.map (fun c => c.take e i p) := by
  ext1 k hk
  rw [Vector.getElem_map]
  match k, hk with
  | 0, _ => rfl
  | 1, _ => rfl
  | 2, _ => rfl
  | 3, _ => rfl

/-- The counters ds are the counters cs after some reports of events in E. -/
inductive Counted (E : List CounterEvent) (cs : Vector Counter 4) : Vector Counter 4 → Prop
  | none : Counted E cs cs
  | one {ds : Vector Counter 4} (h : Counted E cs ds) {e : CounterEvent} (he : e ∈ E) (i : Option Station)
      (p : Option PlaceId) : Counted E cs (ds.map (fun c => c.take e i p))

@[simp] theorem take_event (c : Counter) (e : CounterEvent) (i : Option Station) (p : Option PlaceId) :
    (c.take e i p).event = c.event := by
  unfold Counter.take
  split <;> rfl

@[simp] theorem take_filter (c : Counter) (e : CounterEvent) (i : Option Station) (p : Option PlaceId) :
    (c.take e i p).filter = c.filter := by
  unfold Counter.take
  split <;> rfl

/-- R188: a counter of another event stands. -/
theorem take_other {c : Counter} {e : CounterEvent} (h : c.event ≠ some e) (i : Option Station) (p : Option PlaceId) :
    c.take e i p = c := if_neg fun hc => h hc.1

theorem take_admitted {c : Counter} {e : CounterEvent} {i : Option Station} {p : Option PlaceId}
    (h : c.event = some e) (hf : c.filter.admits i p = true) : (c.take e i p).value = min (c.value + 1) 4294967295 := by
  rw [Counter.take, if_pos ⟨h, hf⟩]
  rfl

/-- R188: a counter at or below its highest value never falls. -/
theorem take_value_ge (c : Counter) (e : CounterEvent) (i : Option Station) (p : Option PlaceId) :
    min c.value 4294967295 ≤ (c.take e i p).value := by
  unfold Counter.take Counter.add Config.counterMax
  split
  · show _ ≤ min _ _
    omega
  · exact Nat.min_le_left _ _

section counted
variable {E : List CounterEvent} {cs ds : Vector Counter 4}

theorem Counted.trans {es : Vector Counter 4} (h : Counted E cs ds) (h' : Counted E ds es) : Counted E cs es := by
  induction h' with
  | none => exact h
  | one _ he i p ih => exact ih.one he i p

theorem Counted.mono {F : List CounterEvent} (h : Counted E cs ds) (hE : E ⊆ F) : Counted F cs ds := by
  induction h with
  | none => exact .none
  | one _ he i p ih => exact ih.one (hE he) i p

theorem Counted.event (h : Counted E cs ds) (k : Fin 4) : ds[k].event = cs[k].event := by
  induction h with
  | none => rfl
  | one _ _ i p ih =>
    rw [← ih]
    simp

theorem Counted.filter (h : Counted E cs ds) (k : Fin 4) : ds[k].filter = cs[k].filter := by
  induction h with
  | none => rfl
  | one _ _ i p ih =>
    rw [← ih]
    simp

/-- A counter whose event was not reported stands. -/
theorem Counted.silent (h : Counted E cs ds) {k : Fin 4} {e : CounterEvent} (hk : cs[k].event = some e)
    (he : e ∉ E) : ds[k] = cs[k] := by
  induction h with
  | none => rfl
  | one _ he' i p ih =>
    rw [← ih]
    simp only [Fin.getElem_fin, Vector.getElem_map] at ih hk ⊢
    exact take_other (by rw [ih, hk]; rintro ⟨⟩; exact he he') i p

theorem Counted.value_ge (h : Counted E cs ds) (k : Fin 4) : min cs[k].value 4294967295 ≤ ds[k].value := by
  induction h with
  | none => exact Nat.min_le_left _ _
  | @one es _ e _ i p ih =>
    have := take_value_ge es[k] e i p
    simp only [Fin.getElem_fin, Vector.getElem_map] at ih this ⊢
    omega

end counted

/-! ### The fault record -/

theorem all_index (f : FaultId) : FaultId.all[f.index.val]? = some f := by
  cases f
  case placeNotReady p =>
    revert p
    decide
  all_goals rfl

theorem index_injective {f g : FaultId} (h : f.index = g.index) : f = g :=
  Option.some.inj (by rw [← all_index f, h, all_index g])

theorem fault_setFault_self (s : State) (f : FaultId) (e : FaultEntry) : (setFault s f e).fault f = e := by
  simp [setFault, State.fault]

theorem fault_setFault_ne (s : State) {f g : FaultId} (h : f ≠ g) (e : FaultEntry) :
    (setFault s f e).fault g = s.fault g := by
  have : f.index.val ≠ g.index.val := fun hv => h (index_injective (Fin.ext hv))
  simp [setFault, State.fault, this]

/-- A notice writes NOTICE_OVERRUN alone, and that only at a full queue (R186). -/
theorem fault_offerNotice (s : State) (n : Notice) {f : FaultId} (h : f ≠ .noticeOverrun) :
    (offerNotice s n).fault f = s.fault f := by
  unfold offerNotice
  split
  · rfl
  · exact fault_setFault_ne s (Ne.symm h) _

theorem notices_offerNotice (s : State) (n : Notice) : s.port.notices <+: (offerNotice s n).port.notices := by
  unfold offerNotice
  split
  · exact List.prefix_append _ _
  · exact List.prefix_refl _

theorem mem_offerNotice (h : s.port.notices.length < 32) (n : Notice) : n ∈ (offerNotice s n).port.notices := by
  rw [offerNotice_room h]
  simp

/-! ### What every event but a reset keeps -/

/-- CFG_MISMATCH stands raised, its condition with it (R168). -/
def Mismatched (s : State) : Prop :=
  (s.fault .cfgMismatch).indication = true ∧ (s.fault .cfgMismatch).condition = true

/-- What every event of a state s₀ keeps, no counter moved but by reports of events in E. -/
structure Kept (E : List CounterEvent) (s₀ s : State) : Prop where
  config : s.config = s₀.config
  started : s₀.part.state ≠ .start → s.part.state ≠ .start
  aligned : s₀.loop.aligned = true → s.loop.aligned = true
  mismatch : Mismatched s₀ → Mismatched s
  counted : Counted E s₀.counters s.counters
  notices : s₀.port.notices <+: s.port.notices

variable {E : List CounterEvent} {s₀ s t : State}

theorem kept_refl (E : List CounterEvent) (s : State) : Kept E s s :=
  ⟨rfl, id, id, id, .none, List.prefix_refl _⟩

theorem kept_trans (h : Kept E s₀ s) (h' : Kept E s t) : Kept E s₀ t :=
  ⟨h'.config.trans h.config, h'.started ∘ h.started, h'.aligned ∘ h.aligned, h'.mismatch ∘ h.mismatch,
    h.counted.trans h'.counted, h.notices.trans h'.notices⟩

/-- An operation on blocks that `Kept` does not speak of. -/
theorem kept_frame (h : Kept E s₀ s) (same : t.config = s.config ∧ t.part = s.part ∧ t.loop = s.loop ∧
    t.counters = s.counters ∧ t.port = s.port) : Kept E s₀ t := by
  obtain ⟨h1, h2, h3, h4, h5, h6⟩ := h
  obtain ⟨config, part, loop, counters, port⟩ := same
  refine ⟨config.trans h1, fun hs => part ▸ h2 hs, fun ha => loop ▸ h3 ha, fun hm => ?_, counters ▸ h5, port ▸ h6⟩
  unfold Mismatched State.fault
  rw [part]
  exact h4 hm

/-- The participation unit replaced, in no state START, with CFG_MISMATCH as it was. -/
theorem kept_setPart (h : Kept E s₀ s) {x : FaultUnit} (hs : s.part.state ≠ .start → x.state ≠ .start)
    (hf : x.faults = s.part.faults) : Kept E s₀ (s.setPart x) :=
  ⟨h.config, hs ∘ h.started, h.aligned, fun hm => by
    have := h.mismatch hm
    unfold Mismatched State.fault at this ⊢
    rw [State.setPart_part, hf]
    exact this, h.counted, h.notices⟩

theorem kept_setLoop (h : Kept E s₀ s) {x : LoopTracker} (hx : s.loop.aligned = true → x.aligned = true) :
    Kept E s₀ (s.setLoop x) :=
  ⟨h.config, h.started, hx ∘ h.aligned, h.mismatch, h.counted, h.notices⟩

theorem kept_setFault (h : Kept E s₀ s) {f : FaultId} {e : FaultEntry} (hf : f = .cfgMismatch →
    (s.fault f).indication = true → (s.fault f).condition = true → e.indication = true ∧ e.condition = true) :
    Kept E s₀ (setFault s f e) := by
  refine ⟨h.config, h.started, h.aligned, fun hm => ?_, h.counted, h.notices⟩
  obtain ⟨hi, hc⟩ := h.mismatch hm
  unfold Mismatched
  by_cases hff : f = .cfgMismatch
  · subst hff
    rw [fault_setFault_self]
    exact hf rfl hi hc
  · rw [fault_setFault_ne s hff]
    exact ⟨hi, hc⟩

theorem kept_report (h : Kept E s₀ s) {e : CounterEvent} (he : e ∈ E) (i : Option Station) (p : Option PlaceId) :
    Kept E s₀ (report s e i p) :=
  ⟨h.config, h.started, h.aligned, h.mismatch, by rw [report_counters]; exact h.counted.one he i p, h.notices⟩

theorem kept_reportPlain (h : Kept E s₀ s) {e : CounterEvent} (he : e ∈ E) : Kept E s₀ (reportPlain s e) :=
  kept_report h he _ _

theorem kept_reportPlace (h : Kept E s₀ s) {e : CounterEvent} (he : e ∈ E) (p : PlaceId) :
    Kept E s₀ (reportPlace s e p) := kept_report h he _ _

theorem kept_reportTimes (h : Kept E s₀ s) {e : CounterEvent} (he : e ∈ E) (n : Nat) :
    Kept E s₀ (reportTimes s e n) := by
  induction n generalizing s with
  | zero => exact h
  | succ n ih => exact ih (kept_reportPlain h he)

theorem kept_foldl {α : Type} {f : State → α → State} (hf : ∀ u a, Kept E s₀ u → Kept E s₀ (f u a)) (l : List α)
    (h : Kept E s₀ s) : Kept E s₀ (l.foldl f s) := by
  induction l generalizing s with
  | nil => exact h
  | cons a l ih => exact ih (hf s a h)

/-! ### Operations on one block that `Kept` does not speak of -/

theorem kept_setTx (h : Kept E s₀ s) (q : List TxFrame) : Kept E s₀ (setTx s q) := kept_frame h (by simp)
theorem kept_modifyClaim (h : Kept E s₀ s) (k : Nat) (f : Claim → Claim) : Kept E s₀ (modifyClaim s k f) := kept_frame h (by simp)
theorem kept_markSearch (h : Kept E s₀ s) : Kept E s₀ (markSearch s) := kept_frame h (by simp)
theorem kept_leaveClaim (h : Kept E s₀ s) (c : Claim) : Kept E s₀ (leaveClaim s c) := kept_frame h (by simp)
theorem kept_dropClaim (h : Kept E s₀ s) (c : Claim) : Kept E s₀ (dropClaim s c) := kept_frame h (by simp)
theorem kept_addOrphan (h : Kept E s₀ s) (k : Nat) : Kept E s₀ (addOrphan s k) := kept_frame h (by simp)
theorem kept_setPlace (h : Kept E s₀ s) (p : PlaceId) (x : Place) : Kept E s₀ (setPlace s p x) := kept_frame h (by simp)
theorem kept_modifyLine (h : Kept E s₀ s) (t : Target) (f : Line → Line) : Kept E s₀ (modifyLine s t f) := kept_frame h (by simp)
theorem kept_leaveBuildOrder (h : Kept E s₀ s) (p : PlaceId) : Kept E s₀ (leaveBuildOrder s p) := kept_frame h (by simp)
theorem kept_setRecords (h : Kept E s₀ s) (rs : List StagingRecord) : Kept E s₀ (setRecords s rs) := kept_frame h (by simp)
theorem kept_makeRecord (h : Kept E s₀ s) (k : Nat) (c : CaseId) (t : Option Target) (st : RecordState) :
    Kept E s₀ (makeRecord s k c t st) := kept_frame h (by simp)
theorem kept_setFire (h : Kept E s₀ s) (f : Option Fire) : Kept E s₀ (setFire s f) := kept_frame h (by simp)
theorem kept_setOutput (h : Kept E s₀ s) (on : Bool) : Kept E s₀ (setOutput s on) := kept_frame h (by simp)
theorem kept_emptyView (h : Kept E s₀ s) : Kept E s₀ (emptyView s) := kept_frame h (by simp)

/-! ### Notices and faults -/

theorem kept_offerNotice (h : Kept E s₀ s) (n : Notice) : Kept E s₀ (offerNotice s n) := by
  have sent := notices_offerNotice s n
  unfold offerNotice at sent ⊢
  split
  · rename_i room
    rw [if_pos room] at sent
    exact ⟨h.config, h.started, h.aligned, h.mismatch, h.counted, h.notices.trans sent⟩
  · exact kept_setFault h nofun

theorem kept_recordFault (h : Kept E s₀ s) (f : FaultId) (d : Nat) : Kept E s₀ (recordFault s f d) :=
  kept_offerNotice (kept_setFault h (by rintro rfl _ _; exact ⟨rfl, rfl⟩)) _

theorem kept_endCondition (h : Kept E s₀ s) {f : FaultId} (hf : f ≠ .cfgMismatch) : Kept E s₀ (endCondition s f) :=
  kept_setFault h fun hc => absurd hc hf

/-! ### The transmit queue -/

/-- The events that the claim table and the transmit queue report on their own: a dropped ANNOUNCE (R70, R73), and a
claim that ends before its win decision (R124). -/
def claimEvents : List CounterEvent := [.announceDropped, .claimLost, .claimExpired]

theorem kept_offerFrame (hE : claimEvents ⊆ E) (h : Kept E s₀ s) (f : OutFrame) : Kept E s₀ (offerFrame s f) := by
  have dropped := kept_reportPlain h (hE (by decide : .announceDropped ∈ claimEvents))
  unfold offerFrame offerAnnounce offerOther
  split
  · split
    · exact dropped
    · exact kept_setTx h _
  · split
    · exact kept_setTx h _
    · split
      · exact kept_setTx dropped _
      · exact kept_setTx h _

theorem kept_withdrawAnnounces (hE : claimEvents ⊆ E) (h : Kept E s₀ s) (p : OutFrame → Bool) :
    Kept E s₀ (withdrawAnnounces s p) :=
  kept_reportTimes (kept_setTx h _) (hE (by decide)) _

theorem kept_offerWithdraw (hE : claimEvents ⊆ E) (h : Kept E s₀ s) (r : Nat) : Kept E s₀ (offerWithdraw s r) :=
  kept_offerFrame hE (kept_setTx h _) _

theorem kept_offerJoin (hE : claimEvents ⊆ E) (h : Kept E s₀ s) : Kept E s₀ (offerJoin s) :=
  kept_offerFrame hE (kept_setTx h _) _

theorem kept_offerReplyJoin (hE : claimEvents ⊆ E) (h : Kept E s₀ s) : Kept E s₀ (offerReplyJoin s) := by
  unfold offerReplyJoin
  split
  · exact h
  · exact kept_offerFrame hE h _

/-! ### The claim table -/

theorem kept_leaveWithEnd (hE : claimEvents ⊆ E) (h : Kept E s₀ s) (c : Claim) (e : PendingEnd) :
    Kept E s₀ (leaveWithEnd s c e) := by
  refine kept_leaveClaim ?_ c
  cases e
  · exact kept_reportPlace h (hE (by decide)) _
  · exact kept_reportPlace h (hE (by decide)) _
  · exact h
  · exact h

theorem kept_cancelTest (h : Kept E s₀ s) (p : PlaceId) : Kept E s₀ (cancelTest s p) := by
  unfold cancelTest
  split
  · exact kept_offerNotice (kept_setPlace h _ _) _
  · exact h

theorem kept_endUncommitted (hE : claimEvents ⊆ E) (h : Kept E s₀ s) (k : Nat) (e : PendingEnd) :
    Kept E s₀ (endUncommitted s k e) := by
  unfold endUncommitted
  split
  · exact h
  · dsimp only
    split
    · split
      · exact kept_leaveWithEnd hE (kept_setTx (kept_modifyClaim h _ _) _) _ _
      · exact kept_setTx (kept_modifyClaim h _ _) _
    · exact kept_modifyClaim h _ _
    all_goals exact h

theorem kept_endAndTest (hE : claimEvents ⊆ E) (h : Kept E s₀ s) (k : Nat) (e : PendingEnd) :
    Kept E s₀ (endAndTest s k e) := by
  unfold endAndTest
  split
  · exact h
  · exact kept_cancelTest (kept_endUncommitted hE h k e) _

theorem kept_cancelClaim (hE : claimEvents ⊆ E) (h : Kept E s₀ s) (k : Nat) : Kept E s₀ (cancelClaim s k) := by
  unfold cancelClaim
  split
  · exact h
  · split
    · exact kept_endUncommitted hE h _ _
    · exact kept_endUncommitted hE h _ _
    · exact kept_offerFrame hE (kept_leaveClaim h _) _
    all_goals exact h

theorem kept_cancelClaimsOf (hE : claimEvents ⊆ E) (h : Kept E s₀ s) (p : PlaceId) : Kept E s₀ (cancelClaimsOf s p) :=
  kept_foldl (fun _ _ h => kept_cancelClaim hE h _) _ h

theorem kept_withdrawClaim (hE : claimEvents ⊆ E) (h : Kept E s₀ s) (k : Nat) : Kept E s₀ (withdrawClaim s k) := by
  unfold withdrawClaim
  split
  · exact h
  · split
    · exact kept_endAndTest hE h _ _
    · exact kept_endAndTest hE h _ _
    · exact kept_cancelTest (kept_offerFrame hE (kept_leaveClaim h _) _) _
    all_goals exact h

theorem kept_withdrawClaims (hE : claimEvents ⊆ E) (h : Kept E s₀ s) : Kept E s₀ (withdrawClaims s) :=
  kept_foldl (fun _ _ h => kept_withdrawClaim hE h _) _ h

theorem kept_faultClaim (hE : claimEvents ⊆ E) (h : Kept E s₀ s) (k : Nat) : Kept E s₀ (faultClaim s k) := by
  unfold faultClaim
  split
  · exact h
  · refine kept_cancelTest ?_ _
    split
    · exact kept_setTx (kept_leaveClaim h _) _
    · exact kept_addOrphan (kept_leaveClaim h _) _
    all_goals exact kept_offerFrame hE (kept_leaveClaim h _) _

theorem kept_faultClaims (hE : claimEvents ⊆ E) (h : Kept E s₀ s) : Kept E s₀ (faultClaims s) :=
  kept_foldl (fun _ _ h => kept_faultClaim hE h _) _ h

theorem kept_searchSlot (hE : claimEvents ⊆ E) (h : Kept E s₀ s) (k : Nat) : Kept E s₀ (searchSlot s k) := by
  unfold searchSlot
  split
  · exact h
  · split
    · split
      · exact kept_offerFrame hE (kept_modifyLine (kept_frame h (by simp)) _ _) _
      · exact h
    · exact h

theorem kept_runSearch (hE : claimEvents ⊆ E) (h : Kept E s₀ s) : Kept E s₀ (runSearch s) := by
  unfold runSearch
  dsimp only
  split
  · exact kept_foldl (fun _ _ h => kept_searchSlot hE h _) _ (kept_frame h (by simp))
  · exact kept_frame h (by simp)

theorem kept_testClaim (hE : claimEvents ⊆ E) (h : Kept E s₀ s) (k : Nat) : Kept E s₀ (testClaim s k) := by
  unfold testClaim
  split
  · exact h
  · split
    · split
      · exact h
      · exact kept_endAndTest hE (kept_modifyClaim h _ _) _ _
    · split
      · exact h
      · exact kept_modifyClaim h _ _
    · split
      · exact kept_modifyClaim h _ _
      · exact h
    all_goals exact h

theorem kept_testClaims (hE : claimEvents ⊆ E) (h : Kept E s₀ s) : Kept E s₀ (testClaims s) :=
  kept_foldl (fun _ _ h => kept_testClaim hE h _) _ h

/-! ### Records and places -/

theorem kept_stageTaken (h : Kept E s₀ s) (c : Claim) (case : CaseId) : Kept E s₀ (stageTaken s c case) := by
  unfold stageTaken
  dsimp only
  split
  iterate 2 exact kept_offerNotice (kept_modifyLine (kept_makeRecord h _ _ _ _) _ _) _
  all_goals exact kept_offerNotice (kept_makeRecord h _ _ _ _) _

theorem kept_promoteRecords (h : Kept E s₀ s) (p : PlaceId) (t : Nat) : Kept E s₀ (promoteRecords s p t) :=
  kept_foldl (fun _ _ h => kept_offerNotice h _) _ (kept_setRecords h _)

theorem kept_orphanRecords (h : Kept E s₀ s) (p : PlaceId) : Kept E s₀ (orphanRecords s p) :=
  kept_foldl (fun _ _ h => kept_offerNotice h _) _ (kept_setPlace (kept_setRecords h _) _ _)

theorem kept_setWatch (h : Kept E s₀ s) (p : PlaceId) (w : Watch) : Kept E s₀ (setWatch s p w) := kept_setPart h id rfl

theorem kept_stopWatch (h : Kept E s₀ s) (p : PlaceId) : Kept E s₀ (stopWatch s p) := by
  unfold stopWatch
  split
  iterate 2 exact kept_setWatch h _ _
  all_goals exact h

theorem kept_tierTest (h : Kept E s₀ s) (p : PlaceId) : Kept E s₀ (tierTest s p) := by
  unfold tierTest
  split
  · split
    · split
      · exact kept_markSearch (kept_promoteRecords (kept_offerNotice (kept_setPlace h _ _) _) _ _)
      · exact kept_offerNotice (kept_stopWatch (kept_leaveBuildOrder (kept_setPlace h _ _) _) _) _
    · exact h
  · exact h

theorem kept_suspendPlace (hE : claimEvents ⊆ E) (h : Kept E s₀ s) (p : PlaceId) : Kept E s₀ (suspendPlace s p) := by
  unfold suspendPlace
  split
  · exact kept_setRecords (kept_cancelClaimsOf hE (kept_stopWatch (kept_setPlace h _ _) _) _) _
  · exact h

theorem kept_cancelPlace (hE : claimEvents ⊆ E) (h : Kept E s₀ s) (p : PlaceId) : Kept E s₀ (cancelPlace s p) :=
  kept_cancelTest (kept_orphanRecords (kept_cancelClaimsOf hE (kept_stopWatch (kept_leaveBuildOrder (kept_setPlace h _ _) _) _) _) _) _

/-! ### Fire and outcome -/

theorem kept_outcomeMissed (hE : claimEvents ⊆ E) (h : Kept E s₀ s) (k : Nat) : Kept E s₀ (outcomeMissed s k) := by
  unfold outcomeMissed
  split
  · exact kept_cancelTest (kept_offerFrame hE (kept_leaveClaim h _) _) _
  · exact h

theorem kept_closeMissed (hE : claimEvents ⊆ E) (hm : .missed ∈ E) (h : Kept E s₀ s) (f : Fire) :
    Kept E s₀ (closeMissed s f) :=
  kept_outcomeMissed hE (kept_offerNotice (kept_reportPlace (kept_setFire h _) hm _) _) _

theorem kept_confirmTaken (hE : claimEvents ⊆ E) (ht : .taken ∈ E) (h : Kept E s₀ s) (f : Fire) :
    Kept E s₀ (confirmTaken s f) := by
  unfold confirmTaken outcomeTaken
  split
  · exact kept_cancelTest (kept_offerFrame hE (kept_stageTaken (kept_dropClaim (kept_reportPlace (kept_setFire h _) ht _)
      _) _ _) _) _
  · exact kept_reportPlace (kept_setFire h _) ht _

theorem kept_closeEarlierFire (hE : claimEvents ⊆ E) (hm : .missed ∈ E) (h : Kept E s₀ s) :
    Kept E s₀ (closeEarlierFire s) := by
  unfold closeEarlierFire
  split
  · refine kept_setFire ?_ _
    split
    · exact kept_closeMissed hE hm h _
    · exact h
  · exact h

theorem kept_fireReached (hE : claimEvents ⊆ E) (hm : .missed ∈ E) (h : Kept E s₀ s) (r : Nat → Bool) :
    Kept E s₀ (fireReached s r) := by
  unfold fireReached
  split
  · split
    · exact kept_modifyClaim (kept_setFire (kept_setOutput (kept_closeEarlierFire hE hm h) _) _) _ _
    · exact h
  · exact h

/-! ### Withdrawal and faults -/

theorem kept_moveTo (h : Kept E s₀ s) {st : Participation} (hs : st ≠ .start) : Kept E s₀ (moveTo s st) := by
  unfold moveTo
  split
  · exact h
  · have moved : Kept E s₀ (s.setPart { s.part with state := st }) := kept_setPart h (fun _ => hs) rfl
    exact kept_offerNotice moved _

theorem kept_enterListening (hE : claimEvents ⊆ E) (h : Kept E s₀ s) : Kept E s₀ (enterListening s) := by
  have moved : Kept E s₀ (moveTo s .listening) := kept_moveTo h (by decide)
  exact kept_offerJoin hE (kept_setPart moved id rfl)

theorem kept_orderlyWithdraw (hE : claimEvents ⊆ E) (h : Kept E s₀ s) (r : Nat) : Kept E s₀ (orderlyWithdraw s r) := by
  unfold orderlyWithdraw
  split
  · exact kept_offerWithdraw hE h r
  · exact kept_withdrawAnnounces hE (kept_withdrawClaims hE (kept_offerWithdraw hE (kept_moveTo h (by decide)) r)) _

theorem kept_stopDivert (hm : .missed ∈ E) (h : Kept E s₀ s) : Kept E s₀ (stopDivert s) := by
  unfold stopDivert
  dsimp only
  split
  · split
    · exact kept_offerNotice (kept_reportPlace (kept_setFire (kept_setOutput h _) _) hm _) _
    · exact kept_setFire (kept_setOutput h _) _
  · exact kept_setOutput h _

theorem kept_immediateWithdraw (hE : claimEvents ⊆ E) (hm : .missed ∈ E) (h : Kept E s₀ s) (code : Nat) :
    Kept E s₀ (immediateWithdraw s code) :=
  kept_withdrawAnnounces hE (kept_emptyView (kept_faultClaims hE (kept_stopDivert hm
    (kept_offerWithdraw hE (kept_moveTo h (by decide)) code)))) _

theorem kept_raiseImmediate (hE : claimEvents ⊆ E) (hm : .missed ∈ E) (h : Kept E s₀ s) (f : FaultId) :
    Kept E s₀ (raiseImmediate s f) := kept_immediateWithdraw hE hm (kept_recordFault h f 0) _

theorem kept_raiseSlip (hE : claimEvents ⊆ E) (hm : .missed ∈ E) (h : Kept E s₀ s) (c : SlipCause) :
    Kept E s₀ (raiseSlip s c) := by
  have noted : Kept E s₀ (s.setPart { s.part with slipCause := some c }) := kept_setPart h id rfl
  have recorded := kept_recordFault noted .indexSlip c.code
  exact kept_immediateWithdraw hE hm recorded FaultId.indexSlip.code

theorem kept_watchdogViolation (hE : claimEvents ⊆ E) (h : Kept E s₀ s) : Kept E s₀ (watchdogViolation s) := by
  have recorded := kept_recordFault (kept_setPart h (x := { s.part with watchdog := .stopped, watchdogTimer := 0 }) id rfl)
    .watchdog 0
  unfold watchdogViolation
  dsimp only
  split
  · exact kept_orderlyWithdraw hE recorded _
  · exact recorded

theorem kept_raisePlaceNotReady (hE : claimEvents ⊆ E) (h : Kept E s₀ s) (p : PlaceId) :
    Kept E s₀ (raisePlaceNotReady s p) := by
  have recorded := kept_recordFault h (.placeNotReady p) p.val
  unfold raisePlaceNotReady
  dsimp only
  split
  · exact kept_suspendPlace hE recorded _
  · exact kept_orderlyWithdraw hE (kept_foldl (fun _ _ h => kept_suspendPlace hE h _) _ recorded) _

theorem kept_startWatch (hE : claimEvents ⊆ E) (h : Kept E s₀ s) (p : PlaceId) : Kept E s₀ (startWatch s p) := by
  unfold startWatch
  split
  · exact kept_setWatch h _ _
  · exact kept_raisePlaceNotReady hE h p
  · exact kept_raisePlaceNotReady hE h p
  all_goals exact h

theorem kept_resumePlace (hE : claimEvents ⊆ E) (h : Kept E s₀ s) (p : PlaceId) : Kept E s₀ (resumePlace s p) := by
  unfold resumePlace
  split
  · exact kept_markSearch (kept_startWatch hE (kept_promoteRecords (kept_setPlace h _ _) _ _) _)
  · exact h

end Sys2Proof.Laws
end

section
/-! SUPPORT. What every event but a reset keeps, continued: the belt, the hall line, the handling of frames, the timers
and the commands. -/

namespace Sys2Proof.Laws

open Sys2Proof Sys2Proof.Machine Sys2Proof.Safety

variable {E : List CounterEvent} {s₀ s t : State}

/-! ### The gate and the divert at a forward pulse -/

theorem kept_setGate (h : Kept E s₀ s) (x : GateUnit) : Kept E s₀ (s.setGate x) := kept_frame h (by simp)
theorem kept_setDivert (h : Kept E s₀ s) (x : DivertUnit) : Kept E s₀ (s.setDivert x) := kept_frame h (by simp)
theorem kept_setEdges (h : Kept E s₀ s) (es : List PendingEdge) : Kept E s₀ (setEdges s es) := kept_frame h (by simp)
theorem kept_setGateDeglitch (h : Kept E s₀ s) (d : GateDeglitch) : Kept E s₀ (setGateDeglitch s d) := kept_frame h (by simp)

theorem kept_ageEdges (hn : .noRead ∈ E) (h : Kept E s₀ s) : Kept E s₀ (ageEdges s) :=
  kept_reportTimes (kept_setEdges h _) hn _

theorem kept_acceptEdge (hn : .noRead ∈ E) (h : Kept E s₀ s) (c : Nat) : Kept E s₀ (acceptEdge s c) := by
  unfold acceptEdge
  dsimp only
  split
  · exact kept_setEdges h _
  · exact kept_reportPlain (kept_setEdges h _) hn

theorem kept_gatePulse (hn : .noRead ∈ E) (h : Kept E s₀ s) : Kept E s₀ (gatePulse s) := by
  have aged := kept_ageEdges hn h
  unfold gatePulse gateDeglitchPulse
  split
  · split
    · dsimp only
      split
      · exact kept_acceptEdge hn (kept_setGateDeglitch aged _) _
      · exact kept_setGateDeglitch aged _
    · exact kept_setGateDeglitch aged _
  · split <;> exact kept_setGateDeglitch aged _
  all_goals exact aged

/-- The events that a pulse at the Divert Unit reports (R134 to R136), with those of the claims that it ends. -/
def divertEvents : List CounterEvent := [.taken, .missed, .confirmStray] ++ claimEvents

theorem claimEvents_of_divert (hE : divertEvents ⊆ E) : claimEvents ⊆ E :=
  List.Subset.trans (by decide : claimEvents ⊆ divertEvents) hE

theorem kept_setConfirm (h : Kept E s₀ s) (d : ConfirmDeglitch) : Kept E s₀ (setConfirm s d) := kept_frame h (by simp)

theorem kept_judgeConfirm (hE : divertEvents ⊆ E) (h : Kept E s₀ s) : Kept E s₀ (judgeConfirm s) := by
  have stray := kept_reportPlain h (hE (by decide : .confirmStray ∈ divertEvents))
  unfold judgeConfirm
  split
  · split
    · exact kept_confirmTaken (claimEvents_of_divert hE) (hE (by decide)) h _
    · exact stray
  · exact stray

theorem kept_confirmPulse (hE : divertEvents ⊆ E) (h : Kept E s₀ s) : Kept E s₀ (confirmPulse s) := by
  unfold confirmPulse
  split
  · split
    · exact kept_judgeConfirm hE (kept_setConfirm h _)
    · exact kept_setConfirm h _
  · split <;> exact kept_setConfirm h _
  all_goals exact h

theorem kept_endWindow (hE : divertEvents ⊆ E) (h : Kept E s₀ s) : Kept E s₀ (endWindow s) := by
  unfold endWindow
  split
  · split
    · split
      · exact kept_closeMissed (claimEvents_of_divert hE) (hE (by decide)) h _
      · exact h
    · exact h
  · exact h

theorem kept_fireCountsPulse (h : Kept E s₀ s) : Kept E s₀ (fireCountsPulse s) := kept_frame h (by simp)
theorem kept_endDwell (h : Kept E s₀ s) : Kept E s₀ (endDwell s) := kept_frame h (by simp)
theorem kept_discardFire (h : Kept E s₀ s) : Kept E s₀ (discardFire s) := kept_frame h (by simp)

theorem kept_divertPulse (hE : divertEvents ⊆ E) (h : Kept E s₀ s) : Kept E s₀ (divertPulse s) :=
  kept_discardFire (kept_endWindow hE (kept_endDwell (kept_confirmPulse hE (kept_fireCountsPulse h))))

/-! ### The loop -/

theorem kept_noteTravel (h : Kept E s₀ s) : Kept E s₀ (noteTravel s) := by
  unfold noteTravel
  dsimp only
  split
  · exact kept_setLoop h id
  · have noted : Kept E s₀ (s.setLoop { s.loop with running := true, stopTimer := some 0 }) := kept_setLoop h id
    exact kept_offerNotice noted _

theorem kept_countPulse (h : Kept E s₀ s) : Kept E s₀ (countPulse s) := kept_setLoop h id
theorem kept_realign (h : Kept E s₀ s) : Kept E s₀ (realign s) := kept_setLoop h id

theorem kept_checkMissing (hE : claimEvents ⊆ E) (hm : .missed ∈ E) (h : Kept E s₀ s) : Kept E s₀ (checkMissing s) := by
  have noted : Kept E s₀ (s.setLoop { s.loop with markAwaited := false }) := kept_setLoop h id
  unfold checkMissing
  split
  · exact kept_raiseSlip hE hm noted _
  · exact h

theorem kept_lapEdges (h : Kept E s₀ s) (k : Nat) : Kept E s₀ (lapEdges s k) := kept_frame h (by simp)

theorem kept_setViewEntry (h : Kept E s₀ s) (k : Nat) (e : ViewEntry) : Kept E s₀ (setViewEntry s k e) := kept_frame h (by simp)

theorem kept_inductionPassage (hE : claimEvents ⊆ E) (h : Kept E s₀ s) (k : Nat) : Kept E s₀ (inductionPassage s k) :=
  kept_withdrawAnnounces hE (kept_lapEdges (kept_setViewEntry h _ _) k) _

theorem kept_passSlot (hE : claimEvents ⊆ E) (h : Kept E s₀ s) : Kept E s₀ (passSlot s) := by
  unfold passSlot
  split
  · exact kept_inductionPassage hE h _
  · exact h

/-- The tests and the fire at a position reached, whatever the gate and the divert did before them. -/
theorem kept_testsAndFire (hE : claimEvents ⊆ E) (hm : .missed ∈ E) (h : Kept E s₀ s) (r : Nat → Bool) :
    Kept E s₀ (fireReached (if s.loop.aligned then testClaims s else s) r) := by
  refine kept_fireReached hE hm ?_ _
  split
  · exact kept_testClaims hE h
  · exact h

theorem kept_reachPosition (hE : divertEvents ⊆ E) (hn : .noRead ∈ E) (h : Kept E s₀ s) :
    Kept E s₀ (reachPosition s) :=
  kept_testsAndFire (claimEvents_of_divert hE) (hE (by decide)) (kept_divertPulse hE (kept_gatePulse hn h)) _

/-- A forward pulse up to its sample. -/
def pulseEffects (s : State) : State := runSearch (passSlot (reachPosition (checkMissing (countPulse (noteTravel s)))))

theorem kept_pulseEffects (hE : divertEvents ⊆ E) (hn : .noRead ∈ E) (h : Kept E s₀ s) : Kept E s₀ (pulseEffects s) := by
  have hc := claimEvents_of_divert hE
  exact kept_runSearch hc (kept_passSlot hc (kept_reachPosition hE hn (kept_checkMissing hc (hE (by decide))
    (kept_countPulse (kept_noteTravel h)))))

theorem kept_reversePulse (hE : claimEvents ⊆ E) (hm : .missed ∈ E) (h : Kept E s₀ s) : Kept E s₀ (reversePulse s) := by
  have travelled := kept_noteTravel h
  unfold reversePulse
  split
  · dsimp only
    split
    · exact kept_setLoop travelled id
    · have zeroed : Kept E s₀ ((noteTravel s).setLoop { (noteTravel s).loop with reverseTally := 0 }) :=
        kept_setLoop travelled id
      exact kept_runSearch hE (kept_raiseImmediate hE hm zeroed .loopReverse)
  · exact h

theorem kept_acceptMark (h : Kept E s₀ s) : Kept E s₀ (acceptMark s) := by
  have counted : Kept E s₀ (s.setPart { s.part with listeningMarks := s.part.listeningMarks + 1 }) := kept_setPart h id rfl
  unfold acceptMark
  split
  · dsimp only
    split
    · exact kept_markSearch (kept_moveTo counted (by decide))
    · exact counted
  · exact h

theorem kept_sweepPosition (hE : claimEvents ⊆ E) (h : Kept E s₀ s) : Kept E s₀ (sweepPosition s) :=
  kept_testClaims hE (kept_setLoop h id)

theorem kept_forwardRealignment (hE : claimEvents ⊆ E) (hm : .missed ∈ E) (h : Kept E s₀ s) :
    Kept E s₀ (forwardRealignment s) :=
  kept_inductionPassage hE (kept_realign (kept_foldl (fun _ _ h => kept_sweepPosition hE h) _
    (kept_fireReached hE hm h _))) 0

theorem kept_slip (hE : claimEvents ⊆ E) (hm : .missed ∈ E) (h : Kept E s₀ s) : Kept E s₀ (slip s) :=
  kept_realign (kept_raiseSlip hE hm h _)

/-! ### The rows of the belt -/

/-- R189: the events that a row can report. -/
def rowEvents : List CounterEvent :=
  [.announceHeard, .announceSent, .announceDropped, .claimSent, .claimWon, .claimLost, .claimExpired, .releaseSent, .taken,
    .missed, .frameRefusedByMe, .frameRepeated, .noRead, .scanStray, .confirmStray, .stranger, .unknownKind]

theorem rows_claimEvents : claimEvents ⊆ rowEvents := by decide
theorem rows_divertEvents : divertEvents ⊆ rowEvents := by decide
theorem rows_missed : .missed ∈ rowEvents := by decide

/-- What a row keeps of the state it is given. -/
abbrev KeptByRow (s₀ s : State) : Prop := Kept rowEvents s₀ s

theorem kept_takeReport (h : KeptByRow s₀ s) (chars : List ScanChar) : KeptByRow s₀ (takeReport s chars) := by
  unfold takeReport
  split
  · exact kept_reportPlain h (by decide)
  · split
    · unfold resolveEdge
      split
      · exact kept_offerFrame rows_claimEvents (kept_setEdges h _) _
      · exact kept_setEdges h _
    · exact kept_reportPlain (kept_setEdges h _) (by decide)

theorem kept_takeCharacter (h : KeptByRow s₀ s) (c : ScanChar) : KeptByRow s₀ (takeCharacter s c) := by
  unfold takeCharacter
  dsimp only
  split
  · exact kept_frame h (by simp)
  · exact kept_takeReport (kept_frame h (by simp)) _

theorem kept_endReport (h : KeptByRow s₀ s) : KeptByRow s₀ (endReport s) := kept_takeReport (kept_frame h (by simp)) _

theorem kept_gateRise (h : Kept E s₀ s) : Kept E s₀ (gateRise s) := by
  have level : Kept E s₀ (s.setPins { s.pins with gateEye := true }) := kept_frame h (by simp)
  unfold gateRise
  dsimp only
  split
  · split
    iterate 2 exact kept_setGateDeglitch level _
    all_goals exact level
  · exact level

theorem kept_gateFall (h : Kept E s₀ s) : Kept E s₀ (gateFall s) := by
  have level : Kept E s₀ (s.setPins { s.pins with gateEye := false }) := kept_frame h (by simp)
  unfold gateFall
  dsimp only
  split
  · split
    iterate 2 exact kept_setGateDeglitch level _
    all_goals exact level
  · exact level

theorem kept_endJam (h : KeptByRow s₀ s) : KeptByRow s₀ (endJam s) := by
  unfold endJam
  split
  · exact kept_endCondition (kept_frame h (by simp)) (by decide)
  · exact h

theorem kept_confirmFall (h : KeptByRow s₀ s) : KeptByRow s₀ (confirmFall s) := by
  have lower : KeptByRow s₀ (s.setPins { s.pins with confirmEye := false }) := kept_frame h (by simp)
  unfold confirmFall
  dsimp only
  split
  · have ended := kept_endJam (kept_frame (t := (s.setPins { s.pins with confirmEye := false }).setDivert
      { s.divert with jamTimer := none }) lower (by simp))
    split
    · exact kept_setConfirm ended _
    · exact kept_setConfirm ended _
    all_goals exact ended
  · exact lower

/-! ### The hall line -/

theorem kept_setLine (h : Kept E s₀ s) (x : HallLine) : Kept E s₀ (s.setLine x) := kept_frame h (by simp)
theorem kept_setAttempt (h : Kept E s₀ s) (a : Option Attempt) : Kept E s₀ (setAttempt s a) := kept_setLine h _
theorem kept_timeLevels (h : Kept E s₀ s) (l : List Bool) : Kept E s₀ (timeLevels s l) := kept_setLine h _
theorem kept_setLineState (h : Kept E s₀ s) (st : LineState) (n : Nat) : Kept E s₀ (setLineState s st n) := kept_setLine h _
theorem kept_setAnswer (h : Kept E s₀ s) (a : EndSlotAnswer) : Kept E s₀ (setAnswer s a) := kept_setLine h _
theorem kept_retireFrame (h : Kept E s₀ s) : Kept E s₀ (retireFrame s) := kept_setLine (kept_setTx h _) _
theorem kept_afterFrame (h : Kept E s₀ s) : Kept E s₀ (afterFrame s) := kept_setLine h _

theorem kept_claimBeginsSend (h : Kept E s₀ s) (t : TxFrame) : Kept E s₀ (claimBeginsSend s t) := kept_frame h (by simp)

theorem kept_beginSend (h : KeptByRow s₀ s) (t : TxFrame) : KeptByRow s₀ (beginSend s t) := by
  unfold beginSend
  split
  · exact kept_report (kept_setLine h _) (by decide) _ _
  · exact kept_claimBeginsSend (kept_setLine (kept_setTx h _) _) _

theorem kept_loseAttempt (h : KeptByRow s₀ s) (t : TxFrame) : KeptByRow s₀ (loseAttempt s t) := by
  have gone : KeptByRow s₀ (removeInAttempt s) := kept_setTx h _
  unfold loseAttempt
  split
  · unfold tellWithdrawn
    split
    · exact kept_reportPlain gone (by decide)
    · split
      · exact gone
      · split
        · exact kept_cancelTest (kept_leaveWithEnd rows_claimEvents gone _ _) _
        · exact gone
    · exact gone
  · exact kept_setTx h _

theorem kept_arbitrationEnd (h : KeptByRow s₀ s) (read : List Byte) : KeptByRow s₀ (arbitrationEnd s read) := by
  unfold arbitrationEnd
  split
  · dsimp only
    split
    · exact h
    · split
      · exact kept_runSearch rows_claimEvents (kept_loseAttempt (kept_setAttempt (kept_timeLevels h _) _) _)
      · exact kept_setAttempt (kept_beginSend (kept_timeLevels h _) _) _
  · exact h

theorem kept_judgeOwn (h : KeptByRow s₀ s) (a : Attempt) (b : Bool) : KeptByRow s₀ (judgeOwn s a b) := by
  unfold judgeOwn
  dsimp only
  split
  · exact kept_report (kept_setAttempt h _) (by decide) _ _
  · exact kept_setAttempt h _

theorem kept_receiveBroken (h : KeptByRow s₀ s) : KeptByRow s₀ (receiveBroken s) := by
  have refused : KeptByRow s₀ (reportPlain (setAnswer (setLineState s .carrying 0) .refuse) .frameRefusedByMe) :=
    kept_reportPlain (kept_setAnswer (kept_setLineState h _ _) _) (by decide)
  unfold receiveBroken countCheckError
  dsimp only
  split
  · exact kept_setLine refused _
  · exact kept_raiseImmediate rows_claimEvents rows_missed (kept_setLine refused _) _

theorem kept_receiveHeard (h : KeptByRow s₀ s) (bytes : List Byte) (e : Bool) : KeptByRow s₀ (receiveHeard s bytes e) := by
  unfold receiveHeard
  split
  · unfold receiveWhole
    dsimp only
    split
    · exact kept_setAnswer (kept_setLine (kept_setLine (kept_setLineState h _ _) _) _) _
    · exact kept_report (kept_setAnswer (kept_setLine (kept_setLineState h _ _) _) _) (by decide) _ _
  · exact kept_receiveBroken h

theorem kept_frameReceived (h : KeptByRow s₀ s) (bytes : List Byte) (e : Bool) :
    KeptByRow s₀ (frameReceived s bytes e) := by
  unfold frameReceived
  repeat' split
  · exact h
  · exact h
  iterate 2
    · exact kept_judgeOwn (kept_timeLevels h _) _ _
    · exact h
    · exact kept_runSearch rows_claimEvents (kept_receiveHeard (kept_timeLevels h _) _ _)
    · exact h

theorem kept_countSent (h : KeptByRow s₀ s) (f : OutFrame) : KeptByRow s₀ (countSent s f) := by
  unfold countSent
  split
  · exact kept_reportPlain h (by decide)
  · exact kept_reportPlace h (by decide) _
  · exact kept_reportPlain h (by decide)
  all_goals exact h

theorem kept_enterOwnFrame (h : Kept E s₀ s) (f : Frame) : Kept E s₀ (enterOwnFrame s f) := kept_frame h (by simp)
theorem kept_freeFramePlace (h : Kept E s₀ s) (f : OutFrame) : Kept E s₀ (freeFramePlace s f) := kept_frame h (by simp)

theorem kept_sendOutcome (h : KeptByRow s₀ s) (t : TxFrame) (f : Frame) (r : Bool) :
    KeptByRow s₀ (sendOutcome s t f r) := by
  unfold sendOutcome
  split
  · split
    · exact kept_freeFramePlace (kept_enterOwnFrame (kept_countSent (kept_recordFault (kept_retireFrame h) _ _) _) _) _
    · exact kept_setTx h _
  · exact kept_freeFramePlace (kept_enterOwnFrame (kept_countSent (kept_retireFrame h) _) _) _

theorem kept_judged (h : KeptByRow s₀ s) (a : Attempt) : KeptByRow s₀ (judged s a) := by
  unfold judged
  split
  · exact kept_judgeOwn h _ _
  · exact h

theorem kept_frameEnd (h : KeptByRow s₀ s) (a r : Bool) : KeptByRow s₀ (frameEnd s a r) := by
  unfold frameEnd
  dsimp only
  split
  iterate 3 exact h
  split
  · split
    · unfold endOwnSend
      dsimp only
      split
      · exact kept_runSearch rows_claimEvents (kept_afterFrame (kept_sendOutcome (kept_judged (kept_timeLevels h _) _)
          _ _ _))
      · exact kept_afterFrame (kept_judged (kept_timeLevels h _) _)
    · exact h
  · exact kept_afterFrame (kept_timeLevels h _)

theorem kept_settleHeard (h : KeptByRow s₀ s) : KeptByRow s₀ (settleHeard s) := by
  unfold settleHeard
  split
  · exact kept_receiveBroken h
  · exact h

theorem kept_settleFrame (h : KeptByRow s₀ s) : KeptByRow s₀ (settleFrame s) := by
  unfold settleFrame
  split
  iterate 2 exact h
  all_goals
    split
    · split
      · refine kept_afterFrame (kept_sendOutcome ?_ _ _ _)
        split
        · exact kept_judgeOwn h _ _
        · exact h
      · exact kept_afterFrame (kept_settleHeard (kept_loseAttempt (kept_setAttempt h _) _))
    · exact kept_afterFrame (kept_settleHeard h)

theorem kept_stickLine (h : KeptByRow s₀ s) : KeptByRow s₀ (stickLine s) :=
  kept_recordFault (kept_setLine (kept_settleFrame h) _) _ _

theorem kept_lineStuckEnd (h : KeptByRow s₀ s) : KeptByRow s₀ (lineStuckEnd s) := by
  unfold lineStuckEnd
  split
  · exact kept_endCondition (kept_setLine h _) (by decide)
  · exact h

/-! ### The handling of a frame -/

theorem kept_lossCause (h : KeptByRow s₀ s) (k : Nat) : KeptByRow s₀ (lossCause s k) :=
  kept_endAndTest rows_claimEvents h k _

theorem kept_othersTaken (h : KeptByRow s₀ s) (k : Nat) : KeptByRow s₀ (othersTaken s k) := by
  unfold othersTaken
  split
  · exact h
  · split
    iterate 2 exact kept_lossCause h k
    · exact kept_cancelTest (kept_leaveWithEnd rows_claimEvents h _ _) _
    all_goals exact h

theorem kept_disputeClaim (h : KeptByRow s₀ s) (k : Nat) : KeptByRow s₀ (disputeClaim s k) := by
  unfold disputeClaim
  split
  · exact h
  · split
    iterate 2 exact kept_lossCause h k
    · exact kept_cancelTest (kept_leaveClaim h _) _
    all_goals exact kept_modifyClaim h _ _

theorem kept_orphanHandled (h : KeptByRow s₀ s) (k : Nat) (b : ViewEntry) : KeptByRow s₀ (orphanHandled s k b) := by
  have freed : KeptByRow s₀ (s.setContest { s.contest with orphans := s.contest.orphans.erase k }) := kept_frame h (by simp)
  unfold orphanHandled
  dsimp only
  split
  iterate 2 exact kept_offerFrame rows_claimEvents freed _
  all_goals exact freed

theorem kept_loseClaim (h : KeptByRow s₀ s) (c : Claim) : KeptByRow s₀ (loseClaim s c) := by
  unfold loseClaim
  split
  all_goals exact kept_leaveWithEnd rows_claimEvents h _ _

theorem kept_winAndRelease (h : KeptByRow s₀ s) (c : Claim) (r : ReleaseReason) : KeptByRow s₀ (winAndRelease s c r) :=
  kept_offerFrame rows_claimEvents (kept_leaveClaim (kept_reportPlace h (by decide) _) _) _

theorem kept_winClaim (h : KeptByRow s₀ s) (c : Claim) (b : ViewEntry) : KeptByRow s₀ (winClaim s c b) := by
  unfold winClaim
  split
  · split
    · exact kept_leaveWithEnd rows_claimEvents h _ _
    all_goals exact kept_offerFrame rows_claimEvents (kept_leaveWithEnd rows_claimEvents h _ _) _
  iterate 3 exact kept_winAndRelease h _ _
  split
  · exact kept_winAndRelease h _ _
  · exact kept_modifyClaim (kept_reportPlace h (by decide) _) _ _

theorem kept_ite {p : Prop} [Decidable p] {t u : State} (ht : Kept E s₀ t) (hu : Kept E s₀ u) :
    Kept E s₀ (if p then t else u) := by
  split
  · exact ht
  · exact hu

theorem kept_ownClaimHandled (h : KeptByRow s₀ s) (k : Nat) (b : ViewEntry) : KeptByRow s₀ (ownClaimHandled s k b) := by
  unfold ownClaimHandled
  split
  · exact kept_orphanHandled h _ _
  · split
    · split
      · exact kept_cancelTest (kept_ite (kept_loseClaim h _) (kept_winClaim h _ _)) _
      · exact h
    · exact h

theorem kept_retestAnnounces (h : KeptByRow s₀ s) (k : Nat) (b : ViewEntry) : KeptByRow s₀ (retestAnnounces s k b) := by
  unfold retestAnnounces
  split
  · exact h
  · exact kept_withdrawAnnounces rows_claimEvents h _

theorem kept_markIfFreed (h : KeptByRow s₀ s) (k : Nat) (b : ViewEntry) : KeptByRow s₀ (markIfFreed s k b) := by
  unfold markIfFreed
  split
  · exact kept_markSearch h
  · exact h

theorem kept_applyAnnounce (h : KeptByRow s₀ s) (k : Nat) (i : Station) (c : CaseId) :
    KeptByRow s₀ (applyAnnounce s k i c) := by
  unfold applyAnnounce
  refine kept_retestAnnounces (kept_markIfFreed ?_ _ _) _ _
  split
  · exact kept_disputeClaim (kept_setViewEntry h _ _) _
  · exact kept_setViewEntry h _ _

theorem kept_applyClaim (h : KeptByRow s₀ s) (own : Bool) (k : Nat) (i : Station) (p : PlaceId) :
    KeptByRow s₀ (applyClaim s own k i p) := by
  have seen : KeptByRow s₀ (setViewEntry s k (viewClaim (s.viewAt k) i p)) := kept_setViewEntry h _ _
  unfold applyClaim
  refine kept_retestAnnounces ?_ _ _
  split
  · exact kept_ownClaimHandled seen _ _
  · split
    · split
      · exact kept_lossCause seen _
      · exact seen
    · exact seen

theorem kept_applyRelease (h : KeptByRow s₀ s) (k : Nat) (i : Station) : KeptByRow s₀ (applyRelease s k i) :=
  kept_retestAnnounces (kept_markIfFreed (kept_setViewEntry h _ _) _ _) _ _

theorem kept_applyTaken (h : KeptByRow s₀ s) (own : Bool) (k : Nat) : KeptByRow s₀ (applyTaken s own k) := by
  unfold applyTaken
  refine kept_retestAnnounces ?_ _ _
  split
  · exact kept_setViewEntry h _ _
  · exact kept_othersTaken (kept_setViewEntry h _ _) _

theorem kept_applyFrame (h : KeptByRow s₀ s) (own : Bool) (f : Frame) : KeptByRow s₀ (applyFrame s own f) := by
  unfold applyFrame
  split
  · exact kept_applyTaken h _ _
  · exact kept_applyRelease h _ _
  · exact kept_applyRelease h _ _
  · exact kept_applyClaim h _ _ _ _
  · split
    · exact kept_applyAnnounce h _ _ _
    · exact h
  all_goals exact h

theorem kept_applyJoin (h : KeptByRow s₀ s) (b : RosterEntry) (d : Nat) : KeptByRow s₀ (applyJoin s b d) := by
  unfold applyJoin
  split
  · exact h
  · split
    · exact kept_orderlyWithdraw rows_claimEvents (kept_recordFault h _ _) _
    · split
      · exact h
      · split
        · exact h
        · exact kept_offerReplyJoin rows_claimEvents h

theorem kept_updateRoster (h : Kept E s₀ s) (f : Frame) : Kept E s₀ (updateRoster s f) := kept_setPart h id rfl

theorem kept_dispatchFrame (h : KeptByRow s₀ s) (own : Bool) (f : Frame) : KeptByRow s₀ (dispatchFrame s own f) := by
  have heard : KeptByRow s₀ (reportAnnounce s f) := by
    unfold reportAnnounce
    split
    · exact kept_report h (by decide) _ _
    · exact h
  have known := kept_updateRoster heard f
  unfold dispatchFrame
  dsimp only
  split
  · exact kept_applyJoin known _ _
  · split
    · exact known
    · exact kept_applyFrame known _ _

theorem kept_handleFrame (h : KeptByRow s₀ s) (r : RxFrame) : KeptByRow s₀ (handleFrame s r) := by
  unfold handleFrame
  split
  · exact kept_report h (by decide) _ _
  · split
    · exact kept_report h (by decide) _ _
    · split
      · exact kept_report h (by decide) _ _
      · split
        · exact h
        · exact kept_dispatchFrame h _ _

theorem kept_enterHeld (h : Kept E s₀ s) : Kept E s₀ (enterHeld s) := by
  unfold enterHeld
  split
  · split
    · exact kept_setLine h _
    · exact h
  · exact h

theorem kept_frameHandled (h : KeptByRow s₀ s) : KeptByRow s₀ (frameHandled s) := by
  unfold frameHandled
  split
  · exact kept_runSearch rows_claimEvents (kept_handleFrame (kept_enterHeld (kept_setLine h _)) _)
  · exact h

/-! ### Intervals -/

theorem kept_elapse (h : Kept E s₀ s) (ms : Nat) : Kept E s₀ (elapse s ms) := by
  have timed : Kept E s₀ (s.setLoop { s.loop with stopTimer := s.loop.stopTimer.map (advance s.timing.stopTime ms) }) :=
    kept_setLoop h id
  unfold elapse
  dsimp only
  split
  · exact kept_setPart (kept_setLine (kept_setDivert timed _) _) id rfl
  · exact kept_setPart (kept_setLine (kept_setDivert (kept_setGate timed _) _) _) id rfl

theorem kept_stopLoop (h : Kept E s₀ s) : Kept E s₀ (stopLoop s) := by
  have stopped : Kept E s₀ (s.setLoop { s.loop with running := false, stopTimer := none }) := kept_setLoop h id
  exact kept_offerNotice stopped _

theorem kept_jamDivert (h : KeptByRow s₀ s) : KeptByRow s₀ (jamDivert s) :=
  kept_raiseImmediate rows_claimEvents rows_missed (kept_frame h (by simp)) _

theorem kept_placeTimerEnd (h : KeptByRow s₀ s) (p : PlaceId) : KeptByRow s₀ (placeTimerEnd s p) := by
  unfold placeTimerEnd
  split
  · exact kept_raisePlaceNotReady rows_claimEvents (kept_setWatch h _ _) _
  · have ended := kept_setWatch (kept_endCondition h (f := .placeNotReady p) nofun) p
      ⟨if s.building p then .ready else .unwatched, 0⟩
    unfold endPlaceCondition
    dsimp only
    split
    · exact kept_resumePlace rows_claimEvents ended _
    · exact ended
  all_goals exact h

theorem kept_loopStopped (h : KeptByRow s₀ s) : KeptByRow s₀ (loopStopped s) := by
  unfold loopStopped
  split
  · exact kept_stopLoop (kept_elapse h _)
  · exact h

theorem kept_reportGapTimeout (h : KeptByRow s₀ s) : KeptByRow s₀ (reportGapTimeout s) := by
  unfold reportGapTimeout
  split
  · exact h
  · exact kept_endReport (kept_elapse h _)

theorem kept_divertJam (h : KeptByRow s₀ s) : KeptByRow s₀ (divertJam s) := by
  unfold divertJam
  split
  · exact kept_runSearch rows_claimEvents (kept_jamDivert (kept_elapse h _))
  · exact h

theorem kept_lineStuck (h : KeptByRow s₀ s) : KeptByRow s₀ (lineStuck s) := by
  unfold lineStuck
  split
  · exact kept_runSearch rows_claimEvents (kept_stickLine (kept_elapse h _))
  · exact h

theorem kept_placeReadyTimer (h : KeptByRow s₀ s) (p : PlaceId) : KeptByRow s₀ (placeReadyTimer s p) := by
  unfold placeReadyTimer
  split
  · exact kept_runSearch rows_claimEvents (kept_placeTimerEnd (kept_elapse h _) _)
  · exact h

theorem kept_watchdogExpiry (h : KeptByRow s₀ s) : KeptByRow s₀ (watchdogExpiry s) := by
  unfold watchdogExpiry
  split
  · exact kept_runSearch rows_claimEvents (kept_watchdogViolation rows_claimEvents (kept_elapse h _))
  · exact h

theorem kept_placeReadyRise (h : KeptByRow s₀ s) (p : PlaceId) : KeptByRow s₀ (placeReadyRise s p) := by
  have level : KeptByRow s₀ (setPlaceReady s p true) := kept_frame h (by simp)
  unfold placeReadyRise
  dsimp only
  split
  iterate 2 exact kept_setWatch level _ _
  all_goals exact level

theorem kept_placeReadyFall (h : KeptByRow s₀ s) (p : PlaceId) : KeptByRow s₀ (placeReadyFall s p) := by
  have level : KeptByRow s₀ (setPlaceReady s p false) := kept_frame h (by simp)
  unfold placeReadyFall
  dsimp only
  split
  iterate 2 exact kept_setWatch level _ _
  all_goals exact level

/-! ### Commands of the cell port -/

theorem kept_setPort (h : Kept E s₀ s) {x : CellPort} (hx : x.notices = s.port.notices) :
    Kept E s₀ (s.setPort x) :=
  ⟨h.config, h.started, h.aligned, h.mismatch, h.counted, by rw [State.setPort_port, hx]; exact h.notices⟩

theorem kept_respond (h : Kept E s₀ s) (r : Result) (d : BitVec 88) : Kept E s₀ (respond s r d) := kept_setPort h rfl
theorem kept_answer (h : Kept E s₀ s) (r : Result) : Kept E s₀ (answer s r) := kept_setPort h rfl

theorem kept_keepalive (h : KeptByRow s₀ s) : KeptByRow s₀ (keepalive s) := by
  unfold keepalive
  split
  · split
    · exact kept_setPart h id rfl
    · exact kept_runSearch rows_claimEvents (kept_watchdogViolation rows_claimEvents h)
  · exact h

/-- R175: an entry whose condition stands keeps its indication, and no condition ends. -/
theorem kept_clearRecord (h : Kept E s₀ s) : Kept E s₀ (clearRecord s) := by
  refine kept_foldl (fun u f hu => kept_setFault hu fun _ hi hc => ?_) _ h
  simp [FaultEntry.cleared, hi, hc]

theorem kept_resumeCleared (h : KeptByRow s₀ s) (f : FaultId) : KeptByRow s₀ (resumeCleared s f) := by
  unfold resumeCleared
  split
  · exact kept_resumePlace rows_claimEvents h _
  · exact h

theorem kept_clearFaults (h : KeptByRow s₀ s) : KeptByRow s₀ (clearFaults s) := by
  have cleared := kept_clearRecord h
  refine kept_runSearch rows_claimEvents ?_
  unfold clearEffects
  split
  · split
    · exact kept_foldl (fun _ _ h => kept_resumeCleared h _) _ cleared
    · exact cleared
  · split
    · exact kept_foldl (fun _ _ h => kept_resumePlace rows_claimEvents h _) _ cleared
    · exact cleared

theorem kept_showEntry (h : Kept E s₀ s) (f : FaultId) : Kept E s₀ (showEntry s f) :=
  kept_setFault h fun _ hi hc => ⟨hi, hc⟩

theorem kept_showFaults (h : Kept E s₀ s) : Kept E s₀ (showFaults s) := kept_foldl (fun _ f hu => kept_showEntry hu f) _ h

theorem kept_setPlans (h : Kept E s₀ s) (x : PlanStore) : Kept E s₀ (s.setPlans x) := kept_frame h (by simp)

theorem kept_afterGo (h : KeptByRow s₀ s) {r : State} (hr : KeptByRow s₀ r) : KeptByRow s₀ (afterGo s r) := by
  unfold afterGo
  split
  · exact kept_answer h _
  · exact hr

theorem kept_openPlanChecked (h : KeptByRow s₀ s) (p : Nat) (r : BitVec 32) (n : Nat) :
    KeptByRow s₀ (openPlanChecked s p r n) := by
  unfold openPlanChecked
  repeat' split
  iterate 4 exact kept_answer h _
  exact kept_answer (kept_setPlans (kept_setPlace h _ _) _) _

theorem kept_addLineChecked (h : KeptByRow s₀ s) (t a f q : Nat) : KeptByRow s₀ (addLineChecked s t a f q) := by
  unfold addLineChecked
  repeat' split
  iterate 4 exact kept_answer h _
  exact kept_answer (kept_setPlace h _ _) _

theorem kept_commitPlanChecked (h : KeptByRow s₀ s) : KeptByRow s₀ (commitPlanChecked s) := by
  unfold commitPlanChecked
  repeat' split
  · exact kept_answer h _
  · exact kept_respond h _ _
  · exact kept_answer (kept_runSearch rows_claimEvents (kept_markSearch (kept_startWatch rows_claimEvents
      (kept_setPlans (kept_setPlace h _ _) _) _))) _

theorem kept_abandonPlanChecked (h : KeptByRow s₀ s) : KeptByRow s₀ (abandonPlanChecked s) := by
  unfold abandonPlanChecked
  split
  · exact kept_answer h _
  · exact kept_answer (kept_setPlans (kept_setPlace h _ _) _) _

theorem kept_releasePalletChecked (h : KeptByRow s₀ s) (n : Nat) : KeptByRow s₀ (releasePalletChecked s n) := by
  unfold releasePalletChecked
  repeat' split
  · exact kept_answer h _
  · exact kept_answer (kept_setPlace h _ _) _
  · exact kept_answer h _

theorem kept_cancelPalletChecked (h : KeptByRow s₀ s) (n : Nat) : KeptByRow s₀ (cancelPalletChecked s n) := by
  unfold cancelPalletChecked
  split
  · exact kept_answer h _
  · split
    iterate 2 exact kept_answer (kept_runSearch rows_claimEvents (kept_cancelPlace rows_claimEvents h _)) _
    all_goals exact kept_answer h _

theorem kept_dropRecord (h : Kept E s₀ s) (a : Nat) : Kept E s₀ (dropRecord s a) := kept_setRecords h _

theorem kept_placedChecked (h : KeptByRow s₀ s) (a : Nat) : KeptByRow s₀ (placedChecked s a) := by
  unfold placedChecked
  repeat' split
  · exact kept_answer h _
  · refine kept_answer (kept_runSearch rows_claimEvents ?_) _
    unfold placeRecord
    split
    · exact kept_markSearch (kept_tierTest (kept_modifyLine (kept_dropRecord h _) _ _) _)
    · exact kept_markSearch (kept_dropRecord h _)
  · exact kept_answer h _

theorem kept_tallyRemoval (h : Kept E s₀ s) (d : Bool) : Kept E s₀ (tallyRemoval s d) := by
  unfold tallyRemoval
  split <;> exact kept_frame h (by simp)

theorem kept_removeCaseChecked (h : KeptByRow s₀ s) (a r : Nat) : KeptByRow s₀ (removeCaseChecked s a r) := by
  unfold removeCaseChecked
  repeat' split
  · exact kept_answer h _
  · exact kept_answer h _
  · refine kept_answer (kept_runSearch rows_claimEvents (kept_markSearch (kept_tallyRemoval ?_ _))) _
    split
    · exact kept_modifyLine (kept_dropRecord h _) _ _
    · exact kept_dropRecord h _

theorem kept_acceptSuspectChecked (h : KeptByRow s₀ s) (a : Nat) : KeptByRow s₀ (acceptSuspectChecked s a) := by
  unfold acceptSuspectChecked
  repeat' split
  · exact kept_answer h _
  · refine kept_answer ?_ _
    unfold acceptRecord
    dsimp only
    split
    · exact kept_offerNotice (kept_setRecords h _) _
    · exact kept_setRecords h _
  · exact kept_answer h _

/-! ### The rows together -/

/-- The commands that do not keep everything that `Kept` speaks of, in every state: the samples of the occupancy sums, the
resets, the selection of a counter, a notice read, and what only START takes. -/
def special : Instr → Bool
  | .forwardPulse | .indexMark | .gateEdgeAccepted | .gateCleared | .edgeExpired | .dwellEnd | .windowClosedMissed
  | .confirmEdge | .confirmCleared | .powerOnReset | .restart | .setCounter .. | .readNotice | .hallSize ..
  | .stationEntry .. | .ownSetup .. | .timing .. | .faultPolicy .. | .go => true
  | _ => false

/-- A command whose meaning is a function f of the state, which keeps what the state before holds. -/
theorem kept_of_next {c : Instr} {u : State} (he : exec c s = .next t) (hu : exec c s = .next u) (h : KeptByRow s u) :
    KeptByRow s t := by
  rw [he, Host.Outcome.next.injEq] at hu
  rw [hu]
  exact h

/-- Every command that is none of the special ones keeps what `Kept` speaks of. -/
theorem exec_kept {c : Instr} (hc : special c = false) (he : exec c s = .next t) : KeptByRow s t := by
  have h : KeptByRow s s := kept_refl _ s
  have one : ∀ {u : State}, exec c s = .next u → KeptByRow s u → KeptByRow s t := fun hu => kept_of_next he hu
  have answered : ∀ r d, KeptByRow s (respond s r d) := kept_respond h
  have reads : ∀ i, KeptByRow s (readRecord s i) := fun i => by
    unfold readRecord
    split <;> exact answered _ _
  cases c with
  | forwardPulse | indexMark | gateEdgeAccepted | gateCleared | edgeExpired | dwellEnd | windowClosedMissed
  | confirmEdge | confirmCleared | powerOnReset | restart | setCounter | readNotice | hallSize | stationEntry | ownSetup
  | timing | faultPolicy | go => cases hc
  | reversePulse => exact one rfl (kept_reversePulse rows_claimEvents rows_missed h)
  | loopStopped => exact one rfl (kept_loopStopped h)
  | gateEyeRise => exact one rfl (kept_gateRise h)
  | gateEyeFall => exact one rfl (kept_gateFall h)
  | scannerReport chars => exact one rfl (kept_ite (kept_foldl (fun _ c h => kept_takeCharacter h c) chars h) h)
  | scannerCharacter c => exact one rfl (kept_ite (kept_takeCharacter h c) h)
  | reportGapTimeout => exact one rfl (kept_reportGapTimeout h)
  | lineFree => exact one rfl (kept_frame h (by simp))
  | startBitBegins => exact one rfl (kept_frame h (by simp))
  | sendAttempt => exact one rfl (kept_frame h (by simp))
  | arbitrationEnd read => exact one rfl (kept_arbitrationEnd h read)
  | frameReceived b e => exact one rfl (kept_frameReceived h b e)
  | frameEnd a r => exact one rfl (kept_frameEnd h a r)
  | heldOwnFrameEnters => exact one rfl (kept_enterHeld h)
  | lineStuck => exact one rfl (kept_lineStuck h)
  | lineStuckEnd => exact one rfl (kept_lineStuckEnd h)
  | frameHandled => exact one rfl (kept_frameHandled h)
  | confirmEyeRise => exact one rfl (kept_frame h (by simp))
  | confirmEyeFall => exact one rfl (kept_confirmFall h)
  | divertJam => exact one rfl (kept_divertJam h)
  | placeReadyRise p => exact one rfl (kept_placeReadyRise h p)
  | placeReadyFall p => exact one rfl (kept_placeReadyFall h p)
  | placeReadyTimer p => exact one rfl (kept_placeReadyTimer h p)
  | watchdogExpiry => exact one rfl (kept_watchdogExpiry h)
  | transactionStart => exact one rfl (kept_setPort h rfl)
  | transactionIncomplete n => exact one rfl (answered _ _)
  | checkError f => exact one rfl (answered _ _)
  | unknownCommand n => exact one rfl (answered _ _)
  | nop => exact one rfl (answered _ _)
  | keepalive => exact one rfl (kept_answer (kept_keepalive h) _)
  | clearFaults => exact one rfl (kept_respond (kept_clearFaults h) _ _)
  | armWatchdog =>
    have armed : KeptByRow s (setWatchdog s .running) := kept_setPart h id rfl
    exact one rfl (kept_ite (kept_answer armed _) (answered _ _))
  | withdraw =>
    have gone := kept_answer (kept_runSearch rows_claimEvents (kept_orderlyWithdraw rows_claimEvents h 0)) .done
    refine one rfl ?_
    split
    iterate 2 exact gone
    all_goals exact answered _ _
  | rejoin => exact one rfl (kept_ite (kept_answer (kept_enterListening rows_claimEvents h) _) (answered _ _))
  | openPlan p r n => exact one rfl (kept_afterGo h (kept_openPlanChecked h _ _ _))
  | addLine t a f q => exact one rfl (kept_afterGo h (kept_addLineChecked h _ _ _ _))
  | commitPlan => exact one rfl (kept_afterGo h (kept_commitPlanChecked h))
  | abandonPlan => exact one rfl (kept_afterGo h (kept_abandonPlanChecked h))
  | cancelPallet p => exact one rfl (kept_afterGo h (kept_cancelPalletChecked h _))
  | releasePallet p => exact one rfl (kept_afterGo h (kept_releasePalletChecked h _))
  | placed a => exact one rfl (kept_afterGo h (kept_placedChecked h _))
  | removeCase a r => exact one rfl (kept_afterGo h (kept_removeCaseChecked h _ _))
  | acceptSuspect a => exact one rfl (kept_afterGo h (kept_acceptSuspectChecked h _))
  | readPallet p =>
    refine one rfl ?_
    split <;> exact answered _ _
  | readLine p t l =>
    refine one rfl ?_
    unfold readLine
    (repeat' split) <;> exact answered _ _
  | readStagingByArrival v =>
    refine one rfl ?_
    split
    · exact reads _
    · exact answered _ _
  | readStagingByIndex v => exact one rfl (kept_ite (answered _ _) (reads _))
  | readStagingSummary m => exact one rfl (kept_ite (answered _ _) (answered _ _))
  | readClaims i =>
    refine one rfl (kept_ite (answered _ _) ?_)
    split <;> exact answered _ _
  | readView k => exact one rfl (kept_afterGo h (kept_ite (answered _ _) (answered _ _)))
  | readRoster i =>
    refine one rfl ?_
    split <;> exact answered _ _
  | readFaults => exact one rfl (kept_respond (kept_showFaults h) _ _)
  | readCounter i =>
    refine one rfl ?_
    split <;> exact answered _ _

end Sys2Proof.Laws
end

section
/-! SUPPORT. What the parts of a pulse and of an index mark leave unchanged, and what they make of the Loop Tracker. -/

namespace Sys2Proof.Laws

open Sys2Proof Sys2Proof.Machine Sys2Proof.Safety

theorem noteTravel_loop (s : State) : (noteTravel s).loop = { s.loop with running := true, stopTimer := some 0 } := by
  unfold noteTravel
  dsimp only
  split <;> simp

@[simp] theorem noteTravel_frame (s : State) :
    (noteTravel s).config = s.config ∧ (noteTravel s).pins = s.pins ∧ (noteTravel s).gate = s.gate ∧
    (noteTravel s).line = s.line ∧ (noteTravel s).view = s.view ∧ (noteTravel s).plans = s.plans ∧
    (noteTravel s).contest = s.contest ∧ (noteTravel s).divert = s.divert ∧ (noteTravel s).staging = s.staging ∧
    (noteTravel s).part.state = s.part.state ∧ (noteTravel s).counters = s.counters ∧
    (noteTravel s).pending = s.pending := by
  unfold noteTravel; dsimp only; split <;> simp

@[simp] theorem countPulse_frame (s : State) :
    (countPulse s).config = s.config ∧ (countPulse s).pins = s.pins ∧ (countPulse s).gate = s.gate ∧
    (countPulse s).line = s.line ∧ (countPulse s).view = s.view ∧ (countPulse s).plans = s.plans ∧
    (countPulse s).contest = s.contest ∧ (countPulse s).divert = s.divert ∧ (countPulse s).staging = s.staging ∧
    (countPulse s).part = s.part ∧ (countPulse s).port = s.port ∧ (countPulse s).counters = s.counters ∧
    (countPulse s).pending = s.pending := by
  unfold countPulse; simp

@[simp] theorem checkMissing_frame (s : State) :
    (checkMissing s).config = s.config ∧ (checkMissing s).pins = s.pins ∧ (checkMissing s).gate = s.gate ∧
    (checkMissing s).staging = s.staging ∧ (checkMissing s).pending = s.pending := by
  unfold checkMissing; split <;> simp

@[simp] theorem inductionPassage_frame (s : State) (k : Nat) :
    (inductionPassage s k).config = s.config ∧ (inductionPassage s k).pins = s.pins ∧
    (inductionPassage s k).loop = s.loop ∧ (inductionPassage s k).gate.deglitch = s.gate.deglitch ∧
    (inductionPassage s k).gate.report = s.gate.report ∧ (inductionPassage s k).plans = s.plans ∧
    (inductionPassage s k).contest = s.contest ∧ (inductionPassage s k).divert = s.divert ∧
    (inductionPassage s k).staging = s.staging ∧ (inductionPassage s k).part = s.part ∧
    (inductionPassage s k).port = s.port ∧ (inductionPassage s k).pending = s.pending := by
  unfold inductionPassage; simp [lapEdges, setEdges]

@[simp] theorem passSlot_frame (s : State) :
    (passSlot s).config = s.config ∧ (passSlot s).pins = s.pins ∧ (passSlot s).loop = s.loop ∧
    (passSlot s).gate.deglitch = s.gate.deglitch ∧ (passSlot s).gate.report = s.gate.report ∧
    (passSlot s).plans = s.plans ∧ (passSlot s).contest = s.contest ∧ (passSlot s).divert = s.divert ∧
    (passSlot s).staging = s.staging ∧ (passSlot s).part = s.part ∧ (passSlot s).port = s.port ∧
    (passSlot s).pending = s.pending := by
  unfold passSlot; split <;> simp

@[simp] theorem reachPosition_frame (s : State) :
    (reachPosition s).config = s.config ∧ (reachPosition s).pins = s.pins ∧ (reachPosition s).loop = s.loop ∧
    (reachPosition s).gate = (gatePulse s).gate ∧ (reachPosition s).view = s.view ∧
    (reachPosition s).part.state = s.part.state ∧ (reachPosition s).pending = s.pending := by
  unfold reachPosition; dsimp only; split <;> simp

@[simp] theorem sampleBoundary_frame (s : State) :
    (sampleBoundary s).config = s.config ∧ (sampleBoundary s).pins = s.pins ∧ (sampleBoundary s).loop = s.loop ∧
    (sampleBoundary s).gate = s.gate ∧ (sampleBoundary s).line = s.line ∧ (sampleBoundary s).view = s.view ∧
    (sampleBoundary s).plans = s.plans ∧ (sampleBoundary s).contest = s.contest ∧
    (sampleBoundary s).divert = s.divert ∧ (sampleBoundary s).staging = s.staging ∧ (sampleBoundary s).part = s.part ∧
    (sampleBoundary s).port = s.port ∧ (sampleBoundary s).pending = s.pending := by
  unfold sampleBoundary; split <;> simp

@[simp] theorem sampleRealignment_frame (s : State) :
    (sampleRealignment s).config = s.config ∧ (sampleRealignment s).pins = s.pins ∧
    (sampleRealignment s).loop = s.loop ∧ (sampleRealignment s).gate = s.gate ∧ (sampleRealignment s).line = s.line ∧
    (sampleRealignment s).view = s.view ∧ (sampleRealignment s).plans = s.plans ∧
    (sampleRealignment s).contest = s.contest ∧ (sampleRealignment s).divert = s.divert ∧
    (sampleRealignment s).staging = s.staging ∧ (sampleRealignment s).part = s.part ∧
    (sampleRealignment s).port = s.port ∧ (sampleRealignment s).pending = s.pending := by
  unfold sampleRealignment; split <;> simp

@[simp] theorem acceptMark_frame (s : State) :
    (acceptMark s).config = s.config ∧ (acceptMark s).pins = s.pins ∧ (acceptMark s).loop = s.loop ∧
    (acceptMark s).gate = s.gate ∧ (acceptMark s).line = s.line ∧ (acceptMark s).view = s.view ∧
    (acceptMark s).plans = s.plans ∧ (acceptMark s).contest.claims = s.contest.claims ∧
    (acceptMark s).divert = s.divert ∧ (acceptMark s).staging = s.staging ∧ (acceptMark s).counters = s.counters ∧
    (acceptMark s).pending = s.pending := by
  unfold acceptMark; dsimp only; (repeat' split) <;> simp [markSearch]

@[simp] theorem realign_frame (s : State) :
    (realign s).config = s.config ∧ (realign s).pins = s.pins ∧
    (realign s).loop = { s.loop with counter := 0, markAwaited := false } ∧ (realign s).gate = s.gate ∧
    (realign s).line = s.line ∧ (realign s).view = s.view ∧ (realign s).plans = s.plans ∧
    (realign s).contest = s.contest ∧ (realign s).divert = s.divert ∧ (realign s).staging = s.staging ∧
    (realign s).part = s.part ∧ (realign s).port = s.port ∧ (realign s).counters = s.counters ∧
    (realign s).pending = s.pending := by
  unfold realign; simp

@[simp] theorem sweepPosition_frame (s : State) :
    (sweepPosition s).config = s.config ∧ (sweepPosition s).pins = s.pins ∧
    (sweepPosition s).loop = { s.loop with counter := (s.loop.counter + 1) % s.loopLen } ∧
    (sweepPosition s).gate = s.gate ∧ (sweepPosition s).view = s.view ∧ (sweepPosition s).divert = s.divert ∧
    (sweepPosition s).staging = s.staging ∧ (sweepPosition s).part.state = s.part.state ∧
    (sweepPosition s).pending = s.pending := by
  unfold sweepPosition; simp

/-- R9: the positions of a sweep of n positions, reached one after another. -/
def sweep (n : Nat) (s : State) : State := (List.range n).foldl (fun s _ => sweepPosition s) s

@[simp] theorem sweep_zero (s : State) : sweep 0 s = s := rfl

theorem sweep_succ (n : Nat) (s : State) : sweep (n + 1) s = sweepPosition (sweep n s) := by
  unfold sweep
  rw [List.range_succ, List.foldl_append]
  rfl

@[simp] theorem sweep_frame (n : Nat) (s : State) :
    (sweep n s).config = s.config ∧ (sweep n s).pins = s.pins ∧ (sweep n s).gate = s.gate ∧
    (sweep n s).view = s.view ∧ (sweep n s).divert = s.divert ∧ (sweep n s).staging = s.staging ∧
    (sweep n s).part.state = s.part.state ∧ (sweep n s).pending = s.pending := by
  induction n with
  | zero => simp
  | succ n ih => rw [sweep_succ]; simpa using ih

/-- A sweep moves nothing of the Loop Tracker but the counter. -/
theorem sweep_loop (n : Nat) (s : State) : ∃ c, (sweep n s).loop = { s.loop with counter := c } := by
  induction n with
  | zero => exact ⟨s.loop.counter, rfl⟩
  | succ n ih =>
    obtain ⟨c, hc⟩ := ih
    rw [sweep_succ]
    exact ⟨_, by rw [(sweepPosition_frame _).2.2.1, hc]⟩

theorem forwardRealignment_eq (s : State) : forwardRealignment s =
    inductionPassage (realign (sweep (s.loopLen - s.loop.counter)
      (fireReached s (fun f => decide (s.loop.counter < f) || decide (f = 0))))) 0 := by
  unfold forwardRealignment sweep
  simp only [State.loopLen, State.slots, State.pitch]

@[simp] theorem forwardRealignment_frame (s : State) :
    (forwardRealignment s).config = s.config ∧ (forwardRealignment s).pins = s.pins ∧
    (forwardRealignment s).loop = { s.loop with counter := 0, markAwaited := false } ∧
    (forwardRealignment s).gate.deglitch = s.gate.deglitch ∧ (forwardRealignment s).staging = s.staging ∧
    (forwardRealignment s).part.state = s.part.state ∧ (forwardRealignment s).pending = s.pending := by
  obtain ⟨c, hc⟩ := sweep_loop (s.loopLen - s.loop.counter)
    (fireReached s (fun f => decide (s.loop.counter < f) || decide (f = 0)))
  rw [forwardRealignment_eq]
  simp [hc]

/-- R4, R8: the Loop Tracker after a forward pulse, whether or not it meets a MISSING slip. -/
theorem checkMissing_loop (s : State) : ∃ m, (checkMissing s).loop = { s.loop with markAwaited := m } := by
  unfold checkMissing
  split
  · exact ⟨false, by simp⟩
  · exact ⟨s.loop.markAwaited, rfl⟩

theorem forwardPulse_eq {s : State} (h : s.part.state ≠ .start) : forwardPulse s = sampleBoundary (pulseEffects s) := by
  unfold forwardPulse
  rw [if_pos (by simp [State.started, h])]
  rfl

theorem loopLen_of_config {s t : State} (h : t.config = s.config) : t.loopLen = s.loopLen := by
  simp [State.loopLen, State.slots, State.pitch, h]

theorem pitch_of_config {s t : State} (h : t.config = s.config) : t.pitch = s.pitch := by
  simp [State.pitch, h]

theorem timing_of_config {s t : State} (h : t.config = s.config) : t.timing = s.timing := by
  simp [State.timing, h]

@[simp] theorem pulseEffects_frame (s : State) :
    (pulseEffects s).config = s.config ∧ (pulseEffects s).pins = s.pins ∧ (pulseEffects s).pending = s.pending := by
  unfold pulseEffects; simp

/-- R4: the counter moves on by one, and the alignment stands. -/
theorem pulseEffects_loop (s : State) : ∃ m, (pulseEffects s).loop =
    { counter := (s.loop.counter + 1) % s.loopLen, aligned := s.loop.aligned, markAwaited := m, reverseTally := 0,
      running := true, stopTimer := some 0 } := by
  obtain ⟨m, hm⟩ := checkMissing_loop (countPulse (noteTravel s))
  refine ⟨m, ?_⟩
  unfold pulseEffects
  simp only [runSearch_frame, passSlot_frame, reachPosition_frame, hm]
  simp [countPulse, noteTravel_loop, loopLen_of_config (s := s) (t := noteTravel s)]

end Sys2Proof.Laws
end

section
/-! SUPPORT. What only a reset undoes, and the counters: reports and the occupancy sums (R188 to R190). -/

namespace Sys2Proof.Laws

open Sys2Proof Sys2Proof.Machine Sys2Proof.Safety

variable {s t u : State}

/-! ### What only a reset undoes -/

/-- The configuration, the participation, the alignment and CFG_MISMATCH, as every command but a reset keeps them. -/
def Standing (s t : State) : Prop :=
  t.config = s.config ∧ t.part.state ≠ .start ∧ (s.loop.aligned = true → t.loop.aligned = true) ∧
    (Mismatched s → Mismatched t)

theorem standing_of_kept {E : List CounterEvent} (hs : s.part.state ≠ .start) (h : Kept E s t) : Standing s t :=
  ⟨h.config, h.started hs, h.aligned, h.mismatch⟩

theorem standing_of_frame (h : Standing s u) (same : t.config = u.config ∧ t.part = u.part ∧ t.loop = u.loop) :
    Standing s t := by
  obtain ⟨config, part, loop⟩ := same
  obtain ⟨hc, hs, ha, hm⟩ := h
  refine ⟨config.trans hc, by rw [part]; exact hs, by rw [loop]; exact ha, fun hms => ?_⟩
  unfold Mismatched State.fault
  rw [part]
  exact hm hms

theorem standing_forwardPulse (hs : s.part.state ≠ .start) : Standing s (forwardPulse s) := by
  rw [forwardPulse_eq hs]
  exact standing_of_frame (standing_of_kept hs (kept_pulseEffects rows_divertEvents (by decide) (kept_refl _ s))) (by simp)

/-- A mark up to its sample, in an aligned loop's upper window with the mark awaited. -/
theorem kept_upperMark (s : State) : KeptByRow s (runSearch (acceptMark (forwardRealignment s))) :=
  kept_runSearch rows_claimEvents (kept_acceptMark (kept_forwardRealignment rows_claimEvents rows_missed (kept_refl _ s)))

theorem kept_firstAlignment (s : State) : KeptByRow s (firstAlignment s) :=
  kept_acceptMark (kept_setLoop (kept_refl _ s) fun _ => rfl)

theorem kept_backwardRealignment (s : State) : KeptByRow s (backwardRealignment s) :=
  kept_testClaims rows_claimEvents (kept_realign (kept_refl _ s))

theorem standing_indexMark (hs : s.part.state ≠ .start) : Standing s (indexMark s) := by
  have of := fun {t : State} (h : KeptByRow s t) => standing_of_kept hs h
  unfold indexMark
  repeat' split
  · exact of (kept_runSearch rows_claimEvents (kept_firstAlignment s))
  · exact standing_of_frame (of (kept_upperMark s)) (by simp)
  · exact of (kept_refl _ s)
  · exact of (kept_runSearch rows_claimEvents (kept_acceptMark (kept_backwardRealignment s)))
  · exact of (kept_refl _ s)
  · exact of (kept_runSearch rows_claimEvents (kept_slip rows_claimEvents rows_missed (kept_refl _ s)))
  · exact of (kept_refl _ s)

theorem standing_setCounter (hs : s.part.state ≠ .start) (c e k v : Nat) : Standing s (setCounterChecked s c e k v) := by
  have h : Standing s s := ⟨rfl, hs, id, id⟩
  unfold setCounterChecked
  split
  · split
    · exact standing_of_frame h (by simp)
    · exact standing_of_frame h (by simp [selectCounter])
  · exact standing_of_frame h (by simp)

theorem standing_readNotice (hs : s.part.state ≠ .start) (he : exec .readNotice s = .next t) : Standing s t := by
  have h : Standing s s := ⟨rfl, hs, id, id⟩
  simp only [exec, execReadNotice, Host.Outcome.next.injEq] at he
  rw [← he]
  split
  · exact standing_of_frame h (by simp)
  · exact standing_of_frame h (by simp [answerData])

/-- Every command of a started part but the resets. -/
theorem exec_standing {c : Instr} (hs : s.part.state ≠ .start) (hc : resets c = false) (he : exec c s = .next t) :
    Standing s t := by
  have one : ∀ {u : State}, exec c s = .next u → Standing s u → Standing s t := by
    intro u hu h
    rw [he, Host.Outcome.next.injEq] at hu
    rw [hu]
    exact h
  have h : Standing s s := ⟨rfl, hs, id, id⟩
  have pulse : ∀ {due : Bool}, Standing s (if due = true then forwardPulse s else s) := by
    intro due
    split
    · exact standing_forwardPulse hs
    · exact h
  have refused : ∀ b x, Standing s (configure s b x) := fun b x => by
    rw [configure_started hs]
    exact standing_of_frame h (by simp)
  by_cases hp : special c = false
  · exact standing_of_kept hs (exec_kept hp he)
  cases c with
  | powerOnReset | restart => cases hc
  | forwardPulse => exact one rfl (standing_forwardPulse hs)
  | indexMark => exact one rfl (standing_indexMark hs)
  | gateEdgeAccepted | gateCleared | edgeExpired | dwellEnd | windowClosedMissed | confirmEdge | confirmCleared =>
    exact one rfl pulse
  | setCounter c e k v => exact one rfl (standing_setCounter hs _ _ _ _)
  | readNotice => exact standing_readNotice hs he
  | hallSize | stationEntry | ownSetup | timing | faultPolicy => exact one rfl (refused _ _)
  | go => exact one (u := answer s .refusedState) (congrArg Host.Outcome.next (if_pos hs)) (standing_of_frame h (by simp))
  | _ => exact absurd rfl hp

/-! ### The occupancy sums -/

theorem report_counter (s : State) (e : CounterEvent) (sender : Option Station) (place : Option PlaceId) (i : Fin 4) :
    (report s e sender place).counters[i] = s.counters[i].take e sender place := by
  simp [report_counters]

/-- An occupancy sum. -/
def IsSum (e : CounterEvent) : Prop := e = .stagingOccupancy ∨ e = .claimOccupancy

theorem not_row_of_isSum {e : CounterEvent} (he : IsSum e) : e ∉ rowEvents := by
  rcases he with rfl | rfl <;> decide

/-- What a pitch boundary adds to a sum (R190): the records or the claims held. -/
def held (e : CounterEvent) (s : State) : Nat :=
  if e = .stagingOccupancy then s.staging.records.length else s.contest.claims.length

theorem counters_sampleOccupancy {e : CounterEvent} (hs : s.counters[0].event = some e) (he : IsSum e) :
    (sampleOccupancy s).counters[0] = s.counters[0].add (held e s) := by
  rcases he with rfl | rfl <;> simp [sampleOccupancy, hs, held]

theorem held_of_frame {e : CounterEvent} (hs : t.staging = s.staging) (hc : t.contest = s.contest) :
    held e t = held e s := by
  simp [held, hs, hc]

theorem sum_kept {e : CounterEvent} (hs : s.counters[0].event = some e) (he : IsSum e) (h : KeptByRow s t) :
    t.counters[0] = s.counters[0] := h.counted.silent (k := 0) hs (not_row_of_isSum he)

/-- A sample taken where a condition holds, of a state that holds the sum as before. -/
theorem sum_sampled {e : CounterEvent} {b : Prop} [Decidable b] (hs : s.counters[0].event = some e) (he : IsSum e)
    (hu : KeptByRow s u) (ht : t = if b then sampleOccupancy u else u) :
    t.counters[0] = if b then s.counters[0].add (held e t) else s.counters[0] := by
  have same := sum_kept hs he hu
  subst ht
  split
  · rw [counters_sampleOccupancy (by rw [same]; exact hs) he, same, held_of_frame (t := sampleOccupancy u) (s := u)] <;> simp
  · exact same

theorem sum_forwardPulse {e : CounterEvent} (hp : s.part.state ≠ .start) (hs : s.counters[0].event = some e)
    (he : IsSum e) : (forwardPulse s).counters[0] =
      if s.loop.aligned = true ∧ (s.loop.counter + 1) % s.loopLen % s.pitch = 0 then
        s.counters[0].add (held e (forwardPulse s)) else s.counters[0] := by
  obtain ⟨m, hm⟩ := pulseEffects_loop s
  have boundary : atBoundary (pulseEffects s) = true ↔
      s.loop.aligned = true ∧ (s.loop.counter + 1) % s.loopLen % s.pitch = 0 := by
    simp [atBoundary, hm, pitch_of_config (s := s) (t := pulseEffects s)]
  refine sum_sampled hs he (kept_pulseEffects rows_divertEvents (by decide) (kept_refl _ s)) ?_
  rw [forwardPulse_eq hp]
  unfold sampleBoundary
  simp only [boundary]

theorem sum_indexMark {e : CounterEvent} (hp : s.part.state ≠ .start) (hs : s.counters[0].event = some e)
    (he : IsSum e) : (indexMark s).counters[0] =
      if (s.loop.aligned = true ∧ s.loop.markAwaited = true ∧ s.loopLen ≤ s.loop.counter + s.timing.tolerance) ∧
        s.loop.running = true then s.counters[0].add (held e (indexMark s)) else s.counters[0] := by
  have started : s.started = true := by simp [State.started, hp]
  have still := fun {t : State} (h : KeptByRow s t) => sum_kept hs he h
  have upper : inUpperWindow s = true ↔ s.loopLen ≤ s.loop.counter + s.timing.tolerance := by simp [inUpperWindow]
  by_cases ha : s.loop.aligned = true
  · by_cases hu : inUpperWindow s = true
    · by_cases hm : s.loop.markAwaited = true
      · have ht : indexMark s = sampleRealignment (runSearch (acceptMark (forwardRealignment s))) := by
          simp [indexMark, started, ha, hu, hm]
        rw [ht]
        refine sum_sampled hs he (kept_upperMark s) ?_
        unfold sampleRealignment
        simp [ha, hm, upper.1 hu]
      · have ht : indexMark s = s := by simp [indexMark, started, ha, hu, hm]
        rw [ht, if_neg (by simp [hm])]
    · rw [if_neg (by rw [← upper]; simp [hu])]
      unfold indexMark
      rw [if_pos started, if_neg (by simp [ha]), if_neg hu]
      split
      · split
        · exact still (kept_runSearch rows_claimEvents (kept_acceptMark (kept_backwardRealignment s)))
        · rfl
      · exact still (kept_runSearch rows_claimEvents (kept_slip rows_claimEvents rows_missed (kept_refl _ s)))
  · have ht : indexMark s = runSearch (firstAlignment s) := by simp [indexMark, started, ha]
    rw [ht, if_neg (by simp [ha])]
    exact still (kept_runSearch rows_claimEvents (kept_firstAlignment s))

theorem counters_readNotice (he : exec .readNotice s = .next t) : t.counters = s.counters := by
  simp only [exec, execReadNotice, Host.Outcome.next.injEq] at he
  rw [← he]
  split <;> simp [answerData]

theorem counters_configure (s : State) (b : Bool) (c : Configuration) : (configure s b c).counters = s.counters := by
  unfold configure
  (repeat' split) <;> simp

/-- GO reports no occupancy: the JOIN it offers can drop an ANNOUNCE at most. -/
theorem kept_startStation (s : State) : KeptByRow s (startStation s) := by
  have started : KeptByRow s (s.setPart { s.part with
      digest := some (hallDigest s), watchdog := if s.policy.mode = .off then .off else .running, watchdogTimer := 0 }) :=
    kept_setPart (kept_refl _ s) id rfl
  exact kept_enterListening rows_claimEvents started

theorem sum_go {e : CounterEvent} (hs : s.counters[0].event = some e) (h : IsSum e) (he : exec .go s = .next t) :
    t.counters[0] = s.counters[0] := by
  simp only [exec, execGo, Host.Outcome.next.injEq] at he
  rw [← he]
  split
  · rfl
  · split
    · rfl
    · exact sum_kept (s := startBlocks s) hs h (kept_answer (kept_startStation (startBlocks s)) .done)

/-- The rows that are a forward pulse where one is due (log 1). -/
theorem pulseRow_cases {c : Instr} {due : Bool} (he : exec c s = .next (if due = true then forwardPulse s else s)) :
    exec c s = .next s ∨ exec c s = exec .forwardPulse s := by
  cases due
  · exact Or.inl he
  · exact Or.inr he

end Sys2Proof.Laws

open Sys2Proof Sys2Proof.Machine Sys2Proof.Safety Sys2Proof.Laws

/-- Settles O7: every command but a reset keeps what `Standing` speaks of. -/
theorem onlyResetsUndo : Obligations.OnlyResetsUndo := by
  unfold Obligations.OnlyResetsUndo
  intro c s t hs hc he
  obtain ⟨config, started, aligned, mismatch⟩ := exec_standing hs hc he
  exact ⟨config, started, aligned, fun hi hc => mismatch ⟨hi, hc⟩⟩

/-- Settles O37: no row reports an occupancy sum, so it moves at the samples alone. -/
theorem reportsAndOccupancyCounted : Obligations.ReportsAndOccupancyCounted := by
  unfold Obligations.ReportsAndOccupancyCounted
  refine ⟨fun s e sender place => ⟨report_only s e sender place, fun i => ?_⟩, fun s t e hs he => ?_⟩
  · rw [report_counter, Counter.take]
    cases hf : s.counters[i].filter <;> simp only [Filter.admits] <;> rfl
  refine ⟨fun hp hx => ?_, fun hp hx => ?_, fun c hc => ?_, fun c hc hr hn hx => ?_⟩
  · rw [show t = forwardPulse s from (Host.Outcome.next.inj hx).symm]
    exact sum_forwardPulse hp hs he
  · rw [show t = indexMark s from (Host.Outcome.next.inj hx).symm]
    exact sum_indexMark hp hs he
  · simp only [List.mem_cons, List.not_mem_nil, or_false] at hc
    rcases hc with rfl | rfl | rfl | rfl | rfl | rfl | rfl <;> exact pulseRow_cases rfl
  · by_cases hp : special c = false
    · exact sum_kept hs he (exec_kept hp hx)
    have one : ∀ {u : State}, exec c s = .next u → u.counters = s.counters → t.counters[0] = s.counters[0] := by
      intro u hu h
      rw [hx, Host.Outcome.next.injEq] at hu
      rw [hu, h]
    cases c with
    | forwardPulse | indexMark | gateEdgeAccepted | gateCleared | edgeExpired | dwellEnd | windowClosedMissed
    | confirmEdge | confirmCleared => exact absurd (by simp) hc
    | powerOnReset | restart => cases hr
    | setCounter a b d f => exact absurd rfl (hn a b d f)
    | readNotice => rw [counters_readNotice hx]
    | hallSize | stationEntry | ownSetup | timing | faultPolicy => exact one rfl (counters_configure _ _ _)
    | go => exact sum_go hs he hx
    | _ => exact absurd rfl hp
end

section
/-! SUPPORT. The Gate Unit at a forward pulse (R44 to R48). -/

namespace Sys2Proof.Laws

open Sys2Proof Sys2Proof.Machine Sys2Proof.Safety

variable {s t u : State}

/-! ### The gate itself -/

theorem ageEdges_gate (s : State) : (ageEdges s).gate = { s.gate with edges := agedEdges s } := by
  unfold ageEdges
  simp only [reportTimes_frame]
  rfl

theorem agedEdges_congr (hg : t.gate = s.gate) (hc : t.config = s.config) : agedEdges t = agedEdges s := by
  simp [agedEdges, hg, timing_of_config hc]

/-- R46: the pending edges with an accepted edge at the tail, the oldest of four dropped. -/
def edgesWith (old : List PendingEdge) (e : PendingEdge) : List PendingEdge :=
  (if old.length < Config.edgeCapacity then old else old.drop 1) ++ [e]

theorem acceptEdge_gate (s : State) (start : Nat) : (acceptEdge s start).gate =
    { s.gate with edges := edgesWith s.gate.edges ⟨start, edgeSlot s start, 0, false⟩ } := by
  unfold acceptEdge edgesWith
  dsimp only
  split
  · rfl
  · simp only [reportPlain_frame]
    rfl

theorem edgeSlot_congr (hc : t.config = s.config) (c : Nat) : edgeSlot t c = edgeSlot s c := by
  simp [edgeSlot, State.gatePos, State.ownId, State.loopLen, State.slots, State.pitch, hc]

/-- R44, R45: the pulse that accepts the candidate. -/
theorem gatePulse_accept {start n : Nat} {al : Bool} (hd : s.gate.deglitch = .blocking start al n)
    (hn : s.timing.gateDeglitch ≤ n + 1) : (gatePulse s).gate = { s.gate with
      deglitch := .blocked
      edges := if al = true then edgesWith (agedEdges s) ⟨start, edgeSlot s start, 0, false⟩ else agedEdges s } := by
  have aged := ageEdges_gate s
  have config : (ageEdges s).config = s.config := by simp
  unfold gatePulse gateDeglitchPulse
  simp only [aged, hd, timing_of_config config, if_pos hn]
  split
  · rw [acceptEdge_gate, edgeSlot_congr (s := s) (by simp)]
    simp [setGateDeglitch, aged]
  · simp [setGateDeglitch, aged]

/-- R44: the pulse that makes the gate deglitch CLEAR. -/
theorem gatePulse_clear {n : Nat} (hd : s.gate.deglitch = .clearing n) (hn : s.timing.gateDeglitch ≤ n + 1) :
    (gatePulse s).gate = { s.gate with deglitch := .clear, edges := agedEdges s } := by
  have aged := ageEdges_gate s
  have config : (ageEdges s).config = s.config := by simp
  unfold gatePulse gateDeglitchPulse
  simp only [aged, hd, timing_of_config config, if_pos hn]
  simp [setGateDeglitch, aged]

/-- A pulse that does not find the gate BLOCKING ages the edges, and reports nothing but the edges that leave. -/
theorem gatePulse_age (hd : ∀ a b n, s.gate.deglitch ≠ .blocking a b n) :
    (gatePulse s).gate.edges = agedEdges s ∧ (gatePulse s).gate.report = s.gate.report ∧
    (gatePulse s).counters = (ageEdges s).counters := by
  have aged := ageEdges_gate s
  unfold gatePulse gateDeglitchPulse
  rw [aged]
  dsimp only
  split
  · exact absurd ‹_› (hd _ _ _)
  · split <;> simp [setGateDeglitch, aged]
  · simp [aged]
  · simp [aged]

/-- A passage sets the lapped mark alone (R48). -/
theorem passSlot_edgeIds (s : State) : (passSlot s).gate.edges.map edgeId = s.gate.edges.map edgeId := by
  unfold passSlot
  split
  · unfold inductionPassage
    simp only [withdrawAnnounces_frame]
    simp only [lapEdges, setEdges, setViewEntry, State.setView, State.setGate, List.map_map]
    refine List.map_congr_left fun e _ => ?_
    simp only [Function.comp]
    split <;> rfl
  · rfl

/-! ### The gate in a whole pulse -/

/-- The state of a pulse when it comes to the gate. -/
def atGate (s : State) : State := checkMissing (countPulse (noteTravel s))

@[simp] theorem atGate_frame (s : State) :
    (atGate s).config = s.config ∧ (atGate s).pins = s.pins ∧ (atGate s).gate = s.gate ∧
    (atGate s).staging = s.staging ∧ (atGate s).pending = s.pending := by
  unfold atGate; simp

theorem pulseEffects_eq (s : State) : pulseEffects s = runSearch (passSlot (reachPosition (atGate s))) := rfl

/-- What a pulse makes of the gate: the deglitch and the edges as the gate's own pulse leaves them, but for lapped marks. -/
theorem forwardPulse_gate (hs : s.part.state ≠ .start) :
    (forwardPulse s).gate.deglitch = (gatePulse (atGate s)).gate.deglitch ∧
    (forwardPulse s).gate.report = (gatePulse (atGate s)).gate.report ∧
    (forwardPulse s).gate.edges.map edgeId = (gatePulse (atGate s)).gate.edges.map edgeId := by
  rw [forwardPulse_eq hs, pulseEffects_eq]
  simp only [sampleBoundary_frame, runSearch_frame, passSlot_frame, passSlot_edgeIds, reachPosition_frame, and_self]

/-- From the gate on, a pulse reports no NO_READ. -/
theorem kept_afterGate (s : State) : Kept divertEvents (gatePulse (atGate s)) (pulseEffects s) := by
  have hc : claimEvents ⊆ divertEvents := claimEvents_of_divert (List.Subset.refl _)
  rw [pulseEffects_eq]
  exact kept_runSearch hc (kept_passSlot hc (kept_testsAndFire hc (by decide)
    (kept_divertPulse (List.Subset.refl _) (kept_refl _ _)) _))

theorem kept_atGate (s : State) : Kept divertEvents s (atGate s) :=
  kept_checkMissing (claimEvents_of_divert (List.Subset.refl _)) (by decide)
    (kept_countPulse (kept_noteTravel (kept_refl _ s)))

/-- A sample leaves every counter of a counted event. -/
theorem sampleOccupancy_silent {e : CounterEvent} (he : ¬IsSum e) {i : Fin 4} (hi : s.counters[i].event = some e) :
    (sampleOccupancy s).counters[i] = s.counters[i] := by
  have zero : i = 0 → s.counters[0].event = some e := by rintro rfl; exact hi
  have other : ∀ c : Counter, i ≠ 0 → (s.counters.set 0 c)[i] = s.counters[i] := fun c h => by
    have : (0 : Nat) ≠ i.val := fun hv => h (Fin.ext hv.symm)
    simp [this]
  unfold sampleOccupancy
  dsimp only
  split
  · rename_i h
    exact other _ fun h0 => he (Or.inl (Option.some.inj ((zero h0).symm.trans h)))
  · rename_i h
    exact other _ fun h0 => he (Or.inr (Option.some.inj ((zero h0).symm.trans h)))
  · rfl

theorem sampleBoundary_silent {e : CounterEvent} (he : ¬IsSum e) {i : Fin 4} (hi : s.counters[i].event = some e) :
    (sampleBoundary s).counters[i] = s.counters[i] := by
  unfold sampleBoundary
  split
  · exact sampleOccupancy_silent he hi
  · rfl

/-- R188: a plain report made n times, to a counter without a filter. -/
theorem reportTimes_value {e : CounterEvent} {i : Fin 4} (he : s.counters[i].event = some e)
    (hf : s.counters[i].filter = .none) {n : Nat} (hn : 0 < n) :
    (reportTimes s e n).counters[i].value = min (s.counters[i].value + n) 4294967295 := by
  have one : ∀ {u : State}, u.counters[i].event = some e → u.counters[i].filter = .none →
      (reportPlain u e).counters[i].value = min (u.counters[i].value + 1) 4294967295 := by
    intro u hu hv
    rw [reportPlain, report_counter, take_admitted hu (by rw [hv]; rfl)]
  induction n, hn using Nat.le_induction generalizing s with
  | base => exact one he hf
  | succ n _ ih =>
    have next : (reportPlain s e).counters[i].event = some e ∧ (reportPlain s e).counters[i].filter = .none := by
      rw [reportPlain, report_counter, take_event, take_filter]
      exact ⟨he, hf⟩
    rw [reportTimes, ih next.1 next.2 one, one he hf]
    omega

/-- R47: each edge that leaves is counted once as a NO_READ. -/
theorem forwardPulse_noRead (hs : s.part.state ≠ .start) (hd : ∀ a b n, s.gate.deglitch ≠ .blocking a b n)
    (hl : (agedEdges s).length < s.gate.edges.length) {i : Fin 4} (he : s.counters[i].event = some .noRead)
    (hf : s.counters[i].filter = .none) : (forwardPulse s).counters[i].value =
      min (s.counters[i].value + (s.gate.edges.length - (agedEdges s).length)) 4294967295 := by
  have before : (atGate s).counters[i] = s.counters[i] := (kept_atGate s).counted.silent he (by decide)
  have config : (atGate s).config = s.config := by simp
  have gate : (atGate s).gate = s.gate := by simp
  have aged : (gatePulse (atGate s)).counters[i].value =
      min (s.counters[i].value + (s.gate.edges.length - (agedEdges s).length)) 4294967295 := by
    have count : ∀ u : State, ageEdges u =
        reportTimes (setEdges u (agedEdges u)) .noRead (u.gate.edges.length - (agedEdges u).length) := fun u => by
      unfold ageEdges agedEdges
      dsimp only
      rw [List.length_map]
    rw [(gatePulse_age (s := atGate s) (by rw [gate]; exact hd)).2.2, count, agedEdges_congr gate config, gate]
    rw [reportTimes_value (by simpa [setEdges, ← before] using he) (by simpa [setEdges, ← before] using hf) (by omega)]
    simp only [setEdges, State.setGate_counters, before]
  have event : (gatePulse (atGate s)).counters[i].event = some .noRead := by
    rw [((kept_gatePulse (E := [.noRead]) (by decide) (kept_refl _ (atGate s))).counted.event i), before, he]
  have after : (pulseEffects s).counters[i] = (gatePulse (atGate s)).counters[i] :=
    (kept_afterGate s).counted.silent event (by decide)
  rw [forwardPulse_eq hs, sampleBoundary_silent (e := .noRead) (by simp [IsSum]) (by rw [after]; exact event), after, aged]

end Sys2Proof.Laws

open Sys2Proof Sys2Proof.Machine Sys2Proof.Safety Sys2Proof.Laws

/-- Settles O42: each row is the pulse where it is due, and the gate's part of the pulse is its own. -/
theorem gatePulsesAcceptClearAndExpire : Obligations.GatePulsesAcceptClearAndExpire := by
  unfold Obligations.GatePulsesAcceptClearAndExpire
  intro s hs old
  have started : s.started = true := by simp [State.started, hs]
  obtain ⟨deglitch, report, edges⟩ := forwardPulse_gate hs
  have config : (atGate s).config = s.config := by simp
  have gate : (atGate s).gate = s.gate := by simp
  have aged : agedEdges (atGate s) = old := agedEdges_congr gate config
  refine ⟨fun start al n hd hn => ⟨forwardPulse s, ?_, ?_⟩, fun n hd hn => ⟨forwardPulse s, ?_, ?_⟩,
    fun hex hd => ⟨forwardPulse s, ?_, ?_⟩, fun h => ?_, fun h => ?_, fun h => ?_⟩
  · simp [exec, execGateEdgeAccepted, gateAcceptDue, hd, started, hn]
  · have pulse := gatePulse_accept (s := atGate s) (by rw [gate, hd]) (by rw [timing_of_config config]; exact hn)
    rw [edgeSlot_congr config, gate, aged] at pulse
    rw [deglitch, report, edges, pulse]
    refine ⟨rfl, rfl, ?_⟩
    cases al
    · rfl
    · simp only [if_true, edgesWith, List.map_append]
      rfl
  · simp [exec, execGateCleared, gateClearDue, hd, started, hn]
  · have pulse := gatePulse_clear (s := atGate s) (by rw [gate, hd]) (by rw [timing_of_config config]; exact hn)
    rw [gate, aged] at pulse
    rw [deglitch, report, edges, pulse]
    exact ⟨rfl, rfl, rfl⟩
  · obtain ⟨e, he, ha⟩ := hex
    have due : edgeExpiryDue s = true := by
      simp only [edgeExpiryDue, started, Bool.true_and, List.any_eq_true, decide_eq_true_eq]
      exact ⟨e, he, ha⟩
    simp [exec, execEdgeExpired, due]
  · obtain ⟨e, he, ha⟩ := hex
    have fewer : old.length < s.gate.edges.length := by
      rw [← List.length_map (as := s.gate.edges) (f := fun e => { e with age := e.age + 1 })]
      refine List.length_filter_lt_length_iff_exists.2 ⟨_, List.mem_map_of_mem he, ?_⟩
      simpa using ha
    have pulse := gatePulse_age (s := atGate s) (by rw [gate]; exact hd)
    rw [edges, report, pulse.1, pulse.2.1, aged, gate]
    exact ⟨rfl, fewer, rfl, fun i hi hf => forwardPulse_noRead hs hd fewer hi hf⟩
  · simp [exec, execGateEdgeAccepted, h]
  · simp [exec, execGateCleared, h]
  · have due : edgeExpiryDue s = false := by
      simp only [edgeExpiryDue, started, Bool.true_and, List.any_eq_false, decide_eq_true_eq, not_le]
      exact h
    simp [exec, execEdgeExpired, due]
end

section
/-! SUPPORT. The frames of the transmit queue: which stand as others are offered, withdrawn and dropped (R69 to R73). -/

namespace Sys2Proof.Laws

open Sys2Proof Sys2Proof.Machine Sys2Proof.Safety

variable {s t u : State}

/-! ### The frames that a predicate picks -/

/-- The queued frames that p picks, in the order of taking. -/
def framesBy (p : OutFrame → Bool) (s : State) : List TxFrame := s.line.tx.filter (fun x => p x.frame)

/-- p picks no ANNOUNCE, the one kind that is dropped to make room (R70). -/
def NoAnnounce (p : OutFrame → Bool) : Prop := ∀ f, f.isAnnounce = true → p f = false

theorem framesBy_congr {p : OutFrame → Bool} (h : t.line.tx = s.line.tx) : framesBy p t = framesBy p s := by
  unfold framesBy; rw [h]

theorem mem_framesBy {p : OutFrame → Bool} {x : TxFrame} : x ∈ framesBy p s ↔ x ∈ s.line.tx ∧ p x.frame = true := by
  simp [framesBy]

theorem filter_erase_of_not {α : Type} [DecidableEq α] (p : α → Bool) {a : α} (ha : p a = false) (l : List α) :
    (l.erase a).filter p = l.filter p := by
  induction l with
  | nil => rfl
  | cons b l ih =>
    rw [List.erase_cons]
    by_cases hb : b = a
    · subst hb
      simp [ha]
    · simp only [beq_iff_eq, hb, if_false, List.filter_cons, ih]

theorem filter_eraseLast {p : TxFrame → Bool} {a : TxFrame} (ha : p a = false) (q : List TxFrame) :
    (eraseLast a q).filter p = q.filter p := by
  unfold eraseLast
  rw [List.filter_reverse, filter_erase_of_not p ha, ← List.filter_reverse, List.reverse_reverse]

theorem mem_eraseLast {a x : TxFrame} {q : List TxFrame} (h : x ∈ eraseLast a q) : x ∈ q := by
  unfold eraseLast at h
  exact List.mem_reverse.1 (List.mem_of_mem_erase (List.mem_reverse.1 h))

/-- R70: the frame dropped for room is an ANNOUNCE. -/
theorem lastWaitingAnnounce_isAnnounce {a : TxFrame} (h : lastWaitingAnnounce s = some a) :
    a.frame.isAnnounce = true := by
  have := List.mem_of_getLast? h
  simp only [List.mem_filter, Bool.and_eq_true] at this
  exact this.2.1

theorem tx_setTx (s : State) (q : List TxFrame) : (setTx s q).line.tx = q := rfl

theorem framesBy_offerOther {p : OutFrame → Bool} (hp : NoAnnounce p) (s : State) (f : OutFrame) :
    framesBy p (offerOther s f) = framesBy p s ++ if p f then [TxFrame.waiting f] else [] := by
  have added : ∀ q : List TxFrame, (q ++ [TxFrame.waiting f]).filter (fun x => p x.frame) =
      q.filter (fun x => p x.frame) ++ if p f then [TxFrame.waiting f] else [] := fun q => by
    simp [List.filter_append, List.filter_cons, TxFrame.waiting]
  unfold offerOther framesBy
  split
  · rw [tx_setTx, added]
  · split
    · rename_i a ha
      rw [tx_setTx, added, filter_eraseLast]
      exact hp _ (lastWaitingAnnounce_isAnnounce ha)
    · rw [tx_setTx, added]

/-- R70: an offered frame joins the frames that p picks where p picks it, and disturbs no other. -/
theorem framesBy_offerFrame {p : OutFrame → Bool} (hp : NoAnnounce p) (s : State) (f : OutFrame) :
    framesBy p (offerFrame s f) = framesBy p s ++ if p f then [TxFrame.waiting f] else [] := by
  unfold offerFrame
  split
  · rename_i ha
    rw [hp f ha, if_neg (by simp), List.append_nil]
    unfold offerAnnounce
    split
    · exact framesBy_congr (by simp)
    · simp [framesBy, tx_setTx, List.filter_append, TxFrame.waiting, hp f ha]
  · exact framesBy_offerOther hp s f

theorem framesBy_offerFrame_other {p : OutFrame → Bool} (hp : NoAnnounce p) {f : OutFrame} (hf : p f = false) :
    framesBy p (offerFrame s f) = framesBy p s := by
  rw [framesBy_offerFrame hp, hf, if_neg (by simp), List.append_nil]

/-- R70: after an offer every queued frame was queued before, or is the one offered. -/
theorem mem_tx_offerFrame {f : OutFrame} {x : TxFrame} (h : x ∈ (offerFrame s f).line.tx) :
    x ∈ s.line.tx ∨ x = TxFrame.waiting f := by
  unfold offerFrame offerAnnounce offerOther at h
  have last : ∀ q : List TxFrame, x ∈ q ++ [TxFrame.waiting f] → x ∈ q ∨ x = TxFrame.waiting f := fun q hq => by
    simpa using hq
  split at h
  · split at h
    · rw [(reportPlain_frame s _).2.2.2.2.1] at h
      exact Or.inl h
    · exact last _ h
  · split at h
    · exact last _ h
    · split at h
      · exact (last _ h).imp_left mem_eraseLast
      · exact last _ h

/-- R72: a withdrawal disturbs no frame of another kind. -/
theorem filter_askWithdrawal {p r : OutFrame → Bool} (h : ∀ f, r f = true → p f = false) (q : List TxFrame) :
    (askWithdrawal r q).filter (fun x => p x.frame) = q.filter (fun x => p x.frame) := by
  have mark : ∀ x : TxFrame, (if r x.frame && !x.sending then { x with withdrawAsked := true } else x).frame = x.frame :=
    fun x => by split <;> rfl
  unfold askWithdrawal
  induction q with
  | nil => rfl
  | cons x q ih =>
    simp only [List.filter_cons]
    by_cases hr : r x.frame = true
    · have hpx := h _ hr
      by_cases hi : x.idle = true
      · simpa [hr, hi, hpx] using ih
      · simp only [hr, hi, Bool.and_false, Bool.not_false, if_true, List.map_cons, List.filter_cons]
        rw [if_neg (by split <;> simp [hpx]), if_neg (by simp [hpx])]
        exact ih
    · simp only [hr, Bool.false_and, Bool.not_false, if_true, List.map_cons, List.filter_cons, Bool.false_eq_true,
        if_false]
      rw [ih]

theorem framesBy_askWithdrawal {p r : OutFrame → Bool} (h : ∀ f, r f = true → p f = false) (s : State) :
    framesBy p (setTx s (askWithdrawal r s.line.tx)) = framesBy p s := filter_askWithdrawal h _

theorem tx_withdrawAnnounces (s : State) (r : OutFrame → Bool) :
    (withdrawAnnounces s r).line.tx = askWithdrawal r s.line.tx := by
  unfold withdrawAnnounces
  simp only [reportTimes_frame]
  rfl

theorem framesBy_withdrawAnnounces {p r : OutFrame → Bool} (h : ∀ f, r f = true → p f = false) (s : State) :
    framesBy p (withdrawAnnounces s r) = framesBy p s := by
  unfold framesBy
  rw [tx_withdrawAnnounces, filter_askWithdrawal h]

/-- R123: the frame of a claim removed, in its attempt, is no frame of another kind. -/
theorem filter_orphanAttempt {p : OutFrame → Bool} {k : Nat} (h : ∀ f, f.isClaimFor k = true → p f = false)
    (q : List TxFrame) : (orphanAttempt k q).filter (fun x => p x.frame) = q.filter (fun x => p x.frame) := by
  rw [← filter_askWithdrawal h q]
  unfold orphanAttempt
  generalize askWithdrawal (OutFrame.isClaimFor k) q = w
  induction w with
  | nil => rfl
  | cons x w ih =>
    rw [List.map_cons, List.filter_cons, List.filter_cons, ih]
    by_cases hc : x.frame.isClaimFor k = true
    · rw [if_neg (by split <;> simp [h _ hc]), if_neg (by simp [h _ hc])]
    · simp [hc]

/-! ### Frames of the kinds that no withdrawal removes -/

/-- A frame is queued, its mark aside. -/
def HasFrame (f : OutFrame) (s : State) : Prop := ∃ x ∈ s.line.tx, x.frame = f

/-- A TAKEN, a MISSED, a RELEASE, or the WITHDRAW of the event: offers and the withdrawal of ANNOUNCE and CLAIM frames
leave it. -/
def Lasting : OutFrame → Bool
  | .taken .. | .missed _ | .release .. | .withdraw _ => true
  | .claim .. | .announce .. | .join _ => false

theorem hasFrame_iff {f : OutFrame} : HasFrame f s ↔ framesBy (fun g => decide (g = f)) s ≠ [] := by
  simp [HasFrame, framesBy, List.filter_eq_nil_iff]

theorem hasFrame_congr {f : OutFrame} (h : HasFrame f s) (ht : t.line.tx = s.line.tx) : HasFrame f t := by
  unfold HasFrame; rw [ht]; exact h

variable {f : OutFrame}

theorem lasting_not_claim (hf : Lasting f = true) {k : Nat} {g : OutFrame} (hg : g.isClaimFor k = true) :
    decide (g = f) = false := by
  rw [decide_eq_false_iff_not]
  rintro rfl
  cases g <;> simp [Lasting, OutFrame.isClaimFor] at hf hg

theorem lasting_not_announce (hf : Lasting f = true) : NoAnnounce (fun g => decide (g = f)) := by
  intro g hg
  rw [decide_eq_false_iff_not]
  rintro rfl
  cases g <;> simp [Lasting, OutFrame.isAnnounce] at hf hg

theorem hasFrame_offerFrame (hf : Lasting f = true) (h : HasFrame f s) (g : OutFrame) : HasFrame f (offerFrame s g) := by
  rw [hasFrame_iff] at h ⊢
  rw [framesBy_offerFrame (lasting_not_announce hf)]
  exact List.append_ne_nil_of_left_ne_nil h _

theorem hasFrame_offered (hf : Lasting f = true) (s : State) : HasFrame f (offerFrame s f) := by
  rw [hasFrame_iff, framesBy_offerFrame (lasting_not_announce hf)]
  simp

theorem hasFrame_askWithdrawal (hf : Lasting f = true) (h : HasFrame f s) (k : Nat) :
    HasFrame f (setTx s (askWithdrawal (OutFrame.isClaimFor k) s.line.tx)) := by
  rw [hasFrame_iff] at h ⊢
  rwa [framesBy_askWithdrawal fun _ => lasting_not_claim hf]

theorem hasFrame_orphanAttempt (hf : Lasting f = true) (h : HasFrame f s) (k : Nat) :
    HasFrame f (setTx s (orphanAttempt k s.line.tx)) := by
  rw [hasFrame_iff] at h ⊢
  have e : framesBy (fun g => decide (g = f)) (setTx s (orphanAttempt k s.line.tx)) =
    framesBy (fun g => decide (g = f)) s := filter_orphanAttempt (fun _ => lasting_not_claim hf) _
  rwa [e]

theorem hasFrame_withdrawAnnounces (hf : Lasting f = true) (h : HasFrame f s) {r : OutFrame → Bool}
    (hr : ∀ g, r g = true → g.isAnnounce = true) : HasFrame f (withdrawAnnounces s r) := by
  rw [hasFrame_iff] at h ⊢
  rwa [framesBy_withdrawAnnounces fun g hg => lasting_not_announce hf g (hr g hg)]

theorem isAnnounce_of_for {k : Nat} {g : OutFrame} (h : g.isAnnounceFor k = true) : g.isAnnounce = true := by
  cases g <;> simp [OutFrame.isAnnounceFor, OutFrame.isAnnounce] at h ⊢

theorem hasFrame_leaveWithEnd (h : HasFrame f s) (c : Claim) (e : PendingEnd) : HasFrame f (leaveWithEnd s c e) :=
  hasFrame_congr h (by simp)

theorem hasFrame_cancelTest (h : HasFrame f s) (p : PlaceId) : HasFrame f (cancelTest s p) := hasFrame_congr h (by simp)

theorem hasFrame_endAndTest (hf : Lasting f = true) (h : HasFrame f s) (k : Nat) (e : PendingEnd) :
    HasFrame f (endAndTest s k e) := by
  unfold endAndTest
  split
  · exact h
  · refine hasFrame_cancelTest ?_ _
    unfold endUncommitted
    split
    · exact h
    · dsimp only
      have asked : ∀ g : Claim → Claim, HasFrame f (setTx (modifyClaim s k g)
          (askWithdrawal (OutFrame.isClaimFor k) s.line.tx)) := fun g =>
        hasFrame_congr (hasFrame_askWithdrawal hf h k) rfl
      split
      · split
        · exact hasFrame_leaveWithEnd (asked _) _ _
        · exact asked _
      · exact hasFrame_congr h (by simp)
      all_goals exact h

theorem hasFrame_testClaim (hf : Lasting f = true) (h : HasFrame f s) (k : Nat) : HasFrame f (testClaim s k) := by
  have modified : ∀ g : Claim → Claim, HasFrame f (modifyClaim s k g) := fun g => hasFrame_congr h (by simp)
  unfold testClaim
  split
  · exact h
  · split
    · split
      · exact h
      · exact hasFrame_endAndTest hf (modified _) _ _
    · split
      · exact h
      · exact modified _
    · split
      · exact modified _
      · exact h
    all_goals exact h

/-- A property that each step of a fold keeps is kept by the fold. -/
theorem foldl_induct {α : Type} {P : State → Prop} {f : State → α → State} (hf : ∀ u a, P u → P (f u a)) (l : List α)
    (h : P s) : P (l.foldl f s) := by
  induction l generalizing s with
  | nil => exact h
  | cons a l ih => exact ih (hf s a h)

theorem hasFrame_testClaims (hf : Lasting f = true) (h : HasFrame f s) : HasFrame f (testClaims s) :=
  foldl_induct (P := HasFrame f) (fun _ k hu => hasFrame_testClaim hf hu k) _ h

theorem hasFrame_sweep (hf : Lasting f = true) (h : HasFrame f s) (n : Nat) : HasFrame f (sweep n s) := by
  induction n with
  | zero => exact h
  | succ n ih =>
    rw [sweep_succ]
    exact hasFrame_testClaims hf (hasFrame_congr ih (by simp))

theorem hasFrame_inductionPassage (hf : Lasting f = true) (h : HasFrame f s) (k : Nat) :
    HasFrame f (inductionPassage s k) :=
  hasFrame_withdrawAnnounces hf (hasFrame_congr h (by simp)) fun _ => isAnnounce_of_for

theorem hasFrame_searchSlot (hf : Lasting f = true) (h : HasFrame f s) (k : Nat) : HasFrame f (searchSlot s k) := by
  unfold searchSlot
  split
  · exact h
  · split
    · split
      · exact hasFrame_offerFrame hf (hasFrame_congr h (by simp)) _
      · exact h
    · exact h

theorem hasFrame_runSearch (hf : Lasting f = true) (h : HasFrame f s) : HasFrame f (runSearch s) := by
  have cleared : HasFrame f (s.setContest { s.contest with searchDue := false }) := hasFrame_congr h (by simp)
  unfold runSearch
  dsimp only
  split
  · exact foldl_induct (P := HasFrame f) (fun _ k hu => hasFrame_searchSlot hf hu k) _ cleared
  · exact cleared

/-! ### The CLAIM frames of a slot -/

theorem noAnnounce_claimFor (k : Nat) : NoAnnounce (OutFrame.isClaimFor k) := by
  intro f hf
  cases f <;> simp [OutFrame.isAnnounce, OutFrame.isClaimFor] at hf ⊢

theorem claimFor_ne {j k : Nat} (h : j ≠ k) {g : OutFrame} (hg : g.isClaimFor j = true) : g.isClaimFor k = false := by
  cases g <;> simp [OutFrame.isClaimFor] at hg ⊢
  omega

/-- The CLAIM frames of a slot. -/
def claimFrames (k : Nat) (s : State) : List TxFrame := framesBy (OutFrame.isClaimFor k) s

theorem claimFrames_congr {k : Nat} (h : t.line.tx = s.line.tx) : claimFrames k t = claimFrames k s := framesBy_congr h

theorem mem_claimFrames {k : Nat} {x : TxFrame} : x ∈ claimFrames k s ↔ x ∈ s.line.tx ∧ x.frame.isClaimFor k = true :=
  mem_framesBy

theorem claimFrames_offerFrame {k : Nat} {g : OutFrame} (hg : g.isClaimFor k = false) :
    claimFrames k (offerFrame s g) = claimFrames k s := framesBy_offerFrame_other (noAnnounce_claimFor k) hg

theorem claimFrames_withdrawAnnounces {k : Nat} {r : OutFrame → Bool} (hr : ∀ g, r g = true → g.isAnnounce = true) :
    claimFrames k (withdrawAnnounces s r) = claimFrames k s :=
  framesBy_withdrawAnnounces (fun g hg => noAnnounce_claimFor k g (hr g hg)) s

theorem claimFrames_askWithdrawal {j k : Nat} (h : j ≠ k) :
    claimFrames k (setTx s (askWithdrawal (OutFrame.isClaimFor j) s.line.tx)) = claimFrames k s :=
  framesBy_askWithdrawal (fun _ => claimFor_ne h) s

theorem claimFrames_orphanAttempt {j k : Nat} (h : j ≠ k) :
    claimFrames k (setTx s (orphanAttempt j s.line.tx)) = claimFrames k s :=
  filter_orphanAttempt (fun _ => claimFor_ne h) _

end Sys2Proof.Laws
end

section
/-! SUPPORT. The entry of one slot: what an operation on another slot leaves of it, and what an immediate withdrawal makes of it (R102, R123). -/

namespace Sys2Proof.Laws

open Sys2Proof Sys2Proof.Machine Sys2Proof.Safety

variable {s t u : State} {j k : Nat} {c : Claim}

/-! ### The entry of a slot -/

theorem claimAt_congr (h : t.contest.claims = s.contest.claims) (k : Nat) : t.claimAt k = s.claimAt k := by
  unfold State.claimAt; rw [h]

theorem claimAt_mem (h : s.claimAt k = some c) : c ∈ s.contest.claims := List.mem_of_find?_eq_some h

theorem claimAt_slot (h : s.claimAt k = some c) : c.slot = k := by
  simpa using List.find?_some h

/-- R102: no slot has two entries, so an entry of the table is the entry of its slot. -/
theorem claimAt_of_mem (h : (s.contest.claims.map (·.slot)).Nodup) (hc : c ∈ s.contest.claims) :
    s.claimAt c.slot = some c := by
  unfold State.claimAt
  generalize s.contest.claims = l at h hc
  induction l with
  | nil => simp at hc
  | cons a l ih =>
    rw [List.map_cons, List.nodup_cons] at h
    rcases List.mem_cons.1 hc with rfl | hc
    · simp
    · have : a.slot ≠ c.slot := fun e => h.1 (e ▸ List.mem_map_of_mem hc)
      rw [List.find?_cons_of_neg (by simpa using this)]
      exact ih h.2 hc

theorem claims_eq_nil (h : ∀ k, s.claimAt k = none) : s.contest.claims = [] := by
  rw [List.eq_nil_iff_forall_not_mem]
  intro c hc
  exact (claimAt_none_iff s c.slot).1 (h c.slot) (List.mem_map_of_mem hc)

theorem leaveClaim_claims (s : State) (c : Claim) :
    (leaveClaim s c).contest.claims = s.contest.claims.filter (fun d => decide (d.slot ≠ c.slot)) := rfl

theorem leaveWithEnd_claims (s : State) (c : Claim) (e : PendingEnd) : (leaveWithEnd s c e).contest.claims =
    s.contest.claims.filter (fun d => decide (d.slot ≠ c.slot)) := by
  unfold leaveWithEnd
  rw [leaveClaim_claims]
  simp

theorem claimAt_without_self (h : t.contest.claims = s.contest.claims.filter (fun d => decide (d.slot ≠ k))) :
    t.claimAt k = none := by
  unfold State.claimAt
  rw [h, List.find?_eq_none]
  intro d hd
  simpa using (List.mem_filter.1 hd).2

theorem claimAt_without_other (h : t.contest.claims = s.contest.claims.filter (fun d => decide (d.slot ≠ j)))
    (hj : j ≠ k) : t.claimAt k = s.claimAt k := by
  unfold State.claimAt
  rw [h, List.find?_filter]
  congr 1
  funext d
  by_cases e : d.slot = k
  · subst e; simp [Ne.symm hj]
  · simp [e]

theorem claimAt_modifyClaim_self {f : Claim → Claim} (hf : ∀ d, (f d).slot = d.slot) (s : State) (k : Nat) :
    (modifyClaim s k f).claimAt k = (s.claimAt k).map f := by
  show List.find? _ (List.map _ _) = Option.map f (List.find? _ _)
  generalize s.contest.claims = l
  induction l with
  | nil => rfl
  | cons a l ih =>
    rw [List.map_cons]
    by_cases h : a.slot = k
    · simp [h, hf]
    · rw [if_neg h, List.find?_cons_of_neg (by simpa using h), List.find?_cons_of_neg (by simpa using h), ih]

theorem claimAt_modifyClaim_other {f : Claim → Claim} (hf : ∀ d, (f d).slot = d.slot) (s : State) (hj : j ≠ k) :
    (modifyClaim s j f).claimAt k = s.claimAt k := by
  show List.find? _ (List.map _ _) = List.find? _ _
  generalize s.contest.claims = l
  induction l with
  | nil => rfl
  | cons a l ih =>
    rw [List.map_cons]
    by_cases h : a.slot = j
    · have ne : a.slot ≠ k := h ▸ hj
      rw [if_pos h, List.find?_cons_of_neg (by simpa [hf] using ne), List.find?_cons_of_neg (by simpa using ne), ih]
    · rw [if_neg h, List.find?_cons, List.find?_cons, ih]

/-- R102: the slots of the entries, in fire order, are those of the table. -/
theorem claimSlots_perm (s : State) : (claimSlots s).Perm (s.contest.claims.map (·.slot)) := (sortBy_perm _ _).map _

theorem mem_claimSlots : k ∈ claimSlots s ↔ s.claimAt k ≠ none := by
  rw [(claimSlots_perm s).mem_iff, ne_eq, claimAt_none_iff, not_not]

theorem claimSlots_nil (h : s.contest.claims = []) : claimSlots s = [] := by
  simpa [h] using claimSlots_perm s

/-! ### What an operation leaves of the entry of another slot -/

/-- The entry of a slot, its CLAIM frames, and its place among the CLAIM frames without an entry. -/
structure SlotKept (k : Nat) (s t : State) : Prop where
  claim : t.claimAt k = s.claimAt k
  frames : claimFrames k t = claimFrames k s
  orphans : t.contest.orphans.count k = s.contest.orphans.count k

theorem slotKept_refl (k : Nat) (s : State) : SlotKept k s s := ⟨rfl, rfl, rfl⟩

theorem slotKept_trans (h : SlotKept k s t) (h' : SlotKept k t u) : SlotKept k s u :=
  ⟨h'.claim.trans h.claim, h'.frames.trans h.frames, h'.orphans.trans h.orphans⟩

theorem slotKept_frame (h : SlotKept k s t) (same : u.contest = t.contest ∧ u.line = t.line) : SlotKept k s u :=
  have ⟨hc, hl⟩ := same
  ⟨(claimAt_congr (by rw [hc]) k).trans h.claim, (claimFrames_congr (by rw [hl])).trans h.frames, by
    rw [hc]; exact h.orphans⟩

theorem slotKept_foldl {α : Type} {f : State → α → State} {l : List α}
    (hf : ∀ u, ∀ a ∈ l, SlotKept k s u → SlotKept k s (f u a)) (h : SlotKept k s t) : SlotKept k s (l.foldl f t) := by
  induction l generalizing t with
  | nil => exact h
  | cons a l ih =>
    exact ih (fun u b hb hu => hf u b (List.mem_cons_of_mem a hb) hu) (hf t a List.mem_cons_self h)

theorem slotKept_offerFrame (h : SlotKept k s t) {g : OutFrame} (hg : g.isClaimFor k = false) :
    SlotKept k s (offerFrame t g) :=
  ⟨(claimAt_congr (by simp) k).trans h.claim, (claimFrames_offerFrame hg).trans h.frames, by simpa using h.orphans⟩

theorem slotKept_withdrawAnnounces (h : SlotKept k s t) {r : OutFrame → Bool}
    (hr : ∀ g, r g = true → g.isAnnounce = true) : SlotKept k s (withdrawAnnounces t r) :=
  ⟨(claimAt_congr (by simp) k).trans h.claim, (claimFrames_withdrawAnnounces hr).trans h.frames, by
    simpa using h.orphans⟩

theorem slotKept_leaveClaim (h : SlotKept k s t) (hc : c.slot ≠ k) : SlotKept k s (leaveClaim t c) :=
  ⟨(claimAt_without_other (leaveClaim_claims t c) hc).trans h.claim, (claimFrames_congr (by simp)).trans h.frames,
    h.orphans⟩

theorem slotKept_dropClaim (h : SlotKept k s t) (hc : c.slot ≠ k) : SlotKept k s (dropClaim t c) :=
  ⟨(claimAt_without_other (leaveClaim_claims t c) hc).trans h.claim, (claimFrames_congr (by simp)).trans h.frames,
    h.orphans⟩

theorem slotKept_modifyClaim (h : SlotKept k s t) (hj : j ≠ k) {f : Claim → Claim} (hf : ∀ d, (f d).slot = d.slot) :
    SlotKept k s (modifyClaim t j f) :=
  ⟨(claimAt_modifyClaim_other hf t hj).trans h.claim, (claimFrames_congr (by simp)).trans h.frames, h.orphans⟩

theorem slotKept_askWithdrawal (h : SlotKept k s t) (hj : j ≠ k) :
    SlotKept k s (setTx t (askWithdrawal (OutFrame.isClaimFor j) t.line.tx)) :=
  ⟨h.claim, (claimFrames_askWithdrawal hj).trans h.frames, h.orphans⟩

theorem slotKept_orphanAttempt (h : SlotKept k s t) (hj : j ≠ k) : SlotKept k s (setTx t (orphanAttempt j t.line.tx)) :=
  ⟨h.claim, (claimFrames_orphanAttempt hj).trans h.frames, h.orphans⟩

theorem slotKept_addOrphan (h : SlotKept k s t) (hj : j ≠ k) : SlotKept k s (addOrphan t j) :=
  ⟨h.claim, h.frames, by
    rw [← h.orphans]
    simp [addOrphan, List.count_append, hj]⟩

theorem slotKept_cancelTest (h : SlotKept k s t) (p : PlaceId) : SlotKept k s (cancelTest t p) := slotKept_frame h (by simp)

theorem slotKept_leaveWithEnd (h : SlotKept k s t) (hc : c.slot ≠ k) (e : PendingEnd) :
    SlotKept k s (leaveWithEnd t c e) := slotKept_leaveClaim (slotKept_frame h (by simp)) hc

theorem slotKept_endUncommitted (h : SlotKept k s t) (hj : j ≠ k) (e : PendingEnd) :
    SlotKept k s (endUncommitted t j e) := by
  unfold endUncommitted
  split
  · exact h
  · rename_i c hc
    have slot : c.slot ≠ k := claimAt_slot hc ▸ hj
    have marked := slotKept_modifyClaim h hj (f := fun d => { d with pendingEnd := some (c.pendingEnd.getD e) })
      fun _ => rfl
    have asked : SlotKept k s (setTx (modifyClaim t j fun d => { d with pendingEnd := some (c.pendingEnd.getD e) })
        (askWithdrawal (OutFrame.isClaimFor j) t.line.tx)) := slotKept_askWithdrawal marked hj
    dsimp only
    split
    · split
      · exact slotKept_leaveWithEnd asked slot _
      · exact asked
    · exact marked
    all_goals exact h

theorem slotKept_endAndTest (h : SlotKept k s t) (hj : j ≠ k) (e : PendingEnd) : SlotKept k s (endAndTest t j e) := by
  unfold endAndTest
  split
  · exact h
  · exact slotKept_cancelTest (slotKept_endUncommitted h hj e) _

theorem slotKept_testClaim (h : SlotKept k s t) (hj : j ≠ k) : SlotKept k s (testClaim t j) := by
  unfold testClaim
  split
  · exact h
  · split
    · split
      · exact h
      · exact slotKept_endAndTest (slotKept_modifyClaim h hj (f := fun d => { d with late := true }) fun _ => rfl) hj _
    · split
      · exact h
      · exact slotKept_modifyClaim h hj fun _ => rfl
    · split
      · exact slotKept_modifyClaim h hj fun _ => rfl
      · exact h
    all_goals exact h

theorem slotKept_faultClaim (h : SlotKept k s t) (hj : j ≠ k) : SlotKept k s (faultClaim t j) := by
  unfold faultClaim
  split
  · exact h
  · rename_i c hc
    have left := slotKept_leaveClaim h (c := c) (claimAt_slot hc ▸ hj)
    refine slotKept_cancelTest ?_ _
    split
    · exact slotKept_orphanAttempt left hj
    · exact slotKept_addOrphan left hj
    all_goals exact slotKept_offerFrame left rfl

/-! ### An immediate withdrawal of the claim table (R123) -/

theorem faultClaim_none (h : s.claimAt k = none) : faultClaim s k = s := by
  unfold faultClaim; rw [h]

/-- R123: the frames of a QUEUED claim are gone, or left in their attempt without an entry. -/
def Settled (k : Nat) (s : State) : Prop :=
  ∀ x ∈ claimFrames k s, x.sending = true ∨ (x.inAttempt = true ∧ x.withdrawAsked = true ∧ x.orphaned = true)

theorem settled_congr (h : Settled k s) (ht : t.line.tx = s.line.tx) : Settled k t := by
  unfold Settled
  rw [claimFrames_congr ht]
  exact h

/-- R123: what an immediate withdrawal leaves of the slot k of a state s. -/
structure Faulted (k : Nat) (s t : State) : Prop where
  claim : t.claimAt k = none
  released : ∀ c, s.claimAt k = some c → c.state = .armed ∨ c.state = .committed → HasFrame (.release k .fault) t
  missed : ∀ c, s.claimAt k = some c → c.state = .firing → HasFrame (.missed k) t
  queued : ∀ c, s.claimAt k = some c → c.state = .queued → Settled k t
  orphans : t.contest.orphans.count k = s.contest.orphans.count k +
    if (s.claimAt k).map (·.state) = some .sending then 1 else 0

theorem settled_orphanAttempt (k : Nat) (s : State) : Settled k (setTx s (orphanAttempt k s.line.tx)) := by
  intro x hx
  obtain ⟨hx, hk⟩ := mem_claimFrames.1 hx
  simp only [tx_setTx, orphanAttempt, askWithdrawal, List.map_map, List.mem_map, List.mem_filter, Function.comp_apply,
    Bool.not_eq_true', Bool.and_eq_false_iff] at hx
  obtain ⟨y, ⟨-, hy⟩, rfl⟩ := hx
  by_cases hf : y.frame.isClaimFor k = true
  · cases hs : y.sending
    · have : y.inAttempt = true := by simpa [hf, TxFrame.idle, hs] using hy
      right
      simp [hf, this]
    · left
      simp [hs]
  · simp [hf] at hk

theorem hasFrame_faultClaim {f : OutFrame} (hf : Lasting f = true) (h : HasFrame f s) (k : Nat) :
    HasFrame f (faultClaim s k) := by
  unfold faultClaim
  split
  · exact h
  · rename_i c _
    have left : HasFrame f (leaveClaim s c) := hasFrame_congr h (by simp)
    refine hasFrame_cancelTest ?_ _
    split
    · exact hasFrame_orphanAttempt hf left k
    · exact hasFrame_congr left (by simp)
    all_goals exact hasFrame_offerFrame hf left _

theorem faulted_of_claim (hc : s.claimAt k = some c) (claim : t.claimAt k = none)
    (released : c.state = .armed ∨ c.state = .committed → HasFrame (.release k .fault) t)
    (missed : c.state = .firing → HasFrame (.missed k) t) (queued : c.state = .queued → Settled k t)
    (orphans : t.contest.orphans.count k = s.contest.orphans.count k + if c.state = .sending then 1 else 0) :
    Faulted k s t := by
  have own : ∀ d, s.claimAt k = some d → d = c := fun d hd => Option.some.inj (hd ▸ hc)
  exact ⟨claim, fun d hd => own d hd ▸ released, fun d hd => own d hd ▸ missed, fun d hd => own d hd ▸ queued, by
    simpa [hc] using orphans⟩

theorem faulted_faultClaim (hc : s.claimAt k = some c) : Faulted k s (faultClaim s k) := by
  have gone : ∀ {v : State}, v.contest.claims = (leaveClaim s c).contest.claims →
      (cancelTest v c.target.place).claimAt k = none := fun hv =>
    (claimAt_congr (by simp) k).trans (claimAt_without_self (claimAt_slot hc ▸ hv.trans (leaveClaim_claims s c)))
  have offered : ∀ f, Lasting f = true → HasFrame f (cancelTest (offerFrame (leaveClaim s c) f) c.target.place) :=
    fun f hf => hasFrame_cancelTest (hasFrame_offered hf _) _
  have orphans : (leaveClaim s c).contest.orphans = s.contest.orphans := rfl
  unfold faultClaim
  rw [hc]
  dsimp only
  split <;> rename_i hs
  · refine faulted_of_claim hc (gone rfl) (by simp [hs]) (by simp [hs]) (fun _ => ?_) (by simp [hs, orphans])
    exact settled_congr (settled_orphanAttempt k (leaveClaim s c)) (by simp)
  · exact faulted_of_claim hc (gone rfl) (by simp [hs]) (by simp [hs]) (by simp [hs]) (by simp [hs, addOrphan, orphans])
  · exact faulted_of_claim hc (gone (by simp)) (fun _ => offered _ rfl) (by simp [hs]) (by simp [hs])
      (by simp [hs, orphans])
  · exact faulted_of_claim hc (gone (by simp)) (fun _ => offered _ rfl) (by simp [hs]) (by simp [hs])
      (by simp [hs, orphans])
  · exact faulted_of_claim hc (gone (by simp)) (by simp [hs]) (fun _ => offered _ rfl) (by simp [hs])
      (by simp [hs, orphans])

/-- The slot left, later operations leave it as it is. -/
theorem faulted_step (h : Faulted k s t) (hk : SlotKept k t u)
    (hf : ∀ f, Lasting f = true → HasFrame f t → HasFrame f u) : Faulted k s u :=
  ⟨hk.claim.trans h.claim, fun c hc hs => hf _ rfl (h.released c hc hs), fun c hc hs => hf _ rfl (h.missed c hc hs),
    fun c hc hs => by unfold Settled; rw [hk.frames]; exact h.queued c hc hs, hk.orphans.trans h.orphans⟩

/-- An empty slot has nothing to lose. -/
theorem faulted_of_none (h : s.claimAt k = none) (hk : SlotKept k s t) : Faulted k s t := by
  refine ⟨hk.claim.trans h, ?_, ?_, ?_, ?_⟩
  iterate 3
    intro c hc
    rw [h] at hc
    cases hc
  rw [h, hk.orphans]
  rfl

theorem faulted_congr (h : Faulted k t u) (hk : SlotKept k s t) : Faulted k s u :=
  ⟨h.claim, fun c hc => h.released c (hk.claim.trans hc), fun c hc => h.missed c (hk.claim.trans hc),
    fun c hc => h.queued c (hk.claim.trans hc), by rw [h.orphans, hk.orphans, hk.claim]⟩

/-- Every slot of the fold is left once, and stays left. -/
theorem faulted_foldl {l : List Nat} (hk : Faulted k s t ∨ (SlotKept k s t ∧ (s.claimAt k ≠ none → k ∈ l))) :
    Faulted k s (l.foldl faultClaim t) := by
  induction l generalizing t with
  | nil =>
    rcases hk with h | ⟨h, hn⟩
    · exact h
    · exact faulted_of_none (by simpa using hn) h
  | cons j l ih =>
    refine ih ?_
    rcases hk with h | ⟨h, hn⟩
    · left
      by_cases hj : j = k
      · subst hj
        rwa [faultClaim_none h.claim]
      · exact faulted_step h (slotKept_faultClaim (slotKept_refl k t) hj) fun f hf ht => hasFrame_faultClaim hf ht j
    · by_cases hj : j = k
      · subst hj
        left
        cases hc : t.claimAt j with
        | none =>
          rw [faultClaim_none hc]
          exact faulted_of_none (h.claim.symm.trans hc) h
        | some c => exact faulted_congr (faulted_faultClaim hc) h
      · right
        refine ⟨slotKept_faultClaim h hj, fun hs => ?_⟩
        exact (List.mem_cons.1 (hn hs)).resolve_left (Ne.symm hj)

theorem faulted_faultClaims (k : Nat) (s : State) : Faulted k s (faultClaims s) :=
  faulted_foldl (Or.inr ⟨slotKept_refl k s, mem_claimSlots.2⟩)

end Sys2Proof.Laws
end

section
/-! SUPPORT. The fault record and the count of marks under operations that raise no fault, and what an immediate withdrawal leaves (R141, R167, R168, R186). -/

namespace Sys2Proof.Laws

open Sys2Proof Sys2Proof.Machine Sys2Proof.Safety

variable {E : List CounterEvent} {s₀ s t u : State}

/-! ### Operations that raise no fault -/

/-- The fault record but for NOTICE_OVERRUN, which a lost notice writes (R186), the slip cause and the marks of
LISTENING. -/
structure Noted (s t : State) : Prop where
  fault : ∀ f, f ≠ .noticeOverrun → t.fault f = s.fault f
  cause : t.part.slipCause = s.part.slipCause
  marks : t.part.listeningMarks = s.part.listeningMarks

theorem noted_refl (s : State) : Noted s s := ⟨fun _ _ => rfl, rfl, rfl⟩

theorem noted_frame (h : Noted s₀ s) (ht : t.part = s.part) : Noted s₀ t :=
  ⟨fun f hf => by
    unfold State.fault
    rw [ht]
    exact h.fault f hf, ht ▸ h.cause, ht ▸ h.marks⟩

theorem noted_foldl {α : Type} {f : State → α → State} (hf : ∀ u a, Noted s₀ u → Noted s₀ (f u a)) (l : List α)
    (h : Noted s₀ s) : Noted s₀ (l.foldl f s) := foldl_induct (P := Noted s₀) hf l h

theorem noted_offerNotice (h : Noted s₀ s) (n : Notice) : Noted s₀ (offerNotice s n) := by
  have same : (offerNotice s n).part.slipCause = s.part.slipCause ∧
      (offerNotice s n).part.listeningMarks = s.part.listeningMarks := by
    unfold offerNotice
    split <;> exact ⟨rfl, rfl⟩
  exact ⟨fun f hf => (fault_offerNotice s n hf).trans (h.fault f hf), same.1.trans h.cause, same.2.trans h.marks⟩

theorem noted_cancelTest (h : Noted s₀ s) (p : PlaceId) : Noted s₀ (cancelTest s p) := by
  unfold cancelTest
  split
  · exact noted_offerNotice (noted_frame h (by simp)) _
  · exact h

theorem noted_faultClaims (h : Noted s₀ s) : Noted s₀ (faultClaims s) := by
  refine noted_foldl (fun u k hu => ?_) _ h
  unfold faultClaim
  split
  · exact hu
  · rename_i c _
    have left : Noted s₀ (leaveClaim u c) := noted_frame hu (by simp)
    refine noted_cancelTest ?_ _
    split <;> exact noted_frame left (by simp)

theorem noted_testClaims (h : Noted s₀ s) : Noted s₀ (testClaims s) := by
  refine noted_foldl (fun u k hu => ?_) _ h
  unfold testClaim
  split
  · exact hu
  · split
    · split
      · exact hu
      · unfold endAndTest
        split
        · exact noted_frame hu (by simp)
        · exact noted_cancelTest (noted_frame hu (by simp)) _
    · split
      · exact hu
      · exact noted_frame hu (by simp)
    · split
      · exact noted_frame hu (by simp)
      · exact hu
    all_goals exact hu

theorem noted_moveTo (h : Noted s₀ s) (st : Participation) : Noted s₀ (moveTo s st) := by
  unfold moveTo
  split
  · exact h
  · have moved : Noted s₀ (s.setPart { s.part with state := st }) := ⟨h.fault, h.cause, h.marks⟩
    exact noted_offerNotice moved _

theorem noted_stopDivert (h : Noted s₀ s) : Noted s₀ (stopDivert s) := by
  unfold stopDivert
  dsimp only
  split
  · split
    · exact noted_offerNotice (noted_frame h (by simp)) _
    · exact noted_frame h (by simp)
  · exact noted_frame h (by simp)

theorem noted_immediateWithdraw (h : Noted s₀ s) (code : Nat) : Noted s₀ (immediateWithdraw s code) := by
  have offered : Noted s₀ (offerWithdraw (moveTo s .withdrawn) code) := noted_frame (noted_moveTo h .withdrawn) (by simp)
  exact noted_frame (noted_faultClaims (noted_stopDivert offered)) (by simp [immediateWithdraw])

theorem noted_closeMissed (h : Noted s₀ s) (f : Fire) : Noted s₀ (closeMissed s f) := by
  have told : Noted s₀ (offerNotice (reportPlace (setFire s (some { f with window := none })) .missed f.place)
      (.divertMissed f.slot f.place)) := noted_offerNotice (noted_frame h (by simp)) _
  unfold closeMissed outcomeMissed
  dsimp only
  split
  · exact noted_cancelTest (noted_frame told (by simp)) _
  · exact told

theorem noted_closeEarlierFire (h : Noted s₀ s) : Noted s₀ (closeEarlierFire s) := by
  unfold closeEarlierFire
  split
  · split
    · exact noted_frame (noted_closeMissed h ‹Fire›) (by simp)
    · exact noted_frame h (by simp)
  · exact h

theorem noted_fireReached (h : Noted s₀ s) (r : Nat → Bool) : Noted s₀ (fireReached s r) := by
  unfold fireReached
  split
  · split
    · exact noted_frame (noted_closeEarlierFire h) (by simp [fireClaim])
    · exact h
  · exact h

theorem noted_forwardRealignment (s : State) : Noted s (forwardRealignment s) := by
  have swept : ∀ n u, Noted s u → Noted s (sweep n u) := fun n u hu => by
    induction n with
    | zero => exact hu
    | succ n ih =>
      rw [sweep_succ]
      exact noted_testClaims (noted_frame ih (by simp))
  rw [forwardRealignment_eq]
  exact noted_frame (swept (s.loopLen - s.loop.counter) _ (noted_fireReached (noted_refl s)
    (fun f => decide (s.loop.counter < f) || decide (f = 0)))) (by simp)

theorem recordFault_fault (s : State) {f : FaultId} (hf : f ≠ .noticeOverrun) (d : Nat) :
    (recordFault s f d).fault f = f.raisedEntry :=
  (fault_offerNotice _ _ hf).trans (fault_setFault_self s f _)

theorem recordFault_cause (s : State) (f : FaultId) (d : Nat) :
    (recordFault s f d).part.slipCause = s.part.slipCause :=
  (noted_offerNotice (noted_refl (setFault s f f.raisedEntry)) _).cause

/-- R12, R13: a slip is recorded with its cause. -/
theorem raiseSlip_recorded (s : State) (c : SlipCause) : (raiseSlip s c).part.slipCause = some c ∧
    (raiseSlip s c).fault .indexSlip = ⟨true, false, false⟩ := by
  unfold raiseSlip
  dsimp only
  have kept := noted_immediateWithdraw (code := FaultId.indexSlip.code)
    (noted_refl (recordFault (s.setPart { s.part with slipCause := some c }) .indexSlip c.code))
  constructor
  · rw [kept.cause, recordFault_cause, State.setPart_part]
  · exact (kept.fault .indexSlip (by decide)).trans (recordFault_fault _ (by decide) _)

theorem raiseImmediate_fault (s : State) {f : FaultId} (hf : f ≠ .noticeOverrun) :
    (raiseImmediate s f).fault f = f.raisedEntry :=
  ((noted_immediateWithdraw (noted_refl (recordFault s f 0)) f.code).fault f hf).trans (recordFault_fault s hf 0)

/-! ### The parts of an immediate withdrawal (R141, R167) -/

theorem length_offerNotice (s : State) (n : Notice) :
    (offerNotice s n).port.notices.length ≤ s.port.notices.length + 1 := by
  unfold offerNotice
  split
  · simp
  · exact Nat.le_succ _

theorem length_moveTo (s : State) (st : Participation) :
    (moveTo s st).port.notices.length ≤ s.port.notices.length + 1 := by
  unfold moveTo
  split
  · exact Nat.le_succ _
  · exact length_offerNotice _ _

theorem moveTo_state (s : State) (st : Participation) : (moveTo s st).part.state = st := by
  unfold moveTo
  split
  · assumption
  · simp

/-- R188: a report of an event for a place is counted once by the counters that count it. -/
theorem countedOnce_reportPlace (s : State) (e : CounterEvent) (p : PlaceId) :
    CountedOnce s (reportPlace s e p) e p := by
  intro i hi
  obtain ⟨event, filter⟩ := hi
  unfold reportPlace
  rw [report_counter]
  refine take_admitted event ?_
  rcases filter with h | h
  · rw [h]; rfl
  · rw [h]; exact decide_eq_true rfl

/-- Other reports before it and after it leave the count of an event as it is. -/
theorem countedOnce_between {e : CounterEvent} {p : PlaceId} (he : e ∉ E) (before : Counted E s.counters t.counters)
    (after : Counted E (reportPlace t e p).counters u.counters) : CountedOnce s u e p := by
  intro i hi
  obtain ⟨event, filter⟩ := hi
  have first := before.silent event he
  have counted := countedOnce_reportPlace t e p i ⟨first ▸ event, first ▸ filter⟩
  have same : (reportPlace t e p).counters[i].event = some e := by
    unfold reportPlace
    rw [report_counter, take_event, first, event]
  rw [after.silent same he, counted, first]

theorem stopDivert_fire (s : State) : (stopDivert s).divert.fire = none := by
  unfold stopDivert
  dsimp only
  split
  · split <;> simp [setFire]
  · rename_i h
    exact h

theorem stopDivert_output (s : State) : (stopDivert s).divert.output = false := by
  unfold stopDivert
  dsimp only
  split
  · split <;> simp [setFire, setOutput]
  · rfl

/-- R141: a window that is open when the divert stops is one MISSED, with its notice. -/
theorem stopDivert_window {f : Fire} {n : Nat} (hf : s.divert.fire = some f) (hn : f.window = some n) :
    stopDivert s = offerNotice (reportPlace (setFire (setOutput s false) none) .missed f.place)
      (.divertMissed f.slot f.place) := by
  have : (setOutput s false).divert.fire = some f := hf
  unfold stopDivert
  dsimp only
  rw [this]
  simp [hn]

/-- The state s but for the Loop Tracker, the gate, the record of a fault and at most two notices more. -/
structure Noticed (s u : State) : Prop where
  config : u.config = s.config
  pins : u.pins = s.pins
  pending : u.pending = s.pending
  view : u.view = s.view
  contest : u.contest = s.contest
  tx : u.line.tx = s.line.tx
  divert : u.divert = s.divert
  staging : u.staging = s.staging
  counters : u.counters = s.counters
  room : u.port.notices.length ≤ s.port.notices.length + 2

theorem hasFrame_faultClaims {f : OutFrame} (hf : Lasting f = true) (h : HasFrame f s) : HasFrame f (faultClaims s) :=
  foldl_induct (P := HasFrame f) (fun _ k hu => hasFrame_faultClaim hf hu k) _ h

theorem hasFrame_ending {f : OutFrame} (hf : Lasting f = true) (h : HasFrame f s) :
    HasFrame f (withdrawAnnounces (emptyView s) OutFrame.isAnnounce) :=
  hasFrame_withdrawAnnounces hf (hasFrame_congr h (by simp)) fun _ => id

theorem slotKept_ending (k : Nat) (s : State) :
    SlotKept k s (withdrawAnnounces (emptyView s) OutFrame.isAnnounce) :=
  slotKept_withdrawAnnounces (slotKept_frame (slotKept_refl k s) (by simp)) fun _ => id

theorem slotKept_offerWithdraw {k : Nat} (h : SlotKept k s t) (code : Nat) : SlotKept k s (offerWithdraw t code) := by
  have asked : claimFrames k (setTx t (askWithdrawal OutFrame.isParticipation t.line.tx)) = claimFrames k t :=
    framesBy_askWithdrawal (fun f hf => by cases f <;> simp [OutFrame.isParticipation, OutFrame.isClaimFor] at hf ⊢) t
  refine slotKept_offerFrame ?_ rfl
  exact ⟨h.claim, asked.trans h.frames, h.orphans⟩

theorem hasFrame_offerWithdraw (s : State) (code : Nat) : HasFrame (.withdraw code) (offerWithdraw s code) :=
  hasFrame_offered rfl _

theorem slotKept_stopDivert {k : Nat} (h : SlotKept k s t) : SlotKept k s (stopDivert t) := slotKept_frame h (by simp)

theorem slotKept_noticed (k : Nat) (h : Noticed s u) : SlotKept k s u :=
  ⟨claimAt_congr (by rw [h.contest]) k, claimFrames_congr h.tx, by rw [h.contest]⟩

/-- R141, R167: the window that an immediate withdrawal closes. -/
theorem window_immediateWithdraw (h : Noticed s u) (code : Nat) {f : Fire} {n : Nat} (hf : s.divert.fire = some f)
    (hn : f.window = some n) : CountedOnce s (immediateWithdraw u code) .missed f.place ∧
    (s.port.notices.length + 4 ≤ 32 → .divertMissed f.slot f.place ∈ (immediateWithdraw u code).port.notices) := by
  have begun := kept_offerWithdraw (List.Subset.refl claimEvents) (kept_moveTo (kept_refl claimEvents u)
    (by decide : Participation.withdrawn ≠ .start)) code
  have room := length_moveTo u .withdrawn
  unfold immediateWithdraw
  dsimp only
  rw [stopDivert_window (f := f) (n := n) (by simp [h.divert, hf]) hn]
  have told := kept_refl claimEvents (offerNotice (reportPlace (setFire (setOutput
    (offerWithdraw (moveTo u .withdrawn) code) false) none) .missed f.place) (.divertMissed f.slot f.place))
  have after := kept_withdrawAnnounces (List.Subset.refl _) (kept_emptyView (kept_faultClaims (List.Subset.refl _) told))
    OutFrame.isAnnounce
  constructor
  · refine countedOnce_between (t := setFire (setOutput (offerWithdraw (moveTo u .withdrawn) code) false) none)
      (E := claimEvents) (by decide) (by simpa [h.counters] using begun.counted) ?_
    simpa using after.counted
  · intro hl
    have := h.room
    exact after.notices.subset (mem_offerNotice (by simp; omega) _)

/-- R167: the six steps of an immediate withdrawal. -/
theorem withdrawnAtOnce_immediateWithdraw (h : Noticed s u) (code : Nat) :
    WithdrawnAtOnce s (immediateWithdraw u code) code := by
  have offered : HasFrame (.withdraw code) (stopDivert (offerWithdraw (moveTo u .withdrawn) code)) :=
    hasFrame_congr (hasFrame_offerWithdraw (moveTo u .withdrawn) code) (by simp)
  have slot : ∀ k, Faulted k s (immediateWithdraw u code) := fun k => by
    have before : SlotKept k s (offerWithdraw (moveTo u .withdrawn) code) :=
      slotKept_offerWithdraw (slotKept_frame (slotKept_noticed k h) (by simp)) code
    exact faulted_step (faulted_congr (faulted_faultClaims k _) (slotKept_stopDivert before)) (slotKept_ending k _)
      fun f hf => hasFrame_ending hf
  exact {
    state := by simp [immediateWithdraw, moveTo_state]
    output := by simp [immediateWithdraw, stopDivert_output]
    fire := by simp [immediateWithdraw, stopDivert_fire]
    claims := claims_eq_nil fun k => (slot k).claim
    view := by simp [immediateWithdraw, emptyView, h.view]
    frame := hasFrame_ending rfl (hasFrame_faultClaims rfl offered)
    staging := by simp [h.staging]
    config := by simp [h.config]
    pins := by simp [h.pins]
    pending := by simp [h.pending]
    released := fun k => (slot k).released
    missed := fun k => (slot k).missed
    queued := fun k c hc hs x hx hk => (slot k).queued c hc hs x (mem_claimFrames.2 ⟨hx, hk⟩)
    orphans := fun k => (slot k).orphans
    window := fun f n hf hn => window_immediateWithdraw h code hf hn }

end Sys2Proof.Laws
end

section
/-! SUPPORT. What follows an immediate withdrawal within its event leaves it as it is; the pulses that end in one, and those that do not (R4, R5, R13, R14, R167). -/

namespace Sys2Proof.Laws

open Sys2Proof Sys2Proof.Machine Sys2Proof.Safety

variable {E : List CounterEvent} {s t u : State}

/-! ### The rest of an event after an immediate withdrawal -/

/-- What the statement of an immediate withdrawal reads of a state, as the rest of the event leaves it. -/
structure Afterwards (t u : State) : Prop where
  state : u.part.state = t.part.state
  output : u.divert.output = t.divert.output
  fire : u.divert.fire = t.divert.fire
  claims : u.contest.claims = t.contest.claims
  orphans : u.contest.orphans = t.contest.orphans
  view : u.view = t.view
  staging : u.staging = t.staging
  config : u.config = t.config
  pins : u.pins = t.pins
  pending : u.pending = t.pending
  frames : ∀ k, claimFrames k u = claimFrames k t
  lasting : ∀ f, Lasting f = true → HasFrame f t → HasFrame f u
  missed : ∀ i : Fin 4, t.counters[i].event = some .missed → u.counters[i] = t.counters[i]
  notices : t.port.notices <+: u.port.notices

theorem afterwards_trans {v : State} (h : Afterwards t u) (h' : Afterwards u v) : Afterwards t v where
  state := h'.state.trans h.state
  output := h'.output.trans h.output
  fire := h'.fire.trans h.fire
  claims := h'.claims.trans h.claims
  orphans := h'.orphans.trans h.orphans
  view := h'.view.trans h.view
  staging := h'.staging.trans h.staging
  config := h'.config.trans h.config
  pins := h'.pins.trans h.pins
  pending := h'.pending.trans h.pending
  frames k := (h'.frames k).trans (h.frames k)
  lasting f hf ht := h'.lasting f hf (h.lasting f hf ht)
  missed i hi := (h'.missed i (by rw [h.missed i hi, hi])).trans (h.missed i hi)
  notices := h.notices.trans h'.notices

/-- An operation on blocks that an immediate withdrawal does not speak of. -/
theorem afterwards_frame (same : u.part = t.part ∧ u.divert = t.divert ∧ u.contest.claims = t.contest.claims ∧
    u.contest.orphans = t.contest.orphans ∧ u.view = t.view ∧ u.staging = t.staging ∧ u.config = t.config ∧
    u.pins = t.pins ∧ u.pending = t.pending ∧ u.line = t.line ∧ u.port = t.port)
    (missed : ∀ i : Fin 4, t.counters[i].event = some .missed → u.counters[i] = t.counters[i]) : Afterwards t u :=
  have ⟨part, divert, claims, orphans, view, staging, config, pins, pending, line, port⟩ := same
  ⟨by rw [part], by rw [divert], by rw [divert], claims, orphans, view, staging, config, pins, pending,
    fun k => claimFrames_congr (by rw [line]), fun f _ h => hasFrame_congr h (by rw [line]), missed, by rw [port]⟩

/-- What an event s does up to an immediate withdrawal, and the rest of the event after it. -/
theorem withdrawnAtOnce_afterwards {code : Nat} (h : WithdrawnAtOnce s t code) (hk : Kept E s t) (ha : Afterwards t u) :
    WithdrawnAtOnce s u code where
  state := ha.state.trans h.state
  output := ha.output.trans h.output
  fire := ha.fire.trans h.fire
  claims := ha.claims.trans h.claims
  view := ha.view.trans h.view
  frame := ha.lasting _ rfl h.frame
  staging := ha.staging.trans h.staging
  config := ha.config.trans h.config
  pins := ha.pins.trans h.pins
  pending := ha.pending.trans h.pending
  released k c hc hs := ha.lasting _ rfl (h.released k c hc hs)
  missed k c hc hs := ha.lasting _ rfl (h.missed k c hc hs)
  queued k c hc hs x hx hx' := by
    obtain ⟨hx, hx'⟩ := mem_claimFrames.1 (ha.frames k ▸ mem_claimFrames.2 ⟨hx, hx'⟩)
    exact h.queued k c hc hs x hx hx'
  orphans k := by rw [ha.orphans]; exact h.orphans k
  window f n hf hn := by
    obtain ⟨counted, told⟩ := h.window f n hf hn
    refine ⟨fun i hi => ?_, fun hl => ha.notices.subset (told hl)⟩
    rw [ha.missed i ((hk.counted.event i).trans hi.1)]
    exact counted i hi

theorem afterwards_runSearch (h : t.part.state ≠ .active) : Afterwards t (runSearch t) := by
  rw [runSearch_inactive h]
  exact afterwards_frame (by simp) fun _ _ => rfl

theorem afterwards_realign (t : State) : Afterwards t (realign t) :=
  afterwards_frame (by simp) fun _ _ => by simp

theorem afterwards_sampleBoundary (t : State) : Afterwards t (sampleBoundary t) :=
  afterwards_frame (by simp) fun _ => sampleBoundary_silent (by simp [IsSum])

/-- R130: with no fire in progress the confirm deglitch counts, and an edge is a stray. -/
theorem confirmPulse_noFire (h : s.divert.fire = none) : ∃ d C, Counted [.confirmStray] s.counters C ∧
    confirmPulse s = (s.setDivert { s.divert with deglitch := d }).setCounters C := by
  have same : s = (s.setDivert { s.divert with deglitch := s.divert.deglitch }).setCounters s.counters := rfl
  have judged : ∀ d, judgeConfirm (setConfirm s d) = reportPlain (setConfirm s d) .confirmStray := fun d => by
    have : (setConfirm s d).divert.fire = none := h
    unfold judgeConfirm
    rw [this]
  unfold confirmPulse
  split
  · split
    · refine ⟨.blocked, (reportPlain (setConfirm s .blocked) .confirmStray).counters, ?_, judged _⟩
      exact (kept_reportPlain (kept_refl [.confirmStray] (setConfirm s .blocked)) (by simp)).counted
    · exact ⟨.blocking (_ + 1), _, .none, rfl⟩
  · split
    · exact ⟨.clear, _, .none, rfl⟩
    · exact ⟨.clearing (_ + 1), _, .none, rfl⟩
  all_goals exact ⟨_, _, .none, same⟩

theorem divertPulse_noFire (h : s.divert.fire = none) : divertPulse s = confirmPulse s := by
  have counts : fireCountsPulse s = s := by unfold fireCountsPulse; rw [h]
  have fire : (confirmPulse s).divert.fire = none := by
    obtain ⟨d, C, -, e⟩ := confirmPulse_noFire h
    rw [e]
    exact h
  have dwell : endDwell (confirmPulse s) = confirmPulse s := by unfold endDwell; rw [fire]
  have window : endWindow (confirmPulse s) = confirmPulse s := by unfold endWindow; rw [fire]
  unfold divertPulse discardFire
  rw [counts, dwell, window, fire]

theorem fireReached_noClaims (h : s.contest.claims = []) (r : Nat → Bool) : fireReached s r = s := by
  unfold fireReached
  rw [h]
  simp

/-- R130: with no fire and no claim a position reached is the confirm deglitch's alone. -/
theorem reachPosition_noClaims (hf : s.divert.fire = none) (hc : s.contest.claims = []) :
    reachPosition s = confirmPulse (gatePulse s) := by
  obtain ⟨d, C, -, e⟩ := confirmPulse_noFire (s := gatePulse s) (by simpa using hf)
  have claims : (confirmPulse (gatePulse s)).contest.claims = [] := by rw [e]; simpa using hc
  have tested : testClaims (confirmPulse (gatePulse s)) = confirmPulse (gatePulse s) := by
    unfold testClaims
    rw [claimSlots_nil claims]
    rfl
  unfold reachPosition
  dsimp only
  rw [divertPulse_noFire (by simpa using hf), tested, ite_self, fireReached_noClaims claims]

theorem afterwards_reachPosition (hf : t.divert.fire = none) (hc : t.contest.claims = []) :
    Afterwards t (reachPosition t) := by
  obtain ⟨d, C, counted, e⟩ := confirmPulse_noFire (s := gatePulse t) (by simpa using hf)
  have gate : Afterwards t (gatePulse t) := afterwards_frame (by simp) fun i hi =>
    (kept_gatePulse (E := [.noRead]) (by simp) (kept_refl _ t)).counted.silent hi (by simp)
  refine afterwards_trans gate ?_
  rw [reachPosition_noClaims hf hc, e]
  exact ⟨rfl, rfl, rfl, rfl, rfl, rfl, rfl, rfl, rfl, rfl, fun _ => rfl, fun _ _ => id,
    fun _ hi => counted.silent hi (by simp), List.prefix_refl _⟩

theorem afterwards_passSlot (hv : ∀ e ∈ t.view, e = .empty) : Afterwards t (passSlot t) := by
  have view : ∀ k, t.view.set k .empty = t.view := fun k => by
    refine List.ext_getElem (by simp) fun i hi hi' => ?_
    rw [List.getElem_set]
    split
    · exact (hv _ (List.getElem_mem hi')).symm
    · rfl
  unfold passSlot
  split
  · exact {
      state := by simp
      output := by simp
      fire := by simp
      claims := by simp
      orphans := by simp
      view := by simp [inductionPassage, setViewEntry, view]
      staging := by simp
      config := by simp
      pins := by simp
      pending := by simp
      frames := fun k => (slotKept_withdrawAnnounces (slotKept_frame (slotKept_refl k t) (by simp)) fun _ => isAnnounce_of_for).frames
      lasting := fun f hf h => hasFrame_inductionPassage hf h _
      missed := fun i hi => (kept_inductionPassage (List.Subset.refl _) (kept_refl _ t) _).counted.silent hi (by decide)
      notices := by simp }
  · exact afterwards_frame (by simp) fun _ _ => rfl

/-- The rest of a forward pulse after its MISSING slip. -/
theorem afterwards_pulse {code : Nat} (h : WithdrawnAtOnce s t code) :
    Afterwards t (sampleBoundary (runSearch (passSlot (reachPosition t)))) := by
  have reached := afterwards_reachPosition h.fire h.claims
  have passed : Afterwards t (passSlot (reachPosition t)) := by
    refine afterwards_trans reached (afterwards_passSlot ?_)
    rw [reached.view, h.view]
    simp
  have searched := afterwards_trans passed (afterwards_runSearch (by rw [passed.state, h.state]; decide))
  exact afterwards_trans searched (afterwards_sampleBoundary _)

/-! ### The MISSING slip of a forward pulse (R13) -/

/-- R4: the position that a forward pulse reaches. -/
def reached (s : State) : Nat := (s.loop.counter + 1) % s.loopLen

/-- R8: the mark is awaited once the pulse has been counted. -/
def Awaited (s : State) : Prop :=
  s.loop.markAwaited = true ∨ (s.loop.aligned = true ∧ reached s + s.timing.tolerance = s.loopLen)

/-- R13: the pulse passes the whole index window and no mark came. -/
def MissesMark (s : State) : Prop := s.loop.aligned = true ∧ Awaited s ∧ reached s = s.timing.tolerance + 1

theorem noteTravel_lens (s : State) : (noteTravel s).loopLen = s.loopLen ∧ (noteTravel s).timing = s.timing :=
  ⟨loopLen_of_config (by simp), timing_of_config (by simp)⟩

theorem countPulse_awaited (s : State) : (countPulse (noteTravel s)).loop.markAwaited = true ↔ Awaited s := by
  obtain ⟨len, timing⟩ := noteTravel_lens s
  unfold Awaited reached
  simp [countPulse, noteTravel_loop, len, timing]

theorem countPulse_counter (s : State) : (countPulse (noteTravel s)).loop.counter = reached s := by
  obtain ⟨len, -⟩ := noteTravel_lens s
  simp [countPulse, noteTravel_loop, len, reached]

/-- The condition of the MISSING slip, as the tracker tests it. -/
theorem missesMark_iff (s : State) : MissesMark s ↔ (countPulse (noteTravel s)).loop.aligned = true ∧
    (countPulse (noteTravel s)).loop.markAwaited = true ∧
    (countPulse (noteTravel s)).loop.counter = (countPulse (noteTravel s)).timing.tolerance + 1 := by
  have timing : (countPulse (noteTravel s)).timing = s.timing := timing_of_config (by simp)
  have aligned : (countPulse (noteTravel s)).loop.aligned = s.loop.aligned := by simp [countPulse, noteTravel_loop]
  rw [countPulse_awaited, countPulse_counter, timing, aligned]
  rfl

/-- R13: the pulse counted, and the mark no longer awaited. -/
def windowPassed (s : State) : State :=
  (countPulse (noteTravel s)).setLoop { (countPulse (noteTravel s)).loop with markAwaited := false }

theorem atGate_of_miss (h : MissesMark s) : atGate s = raiseSlip (windowPassed s) .missing :=
  if_pos ((missesMark_iff s).1 h)

theorem atGate_of_not_miss (h : ¬MissesMark s) : atGate s = countPulse (noteTravel s) :=
  if_neg fun hc => h ((missesMark_iff s).2 hc)

theorem atGate_awaited (s : State) : (atGate s).loop.markAwaited = true ↔ Awaited s ∧ ¬MissesMark s := by
  by_cases h : MissesMark s
  · rw [atGate_of_miss h]
    simp [h, windowPassed]
  · rw [atGate_of_not_miss h, countPulse_awaited]
    simp [h]

theorem forwardPulse_atGate (h : s.part.state ≠ .start) :
    forwardPulse s = sampleBoundary (runSearch (passSlot (reachPosition (atGate s)))) := forwardPulse_eq h

theorem length_noteTravel (s : State) : (noteTravel s).port.notices.length ≤ s.port.notices.length + 1 := by
  unfold noteTravel
  dsimp only
  split
  · exact Nat.le_succ _
  · exact length_offerNotice _ _

/-- R168: the record of a fault is a notice at most. -/
theorem noticed_recordFault (h : Noticed s u) (hl : u.port.notices.length ≤ s.port.notices.length + 1) (f : FaultId)
    (d : Nat) : Noticed s (recordFault u f d) := by
  have room : (recordFault u f d).port.notices.length ≤ u.port.notices.length + 1 := length_offerNotice _ _
  refine ⟨?_, ?_, ?_, ?_, ?_, ?_, ?_, ?_, ?_, by omega⟩
  all_goals simp [h.config, h.pins, h.pending, h.view, h.contest, h.tx, h.divert, h.staging, h.counters]

theorem noticed_noteTravel (s : State) : Noticed s (noteTravel s) := by
  refine ⟨?_, ?_, ?_, ?_, ?_, ?_, ?_, ?_, ?_, (length_noteTravel s).trans (Nat.le_succ _)⟩
  all_goals simp

/-- A state of the Loop Tracker and of the slip cause besides. -/
theorem noticed_frame {v : State} (h : Noticed s u) (same : v.config = u.config ∧ v.pins = u.pins ∧
    v.pending = u.pending ∧ v.view = u.view ∧ v.contest = u.contest ∧ v.line = u.line ∧ v.divert = u.divert ∧
    v.staging = u.staging ∧ v.counters = u.counters ∧ v.port = u.port) : Noticed s v :=
  have ⟨config, pins, pending, view, contest, line, divert, staging, counters, port⟩ := same
  ⟨config.trans h.config, pins.trans h.pins, pending.trans h.pending, view.trans h.view, contest.trans h.contest, by
    rw [line, h.tx], divert.trans h.divert, staging.trans h.staging, counters.trans h.counters, by rw [port]; exact h.room⟩

theorem withdrawnAtOnce_raiseSlip (h : Noticed s u) (hl : u.port.notices.length ≤ s.port.notices.length + 1)
    (c : SlipCause) : WithdrawnAtOnce s (raiseSlip u c) 2 := by
  have noted : Noticed s (u.setPart { u.part with slipCause := some c }) := noticed_frame h (by simp)
  exact withdrawnAtOnce_immediateWithdraw (noticed_recordFault noted hl .indexSlip c.code) 2

theorem noticed_windowPassed (s : State) : Noticed s (windowPassed s) ∧
    (windowPassed s).port.notices.length ≤ s.port.notices.length + 1 := by
  unfold windowPassed
  exact ⟨noticed_frame (noticed_noteTravel s) (by simp), by simpa using length_noteTravel s⟩

theorem withdrawnAtOnce_missing (h : MissesMark s) : WithdrawnAtOnce s (atGate s) 2 := by
  obtain ⟨noticed, room⟩ := noticed_windowPassed s
  rw [atGate_of_miss h]
  exact withdrawnAtOnce_raiseSlip noticed room _

theorem fault_congr (h : t.part = s.part) (f : FaultId) : t.fault f = s.fault f := by
  unfold State.fault; rw [h]

theorem forwardPulse_missing (hs : s.part.state ≠ .start) (h : MissesMark s) :
    (forwardPulse s).part.slipCause = some .missing ∧ (forwardPulse s).fault .indexSlip = ⟨true, false, false⟩ ∧
    WithdrawnAtOnce s (forwardPulse s) 2 := by
  have withdrawn := withdrawnAtOnce_missing h
  have after := afterwards_pulse withdrawn
  obtain ⟨cause, fault⟩ := raiseSlip_recorded (windowPassed s) .missing
  rw [← atGate_of_miss h] at cause fault
  have part : (forwardPulse s).part = (atGate s).part := by
    obtain ⟨d, C, -, e⟩ := confirmPulse_noFire (s := gatePulse (atGate s)) (by simpa using withdrawn.fire)
    rw [forwardPulse_atGate hs, reachPosition_noClaims withdrawn.fire withdrawn.claims, e]
    simp
  refine ⟨by rw [part, cause], (fault_congr part _).trans fault, ?_⟩
  · rw [forwardPulse_atGate hs]
    exact withdrawnAtOnce_afterwards withdrawn (kept_atGate s) after

theorem forwardPulse_loopRunning (hs : s.part.state ≠ .start) (hr : s.loop.running = false)
    (hl : s.port.notices.length < 32) : .loopRunning ∈ (forwardPulse s).port.notices := by
  have noted : .loopRunning ∈ (noteTravel s).port.notices := by
    unfold noteTravel
    dsimp only
    rw [hr, if_neg (by decide)]
    exact mem_offerNotice (s := s.setLoop { s.loop with running := true, stopTimer := some 0 }) hl _
  have hc := claimEvents_of_divert (List.Subset.refl divertEvents)
  have crossed : Kept divertEvents (noteTravel s) (atGate s) :=
    kept_checkMissing hc (by decide) (kept_countPulse (kept_refl _ _))
  rw [forwardPulse_eq hs, (sampleBoundary_frame _).2.2.2.2.2.2.2.2.2.2.2.1]
  exact (kept_afterGate s).notices.subset ((by simpa using crossed.notices : _ <+: _).subset noted)

theorem gatePulse_quiet (he : s.gate.edges = []) (hd : s.gate.deglitch = .clear ∨ s.gate.deglitch = .blocked) :
    gatePulse s = s := by
  have aged : ageEdges s = s := by
    unfold ageEdges
    dsimp only
    rw [he]
    show s.setGate { s.gate with edges := [] } = s
    rw [← he]
    rfl
  unfold gatePulse gateDeglitchPulse
  rw [aged]
  rcases hd with h | h <;> rw [h]

theorem confirmPulse_quiet (hd : s.divert.deglitch = .clear ∨ s.divert.deglitch = .blocked) : confirmPulse s = s := by
  unfold confirmPulse
  rcases hd with h | h <;> rw [h]

/-- R4: UNALIGNED, no claim is tested, none fires, and no slot passes. -/
theorem afterGate_unaligned (ha : s.loop.aligned = false) (he : s.gate.edges = [])
    (hg : s.gate.deglitch = .clear ∨ s.gate.deglitch = .blocked)
    (hd : s.divert.deglitch = .clear ∨ s.divert.deglitch = .blocked) (hf : s.divert.fire = none) :
    passSlot (reachPosition s) = s := by
  unfold reachPosition
  dsimp only
  rw [gatePulse_quiet he hg, divertPulse_noFire hf, confirmPulse_quiet hd]
  simp [ha, fireReached, passSlot, atBoundary]

/-- R4: a pulse that only moves the counter. -/
def counted (s : State) : State :=
  s.setLoop { s.loop with counter := reached s, reverseTally := 0, stopTimer := some 0 }

theorem atGate_unaligned (ha : s.loop.aligned = false) (hr : s.loop.running = true) : atGate s = counted s := by
  have quiet : ¬MissesMark s := fun h => Bool.false_ne_true (ha.symm.trans h.1)
  rw [atGate_of_not_miss quiet]
  simp [noteTravel, hr, countPulse, counted, reached, ha, State.setLoop, State.loopLen, State.slots, State.pitch]

theorem forwardPulse_quiet (hs : s.part.state ≠ .start) (ha : s.loop.aligned = false) (hr : s.loop.running = true)
    (he : s.gate.edges = []) (hg : s.gate.deglitch = .clear ∨ s.gate.deglitch = .blocked)
    (hd : s.divert.deglitch = .clear ∨ s.divert.deglitch = .blocked) (hf : s.divert.fire = none)
    (hq : s.contest.searchDue = false) : forwardPulse s = counted s := by
  have boundary : atBoundary (counted s) = false := by simp [atBoundary, counted, ha]
  have passed : passSlot (reachPosition (counted s)) = counted s := afterGate_unaligned ha he hg hd hf
  rw [forwardPulse_atGate hs, atGate_unaligned ha hr, passed, runSearch_quiet (by exact hq)]
  unfold sampleBoundary
  rw [boundary, if_neg (by decide)]

theorem forwardPulse_loop (hs : s.part.state ≠ .start) : (forwardPulse s).loop = (atGate s).loop := by
  rw [forwardPulse_atGate hs]
  simp

theorem atGate_loop (s : State) : ∃ m, (atGate s).loop =
    { counter := reached s, aligned := s.loop.aligned, markAwaited := m, reverseTally := 0, running := true,
      stopTimer := some 0 } := by
  obtain ⟨m, hm⟩ := checkMissing_loop (countPulse (noteTravel s))
  have counter := countPulse_counter s
  refine ⟨m, hm.trans ?_⟩
  dsimp only
  rw [counter]
  simp [countPulse, noteTravel_loop]

/-! ### Reverse pulses (R5) -/

/-- R5, R14: the tracker after a reverse pulse, but for what its tally causes. -/
def reversed (s : State) (n : Nat) : LoopTracker :=
  { s.loop with reverseTally := n, running := true, stopTimer := some 0 }

theorem reversePulse_tallied (hs : s.part.state ≠ .start) (h : s.loop.reverseTally + 1 < 8) : reversePulse s =
    (noteTravel s).setLoop (reversed s (s.loop.reverseTally + 1)) := by
  have started : s.started = true := decide_eq_true hs
  unfold reversePulse
  dsimp only
  rw [started, if_pos rfl, noteTravel_loop]
  exact if_pos h

theorem reversePulse_eighth (hs : s.part.state ≠ .start) (h : 8 ≤ s.loop.reverseTally + 1) : reversePulse s =
    runSearch (raiseImmediate ((noteTravel s).setLoop (reversed s 0)) .loopReverse) := by
  have started : s.started = true := decide_eq_true hs
  unfold reversePulse
  dsimp only
  rw [started, if_pos rfl, noteTravel_loop]
  exact if_neg (Nat.not_lt.2 h)

theorem noteTravel_running (h : s.loop.running = true) :
    noteTravel s = s.setLoop { s.loop with running := true, stopTimer := some 0 } := by
  unfold noteTravel
  dsimp only
  rw [if_pos h]

theorem withdrawnAtOnce_reverse (hs : s.part.state ≠ .start) (h : 8 ≤ s.loop.reverseTally + 1) :
    WithdrawnAtOnce s (reversePulse s) 3 := by
  have noticed : Noticed s ((noteTravel s).setLoop (reversed s 0)) := noticed_frame (noticed_noteTravel s) (by simp)
  have recorded := noticed_recordFault noticed (by simpa using length_noteTravel s) .loopReverse 0
  have withdrawn : WithdrawnAtOnce s (raiseImmediate ((noteTravel s).setLoop (reversed s 0)) .loopReverse) 3 :=
    withdrawnAtOnce_immediateWithdraw recorded 3
  have turned : Kept divertEvents s ((noteTravel s).setLoop (reversed s 0)) :=
    kept_setLoop (kept_noteTravel (kept_refl _ s)) fun ha => by simpa [noteTravel_loop, reversed] using ha
  have kept := kept_raiseImmediate (claimEvents_of_divert (List.Subset.refl _)) (by decide) turned .loopReverse
  rw [reversePulse_eighth hs h]
  exact withdrawnAtOnce_afterwards withdrawn kept (afterwards_runSearch (by rw [withdrawn.state]; decide))

end Sys2Proof.Laws

open Sys2Proof Sys2Proof.Machine Sys2Proof.Safety Sys2Proof.Laws

/-- Settles O38: the blocks after the counter leave the loop as it is, and after an immediate withdrawal nothing of the
event touches what the withdrawal has left. -/
theorem pulsesMoveTheCounter : Obligations.PulsesMoveTheCounter := by
  unfold Obligations.PulsesMoveTheCounter
  intro s hs
  refine ⟨⟨forwardPulse s, rfl, ?_⟩, fun ha hr he hg hd hf hq => ?_, fun h => ⟨reversePulse s, rfl, ?_⟩,
    fun h => ⟨reversePulse s, rfl, ?_⟩⟩
  · obtain ⟨m, loop⟩ := atGate_loop s
    have awaited := atGate_awaited s
    rw [← forwardPulse_loop hs] at loop awaited
    refine ⟨by rw [loop]; rfl, by rw [loop], by rw [loop], by rw [loop], by rw [loop], awaited, ?_, ?_,
      forwardPulse_loopRunning hs, forwardPulse_missing hs⟩
    iterate 2
      rw [forwardPulse_eq hs]
      simp
  · exact congrArg Host.Outcome.next (forwardPulse_quiet hs ha hr he hg hd hf hq)
  · rw [reversePulse_tallied hs h]
    refine ⟨rfl, ?_⟩
    simp only [State.setLoop_gate, State.setLoop_line, State.setLoop_view, State.setLoop_plans, State.setLoop_contest,
      State.setLoop_divert, State.setLoop_staging, State.setLoop_part, State.setLoop_counters, noteTravel_frame, true_and]
    intro hr
    rw [noteTravel_running hr]
    rfl
  · refine ⟨?_, ?_, ?_, withdrawnAtOnce_reverse hs h⟩
    · rw [reversePulse_eighth hs h]
      simp [reversed]
    · rw [reversePulse_eighth hs h]
      simp
    · rw [reversePulse_eighth hs h, fault_congr (runSearch_frame _).2.2.2.2.2.2.2.2.2.2.1]
      exact raiseImmediate_fault _ (by decide)
end

section
/-! SUPPORT. The tests of the claims at a position reached: what one test makes of its entry, and what the tests at a run of positions do (R17, R114, R118). -/

namespace Sys2Proof.Laws

open Sys2Proof Sys2Proof.Machine Sys2Proof.Safety

variable {s t u : State} {j k : Nat} {x : Claim} {cs : List Nat}

/-! ### Reachability against a counter value -/

theorem divertPos_of_config (h : t.config = s.config) : t.divertPos = s.divertPos := by
  simp [State.divertPos, State.ownId, h]

theorem slotPosition_eq (h : u.config = s.config) (k : Nat) : slotPosition u k = positionAt s u.loop.counter k := by
  unfold slotPosition positionAt
  rw [pitch_of_config h, loopLen_of_config h]

theorem reachable_eq (h : u.config = s.config) (ha : u.loop.aligned = true) (k : Nat) :
    reachable u k = nearAt s u.loop.counter k := by
  unfold reachable nearAt
  rw [slotPosition_eq h, divertPos_of_config h, timing_of_config h, ha, Bool.true_and]

theorem pulsesToFire_eq (h : u.config = s.config) (k : Nat) : pulsesToFire u k = pulsesAt s u.loop.counter k := by
  unfold pulsesToFire pulsesAt
  rw [slotPosition_eq h, divertPos_of_config h, loopLen_of_config h]

/-! ### One test -/

theorem claimAt_modified {f : Claim → Claim} (h : s.claimAt k = some x) (hf : ∀ d, (f d).slot = d.slot) :
    (modifyClaim s k f).claimAt k = some (f x) := by
  rw [claimAt_modifyClaim_self hf, h]
  rfl

/-- R72: after a withdrawal request no frame that it picks waits outside an attempt. -/
theorem idle_askWithdrawal {p : OutFrame → Bool} {q : List TxFrame} {y : TxFrame} (h : y ∈ askWithdrawal p q)
    (hp : p y.frame = true) : y.idle = false := by
  simp only [askWithdrawal, List.mem_map, List.mem_filter, Bool.not_eq_true', Bool.and_eq_false_iff] at h
  obtain ⟨z, ⟨-, hz⟩, rfl⟩ := h
  split at hp <;> split
  all_goals simp_all [TxFrame.idle]

/-- A CLAIM frame of the slot waits outside an attempt, so that a withdrawal removes it (R72). -/
def HasIdle (k : Nat) (s : State) : Prop := ∃ y ∈ claimFrames k s, y.idle = true

theorem hasIdle_congr (h : claimFrames k t = claimFrames k s) : HasIdle k t ↔ HasIdle k s := by
  unfold HasIdle; rw [h]

theorem hasIdle_iff : HasIdle k s ↔ s.line.tx.any (fun t => t.frame.isClaimFor k && t.idle) = true := by
  simp [HasIdle, mem_claimFrames, and_assoc]

/-- R114: a QUEUED claim found late: EXPIRED, unless an earlier end is recorded. -/
def expired (x : Claim) : Claim := { x with late := true, pendingEnd := some (x.pendingEnd.getD .expired) }

theorem testClaim_none (h : s.claimAt k = none) : testClaim s k = s := by
  unfold testClaim; rw [h]

theorem testClaim_near (hc : s.claimAt k = some x) (hx : x.state = .queued) (hr : reachable s k = true) :
    testClaim s k = s := by
  unfold testClaim
  rw [hc]
  dsimp only
  rw [hx]
  exact if_pos hr

theorem testClaim_settled (hc : s.claimAt k = some x) (hx : x.state = .committed ∨ x.state = .firing) :
    testClaim s k = s := by
  unfold testClaim
  rw [hc]
  dsimp only
  rcases hx with hx | hx <;> rw [hx]

theorem testClaim_sending (hc : s.claimAt k = some x) (hx : x.state = .sending) :
    (testClaim s k).claimAt k = some (if reachable s k then x else { x with late := true }) := by
  unfold testClaim
  rw [hc]
  dsimp only
  rw [hx]
  dsimp only
  split
  · exact hc
  · simpa [hx] using claimAt_modified (f := fun d => { d with late := true }) hc fun _ => rfl

theorem testClaim_armed (hc : s.claimAt k = some x) (hx : x.state = .armed) : (testClaim s k).claimAt k =
    some (if pulsesToFire s k < s.timing.armLead then { x with state := .committed } else x) := by
  unfold testClaim
  rw [hc]
  dsimp only
  rw [hx]
  dsimp only
  split
  · exact claimAt_modified hc fun _ => rfl
  · exact hc

/-- R112, R114: the state in which a QUEUED claim found late is left, its frame's withdrawal asked for. -/
def expiring (s : State) (k : Nat) (x : Claim) : State :=
  setTx (modifyClaim (modifyClaim s k fun d => { d with late := true }) k
    fun d => { d with pendingEnd := some (x.pendingEnd.getD .expired) })
    (askWithdrawal (OutFrame.isClaimFor k) s.line.tx)

theorem testClaim_far (hc : s.claimAt k = some x) (hx : x.state = .queued) (hr : reachable s k = false) :
    testClaim s k = cancelTest (if s.line.tx.any (fun t => t.frame.isClaimFor k && t.idle) then
      leaveWithEnd (expiring s k x) { x with late := true } (x.pendingEnd.getD .expired) else expiring s k x)
      x.target.place := by
  have late : (modifyClaim s k fun d => { d with late := true }).claimAt k = some { x with late := true } :=
    claimAt_modified hc fun _ => rfl
  unfold testClaim
  rw [hc]
  dsimp only
  rw [hx]
  dsimp only
  rw [hr, if_neg Bool.false_ne_true]
  unfold endAndTest
  rw [late]
  dsimp only
  unfold endUncommitted
  rw [late]
  dsimp only
  rw [hx]
  rfl

theorem expiring_claimAt (hc : s.claimAt k = some x) : (expiring s k x).claimAt k = some (expired x) := by
  have late : (modifyClaim s k fun d => { d with late := true }).claimAt k = some { x with late := true } :=
    claimAt_modified hc fun _ => rfl
  exact claimAt_modified late fun _ => rfl

theorem testClaim_kept (hc : s.claimAt k = some x) (hx : x.state = .queued) (hr : reachable s k = false)
    (hi : ¬HasIdle k s) : (testClaim s k).claimAt k = some (expired x) ∧ ¬HasIdle k (testClaim s k) := by
  have busy := hi
  rw [hasIdle_iff] at busy
  rw [testClaim_far hc hx hr, if_neg busy]
  refine ⟨(claimAt_congr (by simp) k).trans (expiring_claimAt hc), ?_⟩
  rw [hasIdle_congr (claimFrames_congr (s := expiring s k x) (by simp))]
  rintro ⟨y, hy, idle⟩
  obtain ⟨hy, hk⟩ := mem_claimFrames.1 hy
  rw [idle_askWithdrawal hy hk] at idle
  cases idle

theorem testClaim_left (hc : s.claimAt k = some x) (hx : x.state = .queued) (hr : reachable s k = false)
    (hi : HasIdle k s) : (testClaim s k).claimAt k = none ∧
    (x.pendingEnd = none → CountedOnce s (testClaim s k) .claimExpired x.target.place) := by
  rw [hasIdle_iff] at hi
  rw [testClaim_far hc hx hr, if_pos hi]
  constructor
  · refine claimAt_without_self (s := expiring s k x) ?_
    rw [(cancelTest_frame _ _).2.2.2.2.2.2.1, leaveWithEnd_claims, claimAt_slot hc]
  · intro he
    rw [he]
    refine countedOnce_between (E := []) (t := expiring s k x) (by simp) .none ?_
    rw [(cancelTest_frame _ _).2.2.2.2.2.2.2.2.2.2.2.2.2.2.1]
    exact .none

/-! ### The tests at a run of positions -/

theorem testedAt_sending (hx : x.state = .sending)
    (h : t.claimAt k = some (if cs.all (fun c => nearAt s c k) then x else { x with late := true })) :
    TestedAt s t cs k x :=
  ⟨fun _ => h, by simp [hx], by simp [hx], by simp [hx], by simp [hx], by simp [hx]⟩

theorem testedAt_armed (hx : x.state = .armed) (h : t.claimAt k =
    some (if ∃ c ∈ cs, pulsesAt s c k < s.timing.armLead then { x with state := .committed } else x)) :
    TestedAt s t cs k x :=
  ⟨by simp [hx], by simp [hx], by simp [hx], by simp [hx], fun _ => h, by simp [hx]⟩

theorem testedAt_settled (hx : x.state = .committed ∨ x.state = .firing) (h : t.claimAt k = some x) :
    TestedAt s t cs k x := by
  rcases hx with hx | hx
  · exact ⟨by simp [hx], by simp [hx], by simp [hx], by simp [hx], by simp [hx], fun _ => h⟩
  · exact ⟨by simp [hx], by simp [hx], by simp [hx], by simp [hx], by simp [hx], by simp [hx]⟩

/-- R114: the slot is not reachable at one of the positions. -/
def Far (s : State) (cs : List Nat) (k : Nat) : Prop := ∃ c ∈ cs, nearAt s c k = false

/-- R124: a claim that has left is counted CLAIM_EXPIRED, unless an earlier end was recorded. -/
def LeftCounted (s t : State) (x : Claim) : Prop :=
  x.pendingEnd = none → ∀ i : Fin 4, countsAt s i .claimExpired x.target.place →
    min (s.counters[i].value + 1) 4294967295 ≤ t.counters[i].value

/-- R17, R112, R114: what the tests make of a QUEUED claim. -/
structure QueuedAt (s t : State) (cs : List Nat) (k : Nat) (x : Claim) : Prop where
  near : ¬Far s cs k → t.claimAt k = some x
  kept : Far s cs k → ¬HasIdle k s → t.claimAt k = some (expired x)
  left : Far s cs k → HasIdle k s → t.claimAt k = none ∧ LeftCounted s t x

theorem testedAt_queued (hx : x.state = .queued) (h : QueuedAt s t cs k x) : TestedAt s t cs k x := by
  refine ⟨by simp [hx], fun _ hn => h.near ?_, fun _ hf hi => h.kept hf ?_, fun _ hf hi => h.left hf ?_, by simp [hx],
    by simp [hx]⟩
  · rintro ⟨c, hc, far⟩
    rw [hn c hc] at far
    cases far
  · rintro ⟨y, hy, idle⟩
    obtain ⟨hy, hk⟩ := mem_claimFrames.1 hy
    rw [hi y hy hk] at idle
    cases idle
  · obtain ⟨y, hy, hk, idle⟩ := hi
    exact ⟨y, mem_claimFrames.2 ⟨hy, hk⟩, idle⟩

theorem queuedAt_of_testedAt (hx : x.state = .queued) (h : TestedAt s t cs k x) : QueuedAt s t cs k x := by
  refine ⟨fun hn => h.near hx fun c hc => ?_, fun hf hi => h.kept hx hf fun y hy hk => ?_, fun hf hi => h.left hx hf ?_⟩
  · by_contra far
    exact hn ⟨c, hc, Bool.not_eq_true _ ▸ far⟩
  · by_contra idle
    exact hi ⟨y, mem_claimFrames.2 ⟨hy, hk⟩, Bool.not_eq_false _ ▸ idle⟩
  · obtain ⟨y, hy, idle⟩ := hi
    obtain ⟨hy, hk⟩ := mem_claimFrames.1 hy
    exact ⟨y, hy, hk, idle⟩

/-- The entry x of slot k in the state s, tested at the positions cs by the time u. -/
structure Checked (s u : State) (cs : List Nat) (k : Nat) (x : Claim) : Prop where
  tested : TestedAt s u cs k x
  kept : KeptByRow s u
  firing : x.state = .firing → u.claimAt k = some x
  waits : u.claimAt k ≠ none → (HasIdle k u ↔ HasIdle k s)

theorem checked_init (hc : s.claimAt k = some x) (h : SlotKept k s u) (hk : KeptByRow s u) : Checked s u [] k x := by
  have claim : u.claimAt k = some x := h.claim.trans hc
  refine ⟨?_, hk, fun _ => claim, fun _ => hasIdle_congr h.frames⟩
  have none : ¬Far s [] k := by simp [Far]
  cases hx : x.state with
  | queued => exact testedAt_queued hx ⟨fun _ => claim, fun hf => absurd hf none, fun hf => absurd hf none⟩
  | sending => exact testedAt_sending hx (by simpa using claim)
  | armed => exact testedAt_armed hx (by simpa using claim)
  | committed => exact testedAt_settled (Or.inl hx) claim
  | firing => exact testedAt_settled (Or.inr hx) claim

theorem leftCounted_later (h : LeftCounted s u x) (hk : KeptByRow u t) : LeftCounted s t x := by
  intro he i hi
  have first := h he i hi
  have later := hk.counted.value_ge i
  omega

/-- Operations on other slots leave the outcome of the tests. -/
theorem checked_move (h : Checked s u cs k x) (hu : SlotKept k u t) (hk : KeptByRow u t) : Checked s t cs k x := by
  obtain ⟨tested, kept, firing, waits⟩ := h
  refine ⟨⟨?_, ?_, ?_, ?_, ?_, ?_⟩, kept_trans kept hk, ?_, ?_⟩
  · rw [hu.claim]; exact tested.sending
  · rw [hu.claim]; exact tested.near
  · rw [hu.claim]; exact tested.kept
  · rw [hu.claim]
    intro hx hf hi
    obtain ⟨gone, counted⟩ := tested.left hx hf hi
    exact ⟨gone, leftCounted_later counted hk⟩
  · rw [hu.claim]; exact tested.armed
  · rw [hu.claim]; exact tested.committed
  · rw [hu.claim]; exact firing
  · rw [hu.claim, hasIdle_congr hu.frames]; exact waits

theorem far_append {c : Nat} : Far s (cs ++ [c]) k ↔ Far s cs k ∨ nearAt s c k = false := by
  simp [Far, or_and_right, exists_or]

theorem leftCounted_of_once (hk : KeptByRow s u)
    (h : x.pendingEnd = none → CountedOnce u t .claimExpired x.target.place) : LeftCounted s t x := by
  intro he i hi
  obtain ⟨event, filter⟩ := hi
  have before := hk.counted.value_ge i
  have once := h he i ⟨(hk.counted.event i).trans event, by rw [hk.counted.filter i]; exact filter⟩
  omega

/-- R114: a further test of a QUEUED claim. -/
theorem queuedAt_test (hx : x.state = .queued) (hk : KeptByRow s u) (hq : QueuedAt s u cs k x)
    (hw : u.claimAt k ≠ none → (HasIdle k u ↔ HasIdle k s)) {c : Nat} (hr : reachable u k = nearAt s c k) :
    QueuedAt s (testClaim u k) (cs ++ [c]) k x ∧
    ((testClaim u k).claimAt k ≠ none → (HasIdle k (testClaim u k) ↔ HasIdle k s)) := by
  obtain ⟨near, kept, left⟩ := hq
  by_cases far : Far s cs k
  · have far' : Far s (cs ++ [c]) k := far_append.2 (Or.inl far)
    by_cases idle : HasIdle k s
    · obtain ⟨gone, counted⟩ := left far idle
      rw [testClaim_none gone]
      exact ⟨⟨fun h => absurd far' h, fun _ h => absurd idle h, fun _ _ => ⟨gone, counted⟩⟩, hw⟩
    · have claim := kept far idle
      have busy : ¬HasIdle k u := fun h => idle ((hw (by simp [claim])).1 h)
      have tested : (testClaim u k).claimAt k = some (expired x) ∧ ¬HasIdle k (testClaim u k) := by
        cases hn : reachable u k with
        | true => rw [testClaim_near claim hx hn]; exact ⟨claim, busy⟩
        | false => exact testClaim_kept (x := expired x) claim hx hn busy
      exact ⟨⟨fun h => absurd far' h, fun _ _ => tested.1, fun _ h => absurd h idle⟩,
        fun _ => iff_of_false tested.2 idle⟩
  · have claim := near far
    have waits := hw (by simp [claim])
    cases hn : reachable u k with
    | true =>
      have near' : ¬Far s (cs ++ [c]) k := fun h => (far_append.1 h).elim far (by rw [← hr, hn]; decide)
      rw [testClaim_near claim hx hn]
      exact ⟨⟨fun _ => claim, fun h => absurd h near', fun h => absurd h near'⟩, hw⟩
    | false =>
      have far' : Far s (cs ++ [c]) k := far_append.2 (Or.inr (hr ▸ hn))
      by_cases idle : HasIdle k s
      · obtain ⟨gone, once⟩ := testClaim_left claim hx hn (waits.2 idle)
        exact ⟨⟨fun h => absurd far' h, fun _ h => absurd idle h, fun _ _ => ⟨gone, leftCounted_of_once hk once⟩⟩,
          fun h => absurd gone h⟩
      · obtain ⟨stays, busy⟩ := testClaim_kept claim hx hn fun h => idle (waits.1 h)
        exact ⟨⟨fun h => absurd far' h, fun _ _ => stays, fun _ h => absurd h idle⟩, fun _ => iff_of_false busy idle⟩

theorem testClaim_waits (hc : u.claimAt k = some x) (hx : x.state ≠ .queued) :
    claimFrames k (testClaim u k) = claimFrames k u := by
  refine claimFrames_congr ?_
  unfold testClaim
  rw [hc]
  dsimp only
  split
  · rename_i hq
    exact absurd hq hx
  · split <;> simp
  · split <;> simp
  all_goals rfl

/-- R114, R118: a further test of an entry. -/
theorem checked_test (h : Checked s u cs k x) (hc : u.config = s.config) (ha : u.loop.aligned = true) :
    Checked s (testClaim u k) (cs ++ [u.loop.counter]) k x := by
  obtain ⟨tested, kept, firing, waits⟩ := h
  have kept' : KeptByRow s (testClaim u k) := kept_testClaim rows_claimEvents kept k
  have near : reachable u k = nearAt s u.loop.counter k := reachable_eq hc ha k
  have pulses : pulsesToFire u k = pulsesAt s u.loop.counter k := pulsesToFire_eq hc k
  have timing := timing_of_config hc
  have others : ∀ {y : Claim}, u.claimAt k = some y → y.state ≠ .queued → ((testClaim u k).claimAt k ≠ none →
      (HasIdle k (testClaim u k) ↔ HasIdle k s)) := fun hy hq _ => by
    rw [hasIdle_congr (testClaim_waits hy hq)]
    exact waits (by simp [hy])
  cases hx : x.state with
  | queued =>
    obtain ⟨queued, waits⟩ := queuedAt_test hx kept (queuedAt_of_testedAt hx tested) waits near
    exact ⟨testedAt_queued hx queued, kept', by simp [hx], waits⟩
  | sending =>
    have claim := tested.sending hx
    have state : (if cs.all (fun c => nearAt s c k) then x else { x with late := true }).state = .sending := by
      split <;> exact hx
    refine ⟨testedAt_sending hx ((testClaim_sending claim state).trans ?_), kept', by simp [hx],
      others claim (by rw [state]; decide)⟩
    rw [near, List.all_append]
    cases cs.all (fun c => nearAt s c k) <;> cases hn : nearAt s u.loop.counter k <;> simp [hn]
  | armed =>
    have claim := tested.armed hx
    by_cases below : ∃ c ∈ cs, pulsesAt s c k < s.timing.armLead
    · rw [if_pos below] at claim
      have same := testClaim_settled claim (Or.inl rfl)
      have below' : ∃ c ∈ cs ++ [u.loop.counter], pulsesAt s c k < s.timing.armLead := by
        obtain ⟨c, hm, hb⟩ := below
        exact ⟨c, List.mem_append_left _ hm, hb⟩
      exact ⟨testedAt_armed hx (by rw [same, if_pos below', claim]), kept', by simp [hx], by rw [same]; exact waits⟩
    · rw [if_neg below] at claim
      refine ⟨testedAt_armed hx ((testClaim_armed claim hx).trans ?_), kept', by simp [hx],
        others claim (by rw [hx]; decide)⟩
      have last : (∃ c ∈ cs ++ [u.loop.counter], pulsesAt s c k < s.timing.armLead) ↔
          pulsesAt s u.loop.counter k < s.timing.armLead := by
        simp only [List.mem_append, List.mem_singleton, or_and_right, exists_or, exists_eq_left]
        exact or_iff_right below
      rw [pulses, timing]
      simp only [last]
  | committed =>
    have same := testClaim_settled (tested.committed hx) (Or.inl hx)
    exact ⟨testedAt_settled (Or.inl hx) (by rw [same, tested.committed hx]), kept', by simp [hx], by rw [same]; exact waits⟩
  | firing =>
    have same := testClaim_settled (firing hx) (Or.inr hx)
    exact ⟨testedAt_settled (Or.inr hx) (by rw [same, firing hx]), kept', fun _ => by rw [same, firing hx], by
      rw [same]; exact waits⟩

/-- The tests of other slots. -/
theorem checked_others {l : List Nat} (h : Checked s u cs k x) (hl : k ∉ l) :
    Checked s (l.foldl testClaim u) cs k x := by
  refine checked_move h (slotKept_foldl (fun v j hj hv => slotKept_testClaim hv fun e => hl (e ▸ hj))
    (slotKept_refl k u)) ?_
  exact kept_foldl (fun _ j hv => kept_testClaim rows_claimEvents hv j) _ (kept_refl _ u)

/-- R114, R118: the tests at one position test each entry once. -/
theorem checked_testClaims (h : Checked s u cs k x) (hn : (u.contest.claims.map (·.slot)).Nodup)
    (hc : u.config = s.config) (ha : u.loop.aligned = true) :
    Checked s (testClaims u) (cs ++ [u.loop.counter]) k x := by
  have nodup : (claimSlots u).Nodup := (claimSlots_perm u).nodup_iff.2 hn
  by_cases hk : k ∈ claimSlots u
  · obtain ⟨l, r, hl, e⟩ : ∃ l r, k ∉ l ∧ claimSlots u = l ++ k :: r := by
      obtain ⟨l, r, e⟩ := List.append_of_mem hk
      rw [e, List.nodup_append] at nodup
      exact ⟨l, r, fun hm => nodup.2.2 k hm k List.mem_cons_self rfl, e⟩
    have hr : k ∉ r := by
      rw [e, List.nodup_append] at nodup
      exact (List.nodup_cons.1 nodup.2.1).1
    have before := checked_others h hl
    have loop : (l.foldl testClaim u).loop = u.loop := foldl_loop (fun v j => by simp) l u
    have config : (l.foldl testClaim u).config = u.config := foldl_config (fun v j => by simp) l u
    have test := checked_test before (config.trans hc) (loop ▸ ha)
    unfold testClaims
    rw [e, List.foldl_append, List.foldl_cons]
    rw [loop] at test
    exact checked_others test hr
  · have gone : u.claimAt k = none := by
      by_contra some
      exact hk (mem_claimSlots.2 some)
    have test := checked_test h hc ha
    rw [testClaim_none gone] at test
    exact checked_others test hk

/-- A slot without an entry is not tested. -/
theorem slotKept_testClaims (h : u.claimAt k = none) : SlotKept k u (testClaims u) :=
  slotKept_foldl (fun _ _ hj hv => slotKept_testClaim hv fun e => mem_claimSlots.1 (e ▸ hj) h) (slotKept_refl k u)

end Sys2Proof.Laws
end

section
/-! SUPPORT. Fires, the search and the passage of a slot, as they bear on the entry of one slot (R16, R104 to R110, R120, R129 to R135). -/

namespace Sys2Proof.Laws

open Sys2Proof Sys2Proof.Machine Sys2Proof.Safety

variable {s t u : State} {j k : Nat} {x z : Claim} {cs : List Nat} {r : Nat → Bool}

/-! ### The end of a fire spares the entries that are not FIRING -/

/-- No entry of the slot is FIRING. -/
def NotFiring (k : Nat) (s : State) : Prop := ∀ c ∈ s.contest.claims, c.slot = k → c.state ≠ .firing

/-- What the end of a fire leaves: no entry is new, and a slot whose entry is not FIRING is passed by. -/
structure FireEnds (s t : State) : Prop where
  fewer : ∀ c ∈ t.contest.claims, c ∈ s.contest.claims
  spared : ∀ k, NotFiring k s → SlotKept k s t

theorem notFiring_of_claimAt (hn : (s.contest.claims.map (·.slot)).Nodup)
    (h : ∀ x, s.claimAt k = some x → x.state ≠ .firing) : NotFiring k s := by
  rintro c hc rfl
  exact h c (claimAt_of_mem hn hc)

theorem firingClaim_some {c : Claim} (h : firingClaim s j = some c) :
    c ∈ s.contest.claims ∧ c.slot = j ∧ c.state = .firing := by
  refine ⟨List.mem_of_find?_eq_some h, ?_⟩
  simpa using List.find?_some h

theorem fireEnds_refl (s : State) : FireEnds s s := ⟨fun _ => id, fun k _ => slotKept_refl k s⟩

theorem fireEnds_frame (h : FireEnds s t) (same : u.contest = t.contest ∧ u.line = t.line) : FireEnds s u :=
  ⟨by rw [same.1]; exact h.fewer, fun k hk => slotKept_frame (h.spared k hk) same⟩

/-- The FIRING entry leaves. -/
theorem fireEnds_drop {c : Claim} (h : FireEnds s t) (hc : firingClaim t j = some c)
    (hu : u.contest.claims = t.contest.claims.filter (fun d => decide (d.slot ≠ c.slot)))
    (hk : ∀ k, c.slot ≠ k → SlotKept k s t → SlotKept k s u) : FireEnds s u := by
  obtain ⟨hm, -, firing⟩ := firingClaim_some hc
  refine ⟨fun d hd => h.fewer d (List.mem_of_mem_filter (hu ▸ hd)), fun k hn => hk k (fun e => ?_) (h.spared k hn)⟩
  exact hn c (h.fewer c hm) e firing

theorem fireEnds_outcomeMissed (h : FireEnds s t) (j : Nat) : FireEnds s (outcomeMissed t j) := by
  unfold outcomeMissed
  split
  · rename_i c hc
    exact fireEnds_drop h hc (by simp [leaveClaim_claims]) fun k other hk =>
      slotKept_cancelTest (slotKept_offerFrame (slotKept_leaveClaim hk other) rfl) _
  · exact h

theorem fireEnds_outcomeTaken (h : FireEnds s t) (j : Nat) : FireEnds s (outcomeTaken t j) := by
  unfold outcomeTaken
  split
  · rename_i c hc
    refine fireEnds_drop h hc ?_ fun k other hk => ?_
    · simp only [cancelTest_frame, offerFrame_frame, stageTaken_frame]
      rfl
    · exact slotKept_cancelTest (slotKept_offerFrame (slotKept_frame (slotKept_dropClaim hk other) (by simp)) rfl) _
  · exact h

theorem fireEnds_closeMissed (h : FireEnds s t) (f : Fire) : FireEnds s (closeMissed t f) := by
  unfold closeMissed
  exact fireEnds_outcomeMissed (fireEnds_frame h (by simp)) _

theorem fireEnds_confirmPulse (h : FireEnds s t) : FireEnds s (confirmPulse t) := by
  have held : ∀ d, FireEnds s (setConfirm t d) := fun d => fireEnds_frame h (by simp [setConfirm])
  have judged : ∀ d, FireEnds s (judgeConfirm (setConfirm t d)) := fun d => by
    unfold judgeConfirm
    split
    · split
      · exact fireEnds_outcomeTaken (fireEnds_frame (held d) (by simp)) _
      · exact fireEnds_frame (held d) (by simp)
    · exact fireEnds_frame (held d) (by simp)
  unfold confirmPulse
  split
  · split
    · exact judged _
    · exact held _
  · split <;> exact held _
  all_goals exact h

theorem fireEnds_endDwell (h : FireEnds s t) : FireEnds s (endDwell t) := by
  unfold endDwell
  split
  · split
    · split
      · exact fireEnds_frame h (by simp)
      · exact h
    · exact h
  · exact h

theorem fireEnds_endWindow (h : FireEnds s t) : FireEnds s (endWindow t) := by
  unfold endWindow
  split
  · split
    · split
      · exact fireEnds_closeMissed h _
      · exact h
    · exact h
  · exact h

theorem fireEnds_divertPulse (h : FireEnds s t) : FireEnds s (divertPulse t) := by
  have counts : FireEnds s (fireCountsPulse t) := by
    unfold fireCountsPulse
    split
    · exact fireEnds_frame h (by simp)
    · exact h
  exact fireEnds_frame (fireEnds_endWindow (fireEnds_endDwell (fireEnds_confirmPulse counts))) (by simp [divertPulse])

theorem fireEnds_closeEarlierFire (h : FireEnds s t) : FireEnds s (closeEarlierFire t) := by
  unfold closeEarlierFire
  split
  · split
    · exact fireEnds_frame (fireEnds_closeMissed h ‹Fire›) (by simp)
    · exact fireEnds_frame h (by simp)
  · exact h

/-! ### The entry that fires -/

theorem fireReached_some (ha : s.loop.aligned = true) (h : s.contest.claims.find? (Claim.firesAt r) = some z) :
    fireReached s r = fireClaim s z := by
  unfold fireReached
  rw [if_pos ha, h]

theorem fireReached_none (h : ∀ z ∈ s.contest.claims, z.firesAt r = false) : fireReached s r = s := by
  have none : s.contest.claims.find? (Claim.firesAt r) = none := by
    rw [List.find?_eq_none]
    intro z hz
    rw [h z hz]
    decide
  unfold fireReached
  rw [none]
  simp

theorem firesAt_iff : z.firesAt r = true ↔
    (z.state = .armed ∨ z.state = .committed) ∧ ∃ f, z.firePos = some f ∧ r f = true := by
  unfold Claim.firesAt
  cases z.firePos <;> simp

theorem not_firing_of_firesAt (h : z.firesAt r = true) : z.state ≠ .firing := by
  rcases (firesAt_iff.1 h).1 with h | h <;> rw [h] <;> decide

/-- R129: the fire of an entry, whatever fire it closes. -/
theorem fireClaim_divert (s : State) (z : Claim) : (fireClaim s z).divert.output = true ∧
    (fireClaim s z).divert.fire = some ⟨z.slot, z.target.place, some 0, some 0⟩ := by
  simp [fireClaim, setOutput, setFire]

theorem slotKept_fireClaim (h : NotFiring k s) (hz : z.slot ≠ k) : SlotKept k s (fireClaim s z) :=
  slotKept_modifyClaim (slotKept_frame ((fireEnds_closeEarlierFire (fireEnds_refl s)).spared k h) (by simp)) hz
    fun _ => rfl

theorem fireClaim_claimAt (h : NotFiring z.slot s) (hz : s.claimAt z.slot = some z) :
    (fireClaim s z).claimAt z.slot = some { z with state := .firing } := by
  have closed := ((fireEnds_closeEarlierFire (fireEnds_refl s)).spared z.slot h).claim
  have claim : (setFire (setOutput (closeEarlierFire s) true)
      (some ⟨z.slot, z.target.place, some 0, some 0⟩)).claimAt z.slot = some z :=
    (claimAt_congr (by simp) _).trans (closed.trans hz)
  exact claimAt_modified claim fun _ => rfl

/-- R114, R118: the tests move an entry from ARMED to COMMITTED alone, and leave its fire position. -/
theorem checked_cases {y : Claim} (h : Checked s t cs k y) (hz : t.claimAt k = some z) :
    z.firePos = y.firePos ∧ (z.state = y.state ∨ (y.state = .armed ∧ z.state = .committed)) := by
  have own : ∀ {w}, t.claimAt k = some w → w = z := fun hw => Option.some.inj (hw.symm.trans hz)
  cases hy : y.state with
  | queued =>
    have queued := queuedAt_of_testedAt hy h.tested
    by_cases far : Far s cs k
    · by_cases idle : HasIdle k s
      · cases hz.symm.trans (queued.left far idle).1
      · exact own (queued.kept far idle) ▸ ⟨rfl, Or.inl hy⟩
    · exact own (queued.near far) ▸ ⟨rfl, Or.inl hy⟩
  | sending =>
    have sent := own (h.tested.sending hy)
    split at sent <;> exact sent ▸ ⟨rfl, Or.inl hy⟩
  | armed =>
    have armed := own (h.tested.armed hy)
    split at armed
    · exact armed ▸ ⟨rfl, Or.inr ⟨rfl, rfl⟩⟩
    · exact armed ▸ ⟨rfl, Or.inl hy⟩
  | committed => exact own (h.tested.committed hy) ▸ ⟨rfl, Or.inl hy⟩
  | firing => exact own (h.firing hy) ▸ ⟨rfl, Or.inl hy⟩

/-- R114: an entry that the tests made leave was found late. -/
theorem far_of_gone {y : Claim} (h : Checked s t cs k y) (hg : t.claimAt k = none) : Far s cs k := by
  have stands : ∀ {w}, t.claimAt k ≠ some w := fun hw => by simp [hg] at hw
  cases hy : y.state with
  | queued =>
    by_contra near
    exact stands ((queuedAt_of_testedAt hy h.tested).near near)
  | sending => exact absurd (h.tested.sending hy) stands
  | armed => exact absurd (h.tested.armed hy) stands
  | committed => exact absurd (h.tested.committed hy) stands
  | firing => exact absurd (h.firing hy) stands

/-- R118: the tests make no entry fire that did not fire before. -/
theorem firesAt_of_checked {y : Claim} (h : Checked s t cs k y) (hz : t.claimAt k = some z) (hr : z.firesAt r = true) :
    y.firesAt r = true := by
  obtain ⟨pos, state⟩ := checked_cases h hz
  rw [firesAt_iff] at hr ⊢
  rw [← pos]
  refine ⟨?_, hr.2⟩
  rcases state with state | ⟨armed, -⟩
  · rw [← state]
    exact hr.1
  · exact Or.inl armed

theorem notFiring_of_checked {y : Claim} (h : Checked s t cs k y) (hn : (t.contest.claims.map (·.slot)).Nodup)
    (hy : y.state ≠ .firing) : NotFiring k t := by
  refine notFiring_of_claimAt hn fun z hz hf => ?_
  obtain ⟨-, state | ⟨-, state⟩⟩ := checked_cases h hz
  · exact hy (state ▸ hf)
  · rw [state] at hf
    cases hf

/-! ### The search leaves the entries that stand -/

theorem queueClaim_claimAt_some {g : Target} {w : Urgency} (h : s.claimAt k = some x) :
    (queueClaim s j g w).claimAt k = some x := by
  unfold State.claimAt at h ⊢
  rw [queueClaim_claims, List.find?_append, h]
  rfl

theorem queueClaim_claimAt_none {g : Target} {w : Urgency} (h : s.claimAt k = none) (hj : j ≠ k) :
    (queueClaim s j g w).claimAt k = none := by
  unfold State.claimAt at h ⊢
  rw [queueClaim_claims, List.find?_append, h]
  simp [hj]

/-- R105: an examined slot is claimed, or nothing changes. -/
theorem searchSlot_cases (s : State) (k : Nat) : searchSlot s k = s ∨ ∃ g w, searchSlot s k = queueClaim s k g w := by
  unfold searchSlot
  split
  · exact Or.inl rfl
  · split
    · split
      · exact Or.inr ⟨_, _, rfl⟩
      · exact Or.inl rfl
    · exact Or.inl rfl

/-- A property that the claiming of a candidate keeps is kept by the search. -/
theorem runSearch_induct {P : State → Prop} (h : P (s.setContest { s.contest with searchDue := false }))
    (hq : ∀ u j g w, isCandidate s j = true → P u → P (queueClaim u j g w)) : P (runSearch s) := by
  have searched : ∀ l : List Nat, ∀ u, (∀ j ∈ l, isCandidate s j = true) → P u → P (l.foldl searchSlot u) := by
    intro l
    induction l with
    | nil => exact fun u _ hu => hu
    | cons j l ih =>
      intro u hl hu
      refine ih _ (fun i hi => hl i (List.mem_cons_of_mem j hi)) ?_
      rcases searchSlot_cases u j with e | ⟨g, w, e⟩
      · rwa [e]
      · rw [e]
        exact hq u j g w (hl j List.mem_cons_self) hu
  unfold runSearch
  dsimp only
  split
  · refine searched _ _ (fun j hj => ?_) h
    have := (sortBy_perm _ _).mem_iff.1 hj
    exact (List.mem_filter.1 this).2
  · exact h

theorem runSearch_claimAt_some (h : s.claimAt k = some x) : (runSearch s).claimAt k = some x :=
  runSearch_induct (P := fun u => u.claimAt k = some x) h fun _ _ _ _ _ => queueClaim_claimAt_some

theorem runSearch_claimAt_none (h : s.claimAt k = none) (hk : isCandidate s k = false) :
    (runSearch s).claimAt k = none :=
  runSearch_induct (P := fun u => u.claimAt k = none) h fun _ _ _ _ hj hu =>
    queueClaim_claimAt_none hu fun e => by
      rw [e, hk] at hj
      cases hj

/-- R110: a search makes QUEUED entries alone. -/
theorem mem_runSearch {c : Claim} (h : c ∈ (runSearch s).contest.claims) : c ∈ s.contest.claims ∨ c.state = .queued := by
  refine runSearch_induct (P := fun u => ∀ c ∈ u.contest.claims, c ∈ s.contest.claims ∨ c.state = .queued)
    (fun c hc => Or.inl hc) (fun u j g w _ hu c hc => ?_) c h
  rw [queueClaim_claims] at hc
  rcases List.mem_append.1 hc with hc | hc
  · exact hu c hc
  · right
    rw [List.mem_singleton.1 hc]

/-- R110: a search queues CLAIM frames alone. -/
theorem mem_tx_runSearch {y : TxFrame} (h : y ∈ (runSearch s).line.tx) (hy : y.frame.isAnnounce = true) :
    y ∈ s.line.tx := by
  refine runSearch_induct (P := fun u => ∀ y ∈ u.line.tx, y.frame.isAnnounce = true → y ∈ s.line.tx)
    (fun y hy _ => hy) (fun u j g w _ hu y hy ha => ?_) y h hy
  unfold queueClaim at hy
  rcases mem_tx_offerFrame hy with hy | rfl
  · exact hu y (by simpa using hy) ha
  · cases ha

theorem not_candidate_of_far (h : reachable s k = false) : isCandidate s k = false := by
  unfold isCandidate
  split <;> simp [h]

/-! ### The rest of an event after the tests -/

theorem slotKept_passSlot (h : SlotKept k s t) : SlotKept k s (passSlot t) := by
  unfold passSlot
  split
  · exact slotKept_withdrawAnnounces (slotKept_frame h (by simp)) fun _ => isAnnounce_of_for
  · exact h

/-- The entry as the tests left it, and no event reported that lowers a counter. -/
theorem testedAt_later (h : TestedAt s u cs k x) (hc : t.claimAt k = u.claimAt k)
    (hv : ∀ i : Fin 4, s.counters[i].event = some .claimExpired →
      min u.counters[i].value 4294967295 ≤ t.counters[i].value) : TestedAt s t cs k x := by
  obtain ⟨sending, near, kept, left, armed, committed⟩ := h
  refine ⟨?_, ?_, ?_, ?_, ?_, ?_⟩ <;> rw [hc]
  · exact sending
  · exact near
  · exact kept
  · intro hx hf hi
    obtain ⟨gone, counted⟩ := left hx hf hi
    refine ⟨gone, fun he i hi => ?_⟩
    have first := counted he i hi
    have later := hv i hi.1
    omega
  · exact armed
  · exact committed

end Sys2Proof.Laws
end

section
/-! SUPPORT. An aligned forward pulse that meets no slip: the entries against the position reached, the fire, and the passage of its slot (R4, R16 to R18, R114, R118, R130). -/

namespace Sys2Proof.Laws

open Sys2Proof Sys2Proof.Machine Sys2Proof.Safety

variable {s t u : State} {j k : Nat} {x z : Claim} {r : Nat → Bool}

/-! ### The steps of the pulse (log 7) -/

/-- A part within its laws, ALIGNED, whose next forward pulse meets no MISSING slip. -/
structure Travels (s : State) : Prop where
  running : Running s
  aligned : s.loop.aligned = true
  onTime : ¬MissesMark s

/-- The pulse up to the tests: the counter, the gate, and the divert's first three steps (R130). -/
def beforeTests (s : State) : State := divertPulse (gatePulse (atGate s))

/-- The pulse up to its fire. -/
def afterTests (s : State) : State := testClaims (beforeTests s)

theorem atGate_onTime (h : Travels s) : atGate s = countPulse (noteTravel s) := atGate_of_not_miss h.onTime

theorem beforeTests_loop (h : Travels s) : (beforeTests s).loop.counter = reached s ∧
    (beforeTests s).loop.aligned = true ∧ (beforeTests s).config = s.config := by
  obtain ⟨m, loop⟩ := atGate_loop s
  unfold beforeTests
  simp [loop, h.aligned]

theorem running_beforeTests (h : Travels s) : Running (beforeTests s) := by
  unfold beforeTests
  rw [atGate_onTime h]
  exact running_divertPulse (running_gatePulse (running_countPulse (running_noteTravel h.running)))

theorem kept_beforeTests (s : State) : KeptByRow s (beforeTests s) :=
  kept_divertPulse rows_divertEvents (kept_gatePulse (by decide)
    (kept_checkMissing rows_claimEvents rows_missed (kept_countPulse (kept_noteTravel (kept_refl _ s)))))

theorem fireEnds_beforeTests (h : Travels s) : FireEnds s (beforeTests s) := by
  refine fireEnds_divertPulse (fireEnds_frame (fireEnds_refl s) ?_)
  rw [atGate_onTime h]
  simp

theorem pulse_eq (h : Travels s) : forwardPulse s = sampleBoundary (runSearch (passSlot
    (fireReached (afterTests s) (fun f => decide (f = reached s))))) := by
  have counter : (atGate s).loop.counter = reached s := by rw [atGate_onTime h, countPulse_counter]
  have aligned := (beforeTests_loop h).2.1
  rw [forwardPulse_atGate h.running.started]
  unfold reachPosition
  dsimp only
  rw [counter]
  unfold afterTests
  rw [← show beforeTests s = divertPulse (gatePulse (atGate s)) from rfl, if_pos aligned]

/-! ### The tests of the pulse -/

theorem notFiring_running (h : Running s) (hc : s.claimAt k = some x) (hx : x.state ≠ .firing) : NotFiring k s :=
  notFiring_of_claimAt h.tables.once fun y hy => by
    rw [hc] at hy
    cases hy
    exact hx

theorem checked_afterTests (h : Travels s) (hc : s.claimAt k = some x) (hx : x.state ≠ .firing) :
    Checked s (afterTests s) [reached s] k x := by
  obtain ⟨counter, aligned, config⟩ := beforeTests_loop h
  have before := checked_init hc ((fireEnds_beforeTests h).spared k (notFiring_running h.running hc hx)) (kept_beforeTests s)
  have tests := checked_testClaims before (running_beforeTests h).tables.once config aligned
  rw [counter] at tests
  exact tests

theorem running_afterTests (h : Travels s) : Running (afterTests s) := running_testClaims (running_beforeTests h)

/-- An entry that fires at the position reached fired there before the pulse. -/
theorem fired_before (h : Travels s) (hz : z ∈ (afterTests s).contest.claims) (hr : z.firesAt r = true) :
    ∃ y ∈ s.contest.claims, s.claimAt z.slot = some y ∧ y.firesAt r = true := by
  obtain ⟨-, aligned, -⟩ := beforeTests_loop h
  have once := (running_beforeTests h).tables.once
  have claim := claimAt_of_mem (running_afterTests h).tables.once hz
  cases hy : (beforeTests s).claimAt z.slot with
  | none =>
    cases claim.symm.trans ((slotKept_testClaims hy).claim.trans hy)
  | some y =>
    have test := checked_testClaims (checked_init hy (slotKept_refl _ _) (kept_refl _ _)) once rfl aligned
    have mem := (fireEnds_beforeTests h).fewer y (claimAt_mem hy)
    refine ⟨y, mem, ?_, firesAt_of_checked test claim hr⟩
    rw [← claimAt_slot hy]
    exact claimAt_of_mem h.running.tables.once mem

/-! ### The fire of the pulse -/

/-- The entries that fire at the position reached. -/
def firesNow (s : State) (z : Claim) : Prop := z.firesAt (fun f => decide (f = reached s)) = true

theorem firesNow_iff : firesNow s z ↔ (z.state = .armed ∨ z.state = .committed) ∧ z.firePos = some (reached s) := by
  unfold firesNow
  rw [firesAt_iff]
  simp

/-- The entry that fires, if one does, and whose slot. -/
theorem fired_cases (h : Travels s) {f : State} (hf : fireReached (afterTests s) (fun f => decide (f = reached s)) = f) :
    (f = afterTests s ∧ ∀ z ∈ (afterTests s).contest.claims, ¬firesNow s z) ∨
    ∃ z y, z ∈ (afterTests s).contest.claims ∧ f = fireClaim (afterTests s) z ∧ s.claimAt z.slot = some y ∧
      firesNow s y := by
  have aligned : (afterTests s).loop.aligned = true := by
    unfold afterTests
    simpa using (beforeTests_loop h).2.1
  subst hf
  cases hz : (afterTests s).contest.claims.find? (Claim.firesAt fun f => decide (f = reached s)) with
  | none =>
    have none := List.find?_eq_none.1 hz
    exact Or.inl ⟨fireReached_none fun z hm => Bool.not_eq_true _ ▸ none z hm, none⟩
  | some z =>
    have mem := List.mem_of_find?_eq_some hz
    obtain ⟨y, -, hy, fires⟩ := fired_before h mem (List.find?_some hz)
    exact Or.inr ⟨z, y, mem, fireReached_some aligned hz, hy, fires⟩

/-- A fire at the position leaves the slots of the entries that do not fire there. -/
theorem slotKept_fired (h : Travels s) (hc : s.claimAt k = some x) (hx : x.state ≠ .firing) (hn : ¬firesNow s x) :
    SlotKept k (afterTests s) (fireReached (afterTests s) (fun f => decide (f = reached s))) := by
  have spared := notFiring_of_checked (checked_afterTests h hc hx) (running_afterTests h).tables.once hx
  rcases fired_cases h rfl with ⟨e, -⟩ | ⟨z, y, -, e, hy, fires⟩
  · rw [e]
    exact slotKept_refl _ _
  · rw [e]
    refine slotKept_fireClaim spared fun slot => hn ?_
    rw [slot, hc] at hy
    cases hy
    exact fires

/-- R118: an entry that fires is tested first, and may have become COMMITTED. -/
theorem tested_of_fires (h : Travels s) (hc : s.claimAt k = some x) (hf : firesNow s x) :
    ∃ z, (afterTests s).claimAt k = some z ∧ firesNow s z ∧ z.target = x.target ∧
      { z with state := .firing } = { x with state := .firing } := by
  obtain ⟨state, pos⟩ := firesNow_iff.1 hf
  have test := (checked_afterTests h hc (not_firing_of_firesAt hf)).tested
  rcases state with state | state
  · refine ⟨_, test.armed state, ?_, ?_, ?_⟩
    · split
      · exact firesNow_iff.2 ⟨Or.inr rfl, pos⟩
      · exact hf
    · split <;> rfl
    · split <;> rfl
  · exact ⟨x, test.committed state, hf, rfl, rfl⟩

/-- R16, R129: the one entry whose fire position is reached fires. -/
theorem fired_alone (h : Travels s) (hc : s.claimAt k = some x) (hf : firesNow s x)
    (alone : ∀ z ∈ s.contest.claims, z ≠ x → ¬firesNow s z) {f : State}
    (e : fireReached (afterTests s) (fun f => decide (f = reached s)) = f) :
    f.divert.output = true ∧ f.divert.fire = some ⟨k, x.target.place, some 0, some 0⟩ ∧
      f.claimAt k = some { x with state := .firing } := by
  obtain ⟨w, hw, fires, target, same⟩ := tested_of_fires h hc hf
  rcases fired_cases h e with ⟨-, none⟩ | ⟨z, y, mem, rfl, hy, fired⟩
  · exact absurd fires (none w (claimAt_mem hw))
  · have yx : y = x := by
      by_contra ne
      exact alone y (claimAt_mem hy) ne fired
    have slot : z.slot = k := by rw [← claimAt_slot hy, yx, claimAt_slot hc]
    have once := (running_afterTests h).tables.once
    have hz : (afterTests s).claimAt k = some z := slot ▸ claimAt_of_mem once mem
    have zw : z = w := Option.some.inj (hz.symm.trans hw)
    subst zw
    have spared := notFiring_of_checked (checked_afterTests h hc (not_firing_of_firesAt hf)) once
      (not_firing_of_firesAt hf)
    obtain ⟨output, fire⟩ := fireClaim_divert (afterTests s) z
    subst slot
    exact ⟨output, target ▸ fire, same ▸ fireClaim_claimAt spared hz⟩

/-! ### The pulse as a whole -/

theorem nearAt_iff {c : Nat} : nearAt s c k = true ↔
    positionAt s c k < s.divertPos ∧ s.timing.armLead ≤ s.divertPos - positionAt s c k := by
  simp [nearAt]

theorem far_one {c : Nat} : Far s [c] k ↔
    ¬(positionAt s c k < s.divertPos ∧ s.timing.armLead ≤ s.divertPos - positionAt s c k) := by
  rw [← nearAt_iff]
  simp [Far]

theorem hasIdle_of_frame (h : ∃ y ∈ s.line.tx, y.frame.isClaimFor k = true ∧ y.sending = false ∧ y.inAttempt = false) :
    HasIdle k s := by
  obtain ⟨y, hy, hk, hs, ha⟩ := h
  exact ⟨y, mem_claimFrames.2 ⟨hy, hk⟩, by simp [TxFrame.idle, hs, ha]⟩

theorem frame_of_hasIdle (h : HasIdle k s) :
    ∃ y ∈ s.line.tx, y.frame.isClaimFor k = true ∧ y.sending = false ∧ y.inAttempt = false := by
  obtain ⟨y, hy, idle⟩ := h
  obtain ⟨hy, hk⟩ := mem_claimFrames.1 hy
  exact ⟨y, hy, hk, by simpa [TxFrame.idle] using idle⟩

theorem sampleBoundary_expired (u : State) {i : Fin 4} (hi : u.counters[i].event = some .claimExpired) :
    (sampleBoundary u).counters[i] = u.counters[i] := sampleBoundary_silent (by simp [IsSum]) hi

/-- The pulse up to its search. -/
def afterPassage (s : State) : State := passSlot (fireReached (afterTests s) (fun f => decide (f = reached s)))

theorem forwardPulse_travels (h : Travels s) : forwardPulse s = sampleBoundary (runSearch (afterPassage s)) := pulse_eq h

theorem afterPassage_frame (h : Travels s) : (afterPassage s).loop.counter = reached s ∧
    (afterPassage s).loop.aligned = true ∧ (afterPassage s).config = s.config := by
  obtain ⟨counter, aligned, config⟩ := beforeTests_loop h
  unfold afterPassage afterTests
  simp [counter, aligned, config]

theorem checked_afterPassage (h : Travels s) (hc : s.claimAt k = some x) (hx : x.state ≠ .firing)
    (hn : ¬firesNow s x) : Checked s (afterPassage s) [reached s] k x :=
  checked_move (checked_afterTests h hc hx) (slotKept_passSlot (slotKept_fired h hc hx hn))
    (kept_passSlot rows_claimEvents (kept_fireReached rows_claimEvents rows_missed (kept_refl _ _) _))

/-- R105: a slot whose entry was found late at the position reached is not claimed again. -/
theorem claimAt_search (h : Travels s) (hu : Checked s (afterPassage s) [reached s] k x) :
    (forwardPulse s).claimAt k = (afterPassage s).claimAt k := by
  obtain ⟨counter, aligned, config⟩ := afterPassage_frame h
  rw [forwardPulse_travels h, claimAt_congr (s := runSearch (afterPassage s)) (by simp)]
  cases hk : (afterPassage s).claimAt k with
  | some y => exact runSearch_claimAt_some hk
  | none =>
    obtain ⟨c, hc, far⟩ := far_of_gone hu hk
    rw [List.mem_singleton] at hc
    subst hc
    refine runSearch_claimAt_none hk (not_candidate_of_far ?_)
    rw [reachable_eq config aligned, counter, far]

/-- The entry of a slot that does not fire, as the pulse leaves it. -/
theorem testedAt_pulse (h : Travels s) (hc : s.claimAt k = some x) (hx : x.state ≠ .firing) (hn : ¬firesNow s x) :
    TestedAt s (forwardPulse s) [reached s] k x := by
  have passed := checked_afterPassage h hc hx hn
  refine testedAt_later passed.tested (claimAt_search h passed) fun i hi => ?_
  have searched := kept_runSearch rows_claimEvents (kept_refl rowEvents (afterPassage s))
  have event := (searched.counted.event i).trans ((passed.kept.counted.event i).trans hi)
  rw [forwardPulse_travels h, sampleBoundary_expired _ event]
  exact searched.counted.value_ge i

/-- The one entry whose fire position is reached, as the pulse leaves it. -/
theorem fires_pulse (h : Travels s) (hc : s.claimAt k = some x) (hf : firesNow s x)
    (alone : ∀ z ∈ s.contest.claims, z ≠ x → ¬firesNow s z) : (forwardPulse s).divert.output = true ∧
    (forwardPulse s).divert.fire = some ⟨k, x.target.place, some 0, some 0⟩ ∧
      (forwardPulse s).claimAt k = some { x with state := .firing } := by
  obtain ⟨output, fire, claim⟩ := fired_alone h hc hf alone rfl
  rw [forwardPulse_travels h, claimAt_congr (s := runSearch (afterPassage s)) (by simp)]
  refine ⟨by simpa [afterPassage] using output, by simpa [afterPassage] using fire, runSearch_claimAt_some ?_⟩
  exact (slotKept_passSlot (slotKept_refl k _)).claim.trans claim

/-! ### The passage of the slot (R18, R48, R73, R96) -/

/-- Slot k is at the induction point. -/
abbrev Passes (s : State) (k : Nat) : Prop := k * s.pitch = reached s

/-- R4: the position reached is a boundary, of the slot that passes. -/
theorem passes_iff (h : Travels s) (hb : reached s % s.pitch = 0) (k : Nat) : Passes s k ↔ k = reached s / s.pitch := by
  have pos : 0 < s.pitch := by
    have := h.running.loopPos
    exact Nat.pos_of_ne_zero fun e => by simp [State.loopLen, e] at this
  unfold Passes
  constructor
  · intro e
    rw [← e, Nat.mul_div_cancel _ pos]
  · rintro rfl
    exact Nat.div_mul_cancel (Nat.dvd_of_mod_eq_zero hb)

theorem not_passes (hb : reached s % s.pitch ≠ 0) (k : Nat) : ¬Passes s k := by
  rintro e
  rw [← e] at hb
  simp at hb

/-- The pulse up to its passage. -/
def afterFire (s : State) : State := fireReached (afterTests s) (fun f => decide (f = reached s))

theorem afterFire_frame (h : Travels s) : (afterFire s).view = s.view ∧
    (afterFire s).gate = (gatePulse (atGate s)).gate := by
  unfold afterFire afterTests beforeTests
  rw [atGate_onTime h]
  simp

/-- R18: the passage of a boundary, and none elsewhere. -/
theorem afterPassage_cases (h : Travels s) :
    (reached s % s.pitch = 0 ∧ afterPassage s = inductionPassage (afterFire s) (reached s / s.pitch)) ∨
    (reached s % s.pitch ≠ 0 ∧ afterPassage s = afterFire s) := by
  obtain ⟨counter, aligned, config⟩ := beforeTests_loop h
  have loop : (afterFire s).loop = (beforeTests s).loop := by
    unfold afterFire afterTests
    simp
  have pitch : (afterFire s).pitch = s.pitch := pitch_of_config (by
    unfold afterFire afterTests
    simpa using config)
  have boundary : atBoundary (afterFire s) = decide (reached s % s.pitch = 0) := by
    unfold atBoundary
    rw [loop, aligned, counter, pitch, Bool.true_and]
  show _ ∧ passSlot (afterFire s) = _ ∨ _ ∧ passSlot (afterFire s) = _
  unfold passSlot
  rw [boundary, loop, counter, pitch]
  by_cases hb : reached s % s.pitch = 0
  · exact Or.inl ⟨hb, if_pos (by simpa using hb)⟩
  · exact Or.inr ⟨hb, if_neg (by simpa using hb)⟩

theorem inductionPassage_view (s : State) (k : Nat) : (inductionPassage s k).view = s.view.set k .empty := by
  unfold inductionPassage
  simp [setViewEntry]

theorem inductionPassage_edges (s : State) (k : Nat) : (inductionPassage s k).gate.edges =
    s.gate.edges.map (fun e => if e.slot = k then { e with lapped := true } else e) := by
  unfold inductionPassage
  simp [lapEdges, setEdges, setViewEntry]

/-- R73: no ANNOUNCE of a slot that passes is left waiting outside an attempt. -/
theorem inductionPassage_announces {y : TxFrame} (h : y ∈ (inductionPassage s k).line.tx)
    (hk : y.frame.isAnnounceFor k = true) : y.idle = false := by
  unfold inductionPassage at h
  rw [tx_withdrawAnnounces] at h
  exact idle_askWithdrawal h hk

theorem forwardPulse_view (h : Travels s) (hk : k < s.slots) :
    (forwardPulse s).viewAt k = if Passes s k then .empty else s.viewAt k := by
  have view : (forwardPulse s).view = (afterPassage s).view := by
    rw [forwardPulse_travels h]
    simp
  unfold State.viewAt
  rw [view]
  rcases afterPassage_cases h with ⟨hb, e⟩ | ⟨hb, e⟩
  · rw [e, inductionPassage_view, (afterFire_frame h).1]
    by_cases hp : Passes s k
    · rw [if_pos hp, ← (passes_iff h hb k).1 hp, List.getD_eq_getElem?_getD, List.getElem?_set_self
        (by rw [h.running.view]; exact hk)]
      rfl
    · have ne : reached s / s.pitch ≠ k := fun e => hp ((passes_iff h hb k).2 e.symm)
      rw [if_neg hp, List.getD_eq_getElem?_getD, List.getElem?_set_ne ne, ← List.getD_eq_getElem?_getD]
  · rw [e, (afterFire_frame h).1, if_neg (not_passes hb k)]

theorem forwardPulse_edges (h : Travels s) (hd : ∀ a b n, s.gate.deglitch ≠ .blocking a b n) :
    (forwardPulse s).gate.edges =
      (agedEdges s).map (fun e => if Passes s e.slot then { e with lapped := true } else e) := by
  have gate : (atGate s).gate = s.gate := by simp
  have aged : (afterFire s).gate.edges = agedEdges s := by
    rw [(afterFire_frame h).2, (gatePulse_age (s := atGate s) (by rw [gate]; exact hd)).1,
      agedEdges_congr gate (by simp)]
  have edges : (forwardPulse s).gate.edges = (afterPassage s).gate.edges := by
    rw [forwardPulse_travels h]
    simp
  rw [edges]
  rcases afterPassage_cases h with ⟨hb, e⟩ | ⟨hb, e⟩
  · rw [e, inductionPassage_edges, aged]
    exact List.map_congr_left fun e _ => by simp only [passes_iff h hb]
  · rw [e, aged]
    simp only [not_passes hb, if_false, List.map_id']

theorem forwardPulse_announces (h : Travels s) (hp : Passes s k) {y : TxFrame} (hy : y ∈ (forwardPulse s).line.tx)
    (hk : y.frame.isAnnounceFor k = true) : y.sending = true ∨ y.inAttempt = true := by
  rw [forwardPulse_travels h, (sampleBoundary_frame _).2.2.2.2.1] at hy
  have mem := mem_tx_runSearch hy (isAnnounce_of_for hk)
  rcases afterPassage_cases h with ⟨hb, e⟩ | ⟨hb, -⟩
  · rw [e, ← (passes_iff h hb k).1 hp] at mem
    have busy := inductionPassage_announces mem hk
    simpa [TxFrame.idle, or_iff_not_imp_left] using busy
  · exact absurd hp (not_passes hb k)

end Sys2Proof.Laws

open Sys2Proof Sys2Proof.Machine Sys2Proof.Safety Sys2Proof.Laws

/-- Settles O39: each entry is followed through the steps of the pulse, which end no entry but a FIRING one, test each
entry once, and fire at most one. -/
theorem alignedPulseReachesPosition : Obligations.AlignedPulseReachesPosition := by
  unfold Obligations.AlignedPulseReachesPosition
  intro s running aligned
  dsimp only
  intro onTime
  have h : Travels s := ⟨running, aligned, fun ⟨_, awaited, past⟩ => onTime ⟨past, awaited.imp_right (·.2)⟩⟩
  refine ⟨forwardPulse s, rfl, fun k hk => forwardPulse_view h hk, fun hd => forwardPulse_edges h hd,
    fun k hp y hy hf => forwardPulse_announces h hp hy hf, fun k x hc => ?_⟩
  have tested : x.state ≠ .firing → (x.state = .armed ∨ x.state = .committed → x.firePos ≠ some (reached s)) →
      TestedAt s (forwardPulse s) [reached s] k x := fun hx hn =>
    testedAt_pulse h hc hx fun hf => hn (firesNow_iff.1 hf).1 (firesNow_iff.1 hf).2
  have queued : x.state = .queued → QueuedAt s (forwardPulse s) [reached s] k x := fun hx =>
    queuedAt_of_testedAt hx (tested (by simp [hx]) (by simp [hx]))
  refine ⟨fun hx => ?_, fun hx near => (queued hx).near fun hf => far_one.1 hf near,
    fun hx far busy => (queued hx).kept (far_one.2 far) fun hi => busy (frame_of_hasIdle hi),
    fun hx far idle => ?_, fun hx pos => ?_, fun hx pos => (tested (by simp [hx]) fun _ => pos).committed hx,
    fun fires alone => fires_pulse h hc (firesNow_iff.2 fires) fun z hz ne hf => alone z hz ne (firesNow_iff.1 hf)⟩
  · have sent := (tested (by simp [hx]) (by simp [hx])).sending hx
    simp only [List.all_cons, List.all_nil, Bool.and_true, nearAt_iff] at sent
    exact sent
  · obtain ⟨gone, counted⟩ := (queued hx).left (far_one.2 far) (hasIdle_of_frame idle)
    exact ⟨gone, fun he i event filter => counted he i ⟨event, filter⟩⟩
  · have armed := (tested (by simp [hx]) fun _ => pos).armed hx
    simp only [List.mem_singleton, exists_eq_left] at armed
    exact armed
end

section
/-! SUPPORT. The index mark: the mark accepted, the sweep of a forward realignment, and the entries against the positions swept (R7 to R12, R17, R131, R161). -/

namespace Sys2Proof.Laws

open Sys2Proof Sys2Proof.Machine Sys2Proof.Safety

variable {s t u : State} {j k n : Nat} {x z : Claim} {cs : List Nat}

/-! ### The mark accepted (R161) -/

/-- A LISTENING station counts the mark, and is ACTIVE at the second. -/
def Accepts (s t : State) : Prop :=
  (s.part.state ≠ .listening → t.part.state = s.part.state ∧ t.part.listeningMarks = s.part.listeningMarks) ∧
  (s.part.state = .listening → t.part.listeningMarks = s.part.listeningMarks + 1 ∧
    t.part.state = if 2 ≤ s.part.listeningMarks + 1 then .active else .listening)

theorem accepts_acceptMark (hs : u.part.state = s.part.state) (hm : u.part.listeningMarks = s.part.listeningMarks)
    (ht : t.part = (acceptMark u).part) : Accepts s t := by
  have counted : ∀ m, (u.setPart { u.part with listeningMarks := m }).part.listeningMarks = m := fun _ => rfl
  refine ⟨fun hl => ?_, fun hl => ?_⟩
  · rw [ht]
    unfold acceptMark
    rw [if_neg (by rwa [hs])]
    exact ⟨hs, hm⟩
  · rw [ht]
    unfold acceptMark
    dsimp only
    rw [if_pos (by rwa [hs]), hm]
    split
    · rw [(markSearch_frame _).2.2.2.2.2.2.2.2.2.1]
      exact ⟨(noted_moveTo (noted_refl _) _).marks.trans (counted _), moveTo_state _ _⟩
    · exact ⟨counted _, hs.trans hl⟩

theorem slotKept_acceptMark (k : Nat) (s : State) : SlotKept k s (acceptMark s) := by
  refine ⟨claimAt_congr (by simp) k, claimFrames_congr (by simp), ?_⟩
  unfold acceptMark
  dsimp only
  split
  · split
    · simp [markSearch]
    · rfl
  · rfl

theorem slotKept_realign (k : Nat) (s : State) : SlotKept k s (realign s) :=
  slotKept_frame (slotKept_refl k s) (by simp)

theorem slotKept_inductionPassage (k j : Nat) (s : State) : SlotKept k s (inductionPassage s j) :=
  slotKept_withdrawAnnounces (slotKept_frame (slotKept_refl k s) (by simp)) fun _ => isAnnounce_of_for

theorem kept_acceptMark_refl (s : State) : KeptByRow s (acceptMark s) := kept_acceptMark (kept_refl _ s)

/-! ### The kinds of mark (R7 to R12) -/

theorem indexMark_unaligned (hs : s.part.state ≠ .start) (ha : s.loop.aligned = false) :
    indexMark s = runSearch (firstAlignment s) := by
  have started : s.started = true := decide_eq_true hs
  unfold indexMark
  rw [if_pos started, if_pos ha]

theorem indexMark_upper (hs : s.part.state ≠ .start) (ha : s.loop.aligned = true)
    (hu : s.loopLen ≤ s.loop.counter + s.timing.tolerance) : indexMark s = if s.loop.markAwaited = true then
      sampleRealignment (runSearch (acceptMark (forwardRealignment s))) else s := by
  have started : s.started = true := decide_eq_true hs
  have upper : inUpperWindow s = true := decide_eq_true hu
  unfold indexMark
  rw [if_pos started, if_neg (by simp [ha]), if_pos upper]

theorem indexMark_lower (hs : s.part.state ≠ .start) (ha : s.loop.aligned = true)
    (hu : ¬s.loopLen ≤ s.loop.counter + s.timing.tolerance) (hl : s.loop.counter ≤ s.timing.tolerance) :
    indexMark s = if s.loop.markAwaited = true then runSearch (acceptMark (backwardRealignment s)) else s := by
  have started : s.started = true := decide_eq_true hs
  have upper : ¬inUpperWindow s = true := by simpa [inUpperWindow] using hu
  have lower : inLowerWindow s = true := decide_eq_true hl
  unfold indexMark
  rw [if_pos started, if_neg (by simp [ha]), if_neg upper, if_pos lower]

theorem indexMark_outside (hs : s.part.state ≠ .start) (ha : s.loop.aligned = true)
    (hu : ¬s.loopLen ≤ s.loop.counter + s.timing.tolerance) (hl : ¬s.loop.counter ≤ s.timing.tolerance) :
    indexMark s = runSearch (slip s) := by
  have started : s.started = true := decide_eq_true hs
  have upper : ¬inUpperWindow s = true := by simpa [inUpperWindow] using hu
  have lower : ¬inLowerWindow s = true := by simpa [inLowerWindow] using hl
  unfold indexMark
  rw [if_pos started, if_neg (by simp [ha]), if_neg upper, if_neg lower]

/-! ### A slip (R12) -/

theorem noticed_refl (s : State) : Noticed s s :=
  ⟨rfl, rfl, rfl, rfl, rfl, rfl, rfl, rfl, rfl, Nat.le_add_right _ _⟩

/-- R12: the cause of a slip, by the half of the loop that the counter is in. -/
def slipCause (s : State) : SlipCause := if s.loop.counter < s.loopLen / 2 then .late else .early

theorem slip_eq (s : State) : slip s = realign (raiseSlip s (slipCause s)) := by
  unfold slip slipCause
  simp only [Nat.lt_iff_add_one_le]

theorem withdrawnAtOnce_slip (s : State) : WithdrawnAtOnce s (runSearch (slip s)) 2 := by
  have withdrawn := withdrawnAtOnce_raiseSlip (noticed_refl s) (Nat.le_succ _) (slipCause s)
  have kept := kept_raiseSlip rows_claimEvents rows_missed (kept_refl rowEvents s) (slipCause s)
  have realigned := afterwards_realign (raiseSlip s (slipCause s))
  rw [slip_eq]
  exact withdrawnAtOnce_afterwards withdrawn kept (afterwards_trans realigned (afterwards_runSearch (by
    rw [realigned.state, withdrawn.state]
    decide)))

theorem runSearch_part (s : State) : (runSearch s).part = s.part := by simp

theorem slip_part (s : State) : (runSearch (slip s)).part = (raiseSlip s (slipCause s)).part := by
  rw [slip_eq]
  simp

theorem slip_loop (s : State) : (runSearch (slip s)).loop = { s.loop with counter := 0, markAwaited := false } ∧
    (runSearch (slip s)).gate = s.gate := by
  rw [slip_eq]
  simp

/-! ### The sweep (R9, R17) -/

theorem sweep_counter (hc : s.loop.counter < s.loopLen) (n : Nat) :
    (sweep n s).loop.counter = (s.loop.counter + n) % s.loopLen := by
  induction n with
  | zero => exact (Nat.mod_eq_of_lt hc).symm
  | succ n ih =>
    rw [sweep_succ, (sweepPosition_frame _).2.2.1, loopLen_of_config (s := s) (by simp), ih, Nat.mod_add_mod, Nat.add_assoc]

theorem running_sweep (h : Running s) (n : Nat) : Running (sweep n s) := by
  induction n with
  | zero => exact h
  | succ n ih =>
    rw [sweep_succ]
    exact running_sweepPosition ih

/-- The first n positions of a sweep. -/
def positions (s : State) (n : Nat) : List Nat :=
  (List.range n).map (fun i => (s.loop.counter + (i + 1)) % s.loopLen)

theorem positions_succ (s : State) (n : Nat) :
    positions s (n + 1) = positions s n ++ [(s.loop.counter + (n + 1)) % s.loopLen] := by
  simp [positions, List.range_succ]

/-- R9: the sweep of a forward realignment reaches the values after the counter, and then 0. -/
theorem positions_swept (hc : s.loop.counter < s.loopLen) :
    positions s (s.loopLen - s.loop.counter) = sweptValues s := by
  obtain ⟨m, hm⟩ : ∃ m, s.loopLen = s.loop.counter + 1 + m := ⟨s.loopLen - (s.loop.counter + 1), by omega⟩
  have steps : s.loopLen - s.loop.counter = m + 1 := by omega
  have left : s.loopLen - 1 - s.loop.counter = m := by omega
  rw [steps, positions_succ]
  unfold positions sweptValues
  rw [left]
  congr 1
  · refine List.map_congr_left fun i hi => ?_
    rw [List.mem_range] at hi
    rw [Nat.mod_eq_of_lt (by omega)]
    omega
  · rw [show s.loop.counter + (m + 1) = s.loopLen by omega, Nat.mod_self]

/-- R17: the tests of a sweep, in a part that was s before its fire. -/
theorem checked_sweep (h : Checked s u [] k x) (hr : Running u) (hl : u.loop = s.loop) (hc : u.config = s.config)
    (ha : s.loop.aligned = true) (n : Nat) : Checked s (sweep n u) (positions s n) k x := by
  have len := loopLen_of_config hc
  induction n with
  | zero => exact h
  | succ n ih =>
    have counter : (sweep (n + 1) u).loop.counter = (s.loop.counter + (n + 1)) % s.loopLen := by
      rw [sweep_counter hr.loop.1, hl, len]
    obtain ⟨c, loop⟩ := sweep_loop n u
    rw [sweep_succ] at counter ⊢
    have moved : Checked s ((sweep n u).setLoop { (sweep n u).loop with
        counter := ((sweep n u).loop.counter + 1) % (sweep n u).loopLen }) (positions s n) k x :=
      checked_move ih (slotKept_frame (slotKept_refl k _) (by simp)) (kept_setLoop (kept_refl _ _) id)
    have test := checked_testClaims moved (running_sweep hr n).tables.once (by simpa using hc)
      (by simpa [loop, hl] using ha)
    rw [positions_succ, ← counter]
    simpa [sweepPosition] using test

/-! ### A forward realignment (R9, R131) -/

/-- R9: the fire positions that a forward realignment sweeps. -/
def sweptBy (s : State) (f : Nat) : Bool := decide (s.loop.counter < f) || decide (f = 0)

/-- R9, R131: the entry's fire position is swept. -/
def Sweeps (s : State) (x : Claim) : Prop := x.firesAt (sweptBy s) = true

theorem sweeps_iff : Sweeps s x ↔ (x.state = .armed ∨ x.state = .committed) ∧
    ∃ f, x.firePos = some f ∧ (s.loop.counter < f ∨ f = 0) := by
  unfold Sweeps
  rw [firesAt_iff]
  simp [sweptBy]

/-- The realignment up to its fire, and up to its sweep. -/
def atFire (s : State) : State := fireReached s (sweptBy s)
def afterSweep (s : State) : State := sweep (s.loopLen - s.loop.counter) (atFire s)

/-- The mark up to its search. -/
def afterMark (s : State) : State := acceptMark (forwardRealignment s)

theorem afterMark_eq (s : State) : afterMark s = acceptMark (inductionPassage (realign (afterSweep s)) 0) := by
  unfold afterMark
  rw [forwardRealignment_eq]
  rfl

theorem afterMark_frame (s : State) : (afterMark s).config = s.config ∧
    (afterMark s).loop = { s.loop with counter := 0, markAwaited := false } ∧ (afterMark s).view = s.view.set 0 .empty ∧
    (afterMark s).gate.edges = s.gate.edges.map (fun e => if e.slot = 0 then { e with lapped := true } else e) ∧
    (afterMark s).gate.deglitch = s.gate.deglitch ∧ (afterMark s).divert = (atFire s).divert := by
  refine ⟨by simp [afterMark], by simp [afterMark], ?_, ?_, by simp [afterMark], ?_⟩
  · rw [afterMark_eq, (acceptMark_frame _).2.2.2.2.2.1, inductionPassage_view]
    simp [afterSweep, atFire]
  · rw [afterMark_eq, (acceptMark_frame _).2.2.2.1, inductionPassage_edges]
    simp [afterSweep, atFire]
  · rw [afterMark_eq]
    simp [afterSweep]

theorem slotKept_afterMark (k : Nat) (s : State) : SlotKept k (afterSweep s) (afterMark s) := by
  rw [afterMark_eq]
  exact slotKept_trans (slotKept_realign k _) (slotKept_trans (slotKept_inductionPassage k 0 _) (slotKept_acceptMark k _))

theorem kept_afterMark {E : List CounterEvent} (hE : claimEvents ⊆ E) {s₀ : State} (h : Kept E s₀ (afterSweep s)) :
    Kept E s₀ (afterMark s) := by
  rw [afterMark_eq]
  exact kept_acceptMark (kept_inductionPassage hE (kept_realign h) 0)

theorem kept_sweep {E : List CounterEvent} (hE : claimEvents ⊆ E) {s₀ : State} (h : Kept E s₀ s) (n : Nat) :
    Kept E s₀ (sweep n s) := by
  induction n with
  | zero => exact h
  | succ n ih =>
    rw [sweep_succ]
    exact kept_testClaims hE (kept_setLoop ih id)

theorem hasFrame_afterMark {f : OutFrame} (hf : Lasting f = true) (h : HasFrame f (atFire s)) : HasFrame f (afterMark s) := by
  rw [afterMark_eq]
  have swept : HasFrame f (afterSweep s) := hasFrame_sweep hf h _
  have realigned : HasFrame f (realign (afterSweep s)) := hasFrame_congr swept (by simp)
  exact hasFrame_congr (hasFrame_inductionPassage hf realigned 0) (by simp)

/-- The entry that fires in the sweep, if one does. -/
theorem atFire_cases (ha : s.loop.aligned = true) : (atFire s = s ∧ ∀ z ∈ s.contest.claims, ¬Sweeps s z) ∨
    ∃ z ∈ s.contest.claims, Sweeps s z ∧ atFire s = fireClaim s z := by
  unfold atFire
  cases hz : s.contest.claims.find? (Claim.firesAt (sweptBy s)) with
  | none =>
    have none := List.find?_eq_none.1 hz
    exact Or.inl ⟨fireReached_none fun z hm => Bool.not_eq_true _ ▸ none z hm, none⟩
  | some z => exact Or.inr ⟨z, List.mem_of_find?_eq_some hz, List.find?_some hz, fireReached_some ha hz⟩

theorem fireClaim_deglitch (s : State) (z : Claim) : (fireClaim s z).divert.deglitch = s.divert.deglitch := by
  have closed : (closeEarlierFire s).divert.deglitch = s.divert.deglitch := by
    unfold closeEarlierFire closeMissed outcomeMissed
    dsimp only
    split
    · split
      · split <;> simp [setFire]
      · simp [setFire]
    · rfl
  simp [fireClaim, setFire, setOutput, closed]

theorem atFire_deglitch (ha : s.loop.aligned = true) : (atFire s).divert.deglitch = s.divert.deglitch := by
  rcases atFire_cases ha with ⟨e, -⟩ | ⟨z, -, -, e⟩
  · rw [e]
  · rw [e, fireClaim_deglitch]

theorem running_atFire (h : Running s) : Running (atFire s) := running_fireReached h _

theorem atFire_frame (s : State) : (atFire s).loop = s.loop ∧ (atFire s).config = s.config := by
  simp [atFire]

/-! ### The entries that do not fire in the sweep -/

theorem slotKept_atFire (h : Running s) (ha : s.loop.aligned = true) (hc : s.claimAt k = some x) (hx : x.state ≠ .firing)
    (hn : ¬Sweeps s x) : SlotKept k s (atFire s) := by
  rcases atFire_cases ha with ⟨e, -⟩ | ⟨z, mem, fires, e⟩
  · rw [e]
    exact slotKept_refl k s
  · rw [e]
    refine slotKept_fireClaim (notFiring_running h hc hx) fun slot => hn ?_
    have own := claimAt_of_mem h.tables.once mem
    rw [slot, hc] at own
    cases own
    exact fires

theorem checked_afterSweep (h : Running s) (ha : s.loop.aligned = true) (hc : s.claimAt k = some x)
    (hx : x.state ≠ .firing) (hn : ¬Sweeps s x) : Checked s (afterSweep s) (sweptValues s) k x := by
  obtain ⟨loop, config⟩ := atFire_frame s
  have fired := checked_init hc (slotKept_atFire h ha hc hx hn)
    (kept_fireReached rows_claimEvents rows_missed (kept_refl _ s) _)
  rw [← positions_swept h.loop.1]
  exact checked_sweep fired (running_atFire h) loop config ha _

theorem checked_afterMark (h : Running s) (ha : s.loop.aligned = true) (hc : s.claimAt k = some x)
    (hx : x.state ≠ .firing) (hn : ¬Sweeps s x) : Checked s (afterMark s) (sweptValues s) k x :=
  checked_move (checked_afterSweep h ha hc hx hn) (slotKept_afterMark k s) (kept_afterMark rows_claimEvents (kept_refl _ _))

theorem posMod_of_lt {a m : Nat} (h : a < m) : posMod (a : Int) m = a := by
  unfold posMod
  rw [Int.emod_eq_of_lt (by omega) (by omega), Int.toNat_natCast]

/-- R17: with the tolerance that GO demands, a slot but slot 0 passes no boundary in the sweep, so that one found too far
at a position swept is too far at 0. -/
theorem nearAt_zero_of_swept {c : Nat} (h : Running s) (hu : s.loopLen ≤ s.loop.counter + s.timing.tolerance)
    (ht : s.timing.tolerance ≤ s.pitch / 4) (hk : k < s.slots) (h0 : k ≠ 0) (hc : c ∈ sweptValues s)
    (hn : nearAt s 0 k = true) : nearAt s c k = true := by
  obtain ⟨d, hd⟩ : ∃ d, s.slots = k + 1 + d := ⟨s.slots - (k + 1), by omega⟩
  have len : s.loopLen = k * s.pitch + s.pitch + d * s.pitch := by
    unfold State.loopLen
    rw [hd]
    ring
  have pitch : 0 < s.pitch := by
    have := h.loopPos
    refine Nat.pos_of_ne_zero fun e => ?_
    simp [State.loopLen, e] at this
  have start : s.pitch ≤ k * s.pitch := Nat.le_mul_of_pos_left _ (Nat.pos_of_ne_zero h0)
  have within := h.loop.1
  have zero : positionAt s 0 k = s.loopLen - k * s.pitch := by
    unfold positionAt posMod
    have : ((0 : Nat) : Int) - (k * s.pitch : Nat) = ((s.loopLen - k * s.pitch : Nat) : Int) - s.loopLen := by omega
    rw [this, Int.sub_emod_right, Int.emod_eq_of_lt (by omega) (by omega)]
    omega
  rcases List.mem_append.1 hc with hc | hc
  · obtain ⟨i, hi, rfl⟩ := List.mem_map.1 hc
    rw [List.mem_range] at hi
    have swept : positionAt s (s.loop.counter + 1 + i) k = s.loop.counter + 1 + i - k * s.pitch := by
      unfold positionAt
      rw [show ((s.loop.counter + 1 + i : Nat) : Int) - (k * s.pitch : Nat) =
        ((s.loop.counter + 1 + i - k * s.pitch : Nat) : Int) by omega]
      exact posMod_of_lt (by omega)
    rw [nearAt_iff] at hn ⊢
    rw [swept]
    omega
  · rw [List.mem_singleton.1 hc]
    exact hn

/-- R105: an entry that left in the sweep is not claimed again: slot 0 has lost its view entry, and another is too far. -/
theorem not_candidate_afterMark (h : Running s) (ha : s.loop.aligned = true)
    (hu : s.loopLen ≤ s.loop.counter + s.timing.tolerance) (ht : s.timing.tolerance ≤ s.pitch / 4) (hk : k < s.slots)
    (hf : Far s (sweptValues s) k) : isCandidate (afterMark s) k = false := by
  obtain ⟨config, loop, view, -⟩ := afterMark_frame s
  by_cases h0 : k = 0
  · subst h0
    have empty : (afterMark s).viewAt 0 = .empty := by
      unfold State.viewAt
      rw [view]
      cases s.view <;> rfl
    unfold isCandidate
    rw [empty]
  · refine not_candidate_of_far ?_
    rw [reachable_eq config (by rw [loop]; exact ha), loop]
    obtain ⟨c, hc, far⟩ := hf
    by_contra near
    rw [nearAt_zero_of_swept h hu ht hk h0 hc (Bool.not_eq_false _ ▸ near)] at far
    cases far

theorem sampleRealignment_silent {e : CounterEvent} (he : ¬IsSum e) {i : Fin 4} (hi : s.counters[i].event = some e) :
    (sampleRealignment s).counters[i] = s.counters[i] := by
  unfold sampleRealignment
  split
  · exact sampleOccupancy_silent he hi
  · rfl

/-- R9: the mark that realigns forward. -/
def upperMark (s : State) : State := sampleRealignment (runSearch (afterMark s))

theorem testedAt_firing (hx : x.state = .firing) : TestedAt s t cs k x :=
  ⟨by simp [hx], by simp [hx], by simp [hx], by simp [hx], by simp [hx], by simp [hx]⟩

/-- The outcome of the tests, after a search that does not claim the slot again. -/
theorem testedAt_search (h : Checked s u cs k x) (hf : u.claimAt k = none → isCandidate u k = false)
    (ht : t.claimAt k = (runSearch u).claimAt k)
    (hv : ∀ i : Fin 4, (runSearch u).counters[i].event = some .claimExpired → t.counters[i] = (runSearch u).counters[i]) :
    TestedAt s t cs k x := by
  refine testedAt_later h.tested (ht.trans ?_) fun i hi => ?_
  · cases hk : u.claimAt k with
    | some y => exact runSearch_claimAt_some hk
    | none => exact runSearch_claimAt_none hk (hf hk)
  · have searched := kept_runSearch rows_claimEvents (kept_refl rowEvents u)
    have event := (searched.counted.event i).trans ((h.kept.counted.event i).trans hi)
    rw [hv i event]
    exact searched.counted.value_ge i

theorem testedAt_upperMark (h : Running s) (ha : s.loop.aligned = true)
    (hu : s.loopLen ≤ s.loop.counter + s.timing.tolerance) (ht : s.timing.tolerance ≤ s.pitch / 4)
    (hc : s.claimAt k = some x) (hn : ¬Sweeps s x) : TestedAt s (upperMark s) (sweptValues s) k x := by
  by_cases hx : x.state = .firing
  · exact testedAt_firing hx
  · have checked := checked_afterMark h ha hc hx hn
    have slot : k < s.slots := claimAt_slot hc ▸ h.tables.onLoop x (claimAt_mem hc)
    exact testedAt_search checked (fun gone => not_candidate_afterMark h ha hu ht slot (far_of_gone checked gone))
      (claimAt_congr (by simp [upperMark]) k) fun i hi => sampleRealignment_silent (by simp [IsSum]) hi

end Sys2Proof.Laws
end

section
/-! SUPPORT. The entry that a forward realignment fires and the fire that it closes, and a realignment back to 0 (R10, R120, R129, R131, R135). -/

namespace Sys2Proof.Laws

open Sys2Proof Sys2Proof.Machine Sys2Proof.Safety

variable {s t u : State} {j k n : Nat} {x z : Claim} {cs : List Nat}

/-! ### The entry that fires (R129) -/

theorem upperMark_claimAt {y : Claim} (h : (afterMark s).claimAt k = some y) : (upperMark s).claimAt k = some y := by
  have searched : (runSearch (afterMark s)).claimAt k = some y := runSearch_claimAt_some h
  rw [← searched]
  exact claimAt_congr (by simp [upperMark]) k

/-- R9: the one entry whose fire position is swept fires. -/
theorem atFire_alone (ha : s.loop.aligned = true) (hc : s.claimAt k = some x) (hf : Sweeps s x)
    (alone : ∀ z ∈ s.contest.claims, z ≠ x → ¬Sweeps s z) : atFire s = fireClaim s x := by
  rcases atFire_cases ha with ⟨-, none⟩ | ⟨z, mem, fires, e⟩
  · exact absurd hf (none x (claimAt_mem hc))
  · have zx : z = x := by
      by_contra ne
      exact alone z mem ne fires
    rw [e, zx]

/-- R114: a FIRING entry is tested by no position of the sweep. -/
theorem upperMark_fired (h : Running s) (ha : s.loop.aligned = true) (hc : s.claimAt k = some x) (hf : Sweeps s x)
    (e : atFire s = fireClaim s x) : (upperMark s).claimAt k = some { x with state := .firing } := by
  obtain ⟨loop, config⟩ := atFire_frame s
  have slot := claimAt_slot hc
  have fired : (atFire s).claimAt k = some { x with state := .firing } := by
    subst slot
    rw [e]
    exact fireClaim_claimAt (notFiring_running h hc (not_firing_of_firesAt hf)) hc
  have swept := checked_sweep (checked_init fired (slotKept_refl k _) (kept_refl _ _)) (running_atFire h) rfl rfl
    (by rw [loop]; exact ha) (s.loopLen - s.loop.counter)
  exact upperMark_claimAt ((slotKept_afterMark k s).claim.trans (swept.firing rfl))

theorem upperMark_divert (s : State) : (upperMark s).divert = (atFire s).divert := by
  rw [← (afterMark_frame s).2.2.2.2.2]
  simp [upperMark]

/-! ### The earlier fire that it closes (R131, R135) -/

/-- R135: the earlier window closed, counted and told. -/
def missTold (s : State) (f : Fire) : State :=
  offerNotice (reportPlace (setFire s (some { f with window := none })) .missed f.place) (.divertMissed f.slot f.place)

theorem fireClaim_closing {f : Fire} {n : Nat} (hf : s.divert.fire = some f) (hn : f.window = some n) (x : Claim) :
    fireClaim s x = modifyClaim (setFire (setOutput (setFire (outcomeMissed (missTold s f) f.slot) none) true)
      (some ⟨x.slot, x.target.place, some 0, some 0⟩)) x.slot (fun d => { d with state := .firing }) := by
  have closed : closeEarlierFire s = setFire (outcomeMissed (missTold s f) f.slot) none := by
    unfold closeEarlierFire
    rw [hf]
    dsimp only
    rw [hn]
    rfl
  unfold fireClaim
  dsimp only
  rw [closed]

theorem outcomeMissed_firing {c : Claim} (hc : firingClaim s j = some c) :
    HasFrame (.missed j) (outcomeMissed s j) ∧ (outcomeMissed s j).claimAt j = none := by
  obtain ⟨-, slot, -⟩ := firingClaim_some hc
  unfold outcomeMissed
  rw [hc]
  refine ⟨hasFrame_cancelTest (hasFrame_offered rfl _) _, claimAt_without_self (s := s) ?_⟩
  simp [leaveClaim_claims, slot]

theorem sweep_claimAt_none (h : s.claimAt k = none) (n : Nat) : (sweep n s).claimAt k = none := by
  induction n with
  | zero => exact h
  | succ n ih =>
    have moved : ((sweep n s).setLoop { (sweep n s).loop with
        counter := ((sweep n s).loop.counter + 1) % (sweep n s).loopLen }).claimAt k = none := ih
    rw [sweep_succ]
    exact (slotKept_testClaims moved).claim.trans moved

/-- R9: what follows the closing of the earlier window within the mark. -/
theorem kept_closing {f : Fire} (hf : s.divert.fire = some f) (hn : f.window = some n) (e : atFire s = fireClaim s x) :
    Kept claimEvents (missTold s f) (runSearch (afterMark s)) := by
  have refl := List.Subset.refl claimEvents
  have fired : Kept claimEvents (missTold s f) (atFire s) := by
    rw [e, fireClaim_closing hf hn]
    exact kept_modifyClaim (kept_setFire (kept_setOutput (kept_setFire (kept_outcomeMissed refl
      (kept_refl _ _) _) _) _) _) _ _
  exact kept_runSearch refl (kept_afterMark refl (kept_sweep refl fired _))

theorem upperMark_missed {f : Fire} (hf : s.divert.fire = some f) (hn : f.window = some n)
    (e : atFire s = fireClaim s x) : CountedOnce s (upperMark s) .missed f.place ∧
    (s.port.notices.length < 32 → .divertMissed f.slot f.place ∈ (upperMark s).port.notices) := by
  have after := kept_closing hf hn e
  constructor
  · have once : CountedOnce s (runSearch (afterMark s)) .missed f.place :=
      countedOnce_between (E := claimEvents) (t := setFire s (some { f with window := none })) (by decide) .none
        (by simpa [missTold] using after.counted)
    intro i hi
    have event : (runSearch (afterMark s)).counters[i].event = some .missed := by
      have told : (missTold s f).counters = (reportPlace (setFire s (some { f with window := none })) .missed
        f.place).counters := by simp [missTold]
      rw [after.counted.event i, told]
      unfold reportPlace
      rw [report_counter, take_event]
      exact hi.1
    rw [← once i hi]
    exact congrArg Counter.value (sampleRealignment_silent (by simp [IsSum]) event)
  · intro hl
    have told : .divertMissed f.slot f.place ∈ (missTold s f).port.notices := mem_offerNotice (by simpa using hl) _
    have port : (upperMark s).port = (runSearch (afterMark s)).port := by simp [upperMark]
    rw [port]
    exact after.notices.subset told

/-- R120: the end of the FIRING entry of the earlier fire. -/
theorem upperMark_ended {f : Fire} {y : Claim} (hf : s.divert.fire = some f) (hn : f.window = some n)
    (e : atFire s = fireClaim s x) (hx : x.state ≠ .firing) (hc : s.claimAt x.slot = some x)
    (hy : s.claimAt f.slot = some y) (firing : y.state = .firing) : HasFrame (.missed f.slot) (upperMark s) ∧
    ∀ z ∈ (upperMark s).contest.claims, z.slot = f.slot → z.state ≠ .firing := by
  have found : ∃ c, firingClaim (missTold s f) f.slot = some c := by
    have same : (missTold s f).contest = s.contest := by simp [missTold]
    rw [← Option.isSome_iff_exists]
    unfold firingClaim
    rw [same, List.find?_isSome]
    exact ⟨y, claimAt_mem hy, by simp [claimAt_slot hy, firing]⟩
  obtain ⟨c, hc'⟩ := found
  obtain ⟨frame, gone⟩ := outcomeMissed_firing hc'
  have other : x.slot ≠ f.slot := fun slot => by
    rw [slot, hy] at hc
    cases hc
    exact hx firing
  have frame' : HasFrame (.missed f.slot) (atFire s) := by
    rw [e, fireClaim_closing hf hn]
    exact hasFrame_congr frame (by simp)
  have gone' : (atFire s).claimAt f.slot = none := by
    rw [e, fireClaim_closing hf hn, claimAt_modifyClaim_other (f := fun d => { d with state := .firing }) (fun _ => rfl) _ other]
    exact (claimAt_congr (by simp) _).trans gone
  have marked : (afterMark s).claimAt f.slot = none := (slotKept_afterMark _ s).claim.trans (sweep_claimAt_none gone' _)
  constructor
  · exact hasFrame_congr (hasFrame_runSearch rfl (hasFrame_afterMark rfl frame')) (by simp [upperMark])
  · intro z hz slot
    have mem : z ∈ (runSearch (afterMark s)).contest.claims := by simpa [upperMark] using hz
    rcases mem_runSearch mem with mem | queued
    · exact absurd (slot ▸ List.mem_map_of_mem mem) ((claimAt_none_iff _ _).1 marked)
    · rw [queued]
      decide

/-! ### The mark as a whole -/

theorem upperMark_frame (ha : s.loop.aligned = true) :
    (upperMark s).loop = { s.loop with counter := 0, markAwaited := false } ∧
    (upperMark s).view = s.view.set 0 .empty ∧
    (upperMark s).gate.edges = s.gate.edges.map (fun e => if e.slot = 0 then { e with lapped := true } else e) ∧
    (upperMark s).gate.deglitch = s.gate.deglitch ∧ (upperMark s).divert.deglitch = s.divert.deglitch := by
  obtain ⟨-, loop, view, edges, deglitch, -⟩ := afterMark_frame s
  rw [upperMark_divert, atFire_deglitch ha]
  simp [upperMark, loop, view, edges, deglitch]

theorem accepts_upperMark (s : State) : Accepts s (upperMark s) :=
  accepts_acceptMark (u := forwardRealignment s) (by simp) (noted_forwardRealignment s).marks (by
    simp [upperMark, afterMark])

theorem upperMark_output (ha : s.loop.aligned = true) (h : ∃ x ∈ s.contest.claims, Sweeps s x) :
    (upperMark s).divert.output = true := by
  obtain ⟨x, mem, fires⟩ := h
  rw [upperMark_divert]
  rcases atFire_cases ha with ⟨-, none⟩ | ⟨z, -, -, e⟩
  · exact absurd fires (none x mem)
  · rw [e]
    exact (fireClaim_divert s z).1

theorem upperMark_noFire (h : ∀ x ∈ s.contest.claims, ¬Sweeps s x) : (upperMark s).divert = s.divert := by
  rw [upperMark_divert]
  exact congrArg State.divert (fireReached_none fun z hz => Bool.not_eq_true _ ▸ h z hz)

/-- R9, R131: the one entry swept fires, and the earlier fire whose window is open is closed as MISSED. -/
theorem upperMark_fires (h : Running s) (ha : s.loop.aligned = true) (hc : s.claimAt k = some x) (hf : Sweeps s x)
    (alone : ∀ z ∈ s.contest.claims, z ≠ x → ¬Sweeps s z) :
    (upperMark s).claimAt k = some { x with state := .firing } ∧
    (upperMark s).divert.fire = some ⟨k, x.target.place, some 0, some 0⟩ ∧
    ∀ f n, s.divert.fire = some f → f.window = some n → CountedOnce s (upperMark s) .missed f.place ∧
      (s.port.notices.length < 32 → .divertMissed f.slot f.place ∈ (upperMark s).port.notices) ∧
      ∀ y, s.claimAt f.slot = some y → y.state = .firing → HasFrame (.missed f.slot) (upperMark s) ∧
        ∀ z ∈ (upperMark s).contest.claims, z.slot = f.slot → z.state ≠ .firing := by
  have e := atFire_alone ha hc hf alone
  have slot := claimAt_slot hc
  have own : s.claimAt x.slot = some x := by rw [slot, hc]
  refine ⟨upperMark_fired h ha hc hf e, ?_, fun f n earlier window => ?_⟩
  · rw [upperMark_divert, e, (fireClaim_divert s x).2, slot]
  · obtain ⟨counted, told⟩ := upperMark_missed earlier window e
    exact ⟨counted, told, fun y => upperMark_ended earlier window e (not_firing_of_firesAt hf) own⟩

/-! ### A realignment back to 0 (R10) -/

/-- R10: the mark that realigns backward. -/
def lowerMark (s : State) : State := runSearch (acceptMark (backwardRealignment s))

theorem backwardRealignment_frame (s : State) : (backwardRealignment s).config = s.config ∧
    (backwardRealignment s).loop = { s.loop with counter := 0, markAwaited := false } ∧
    (backwardRealignment s).gate = s.gate ∧ (backwardRealignment s).view = s.view ∧
    (backwardRealignment s).divert = s.divert ∧ (backwardRealignment s).staging = s.staging ∧
    (backwardRealignment s).part.state = s.part.state := by
  simp [backwardRealignment]

theorem noted_backwardRealignment (s : State) : Noted s (backwardRealignment s) :=
  noted_testClaims (noted_frame (noted_refl s) (by simp))

theorem testedAt_lowerMark (h : Running s) (ha : s.loop.aligned = true) (hc : s.claimAt k = some x) :
    TestedAt s (lowerMark s) [0] k x := by
  have realigned := checked_init hc (slotKept_realign k s) (kept_realign (kept_refl _ s))
  have test := checked_testClaims realigned (by simpa using h.tables.once) (by simp) (by simpa using ha)
  have marked : Checked s (acceptMark (backwardRealignment s)) [0] k x := by
    refine checked_move ?_ (slotKept_acceptMark k _) (kept_acceptMark_refl _)
    simpa [backwardRealignment] using test
  refine testedAt_search marked (fun gone => ?_) rfl fun _ _ => rfl
  obtain ⟨config, loop, -⟩ := backwardRealignment_frame s
  obtain ⟨c, hm, far⟩ := far_of_gone marked gone
  rw [List.mem_singleton] at hm
  subst hm
  refine not_candidate_of_far ?_
  rw [reachable_eq (s := s) (by simpa using config) (by simpa [loop] using ha)]
  simpa [loop] using far

end Sys2Proof.Laws

open Sys2Proof Sys2Proof.Machine Sys2Proof.Safety Sys2Proof.Laws

/-- Settles O40: the cases of the classification one after another; a forward realignment fires at most one entry before
its sweep, which tests each other entry at every position, and the search claims none of those that left again. -/
theorem indexMarkClassified : Obligations.IndexMarkClassified := by
  unfold Obligations.IndexMarkClassified
  intro s hs
  dsimp only
  refine ⟨fun ha => ⟨indexMark s, rfl, ?_⟩, fun ha hu hm => ⟨indexMark s, rfl, ?_⟩,
    fun ha hu hl hm => ⟨indexMark s, rfl, ?_⟩, fun ha hw hm => ?_, fun ha hu hl => ⟨indexMark s, rfl, ?_⟩⟩
  · rw [indexMark_unaligned hs ha]
    refine ⟨?_, ?_, ?_, ?_, ?_, ?_⟩
    iterate 5 simp [firstAlignment]
    exact accepts_acceptMark (u := s.setLoop { s.loop with counter := 0, aligned := true, markAwaited := false }) rfl rfl
      (runSearch_part _)
  · have mark : indexMark s = upperMark s := (indexMark_upper hs ha hu).trans (if_pos hm)
    obtain ⟨loop, view, edges, deglitch, confirm⟩ := upperMark_frame ha
    simp only [← sweeps_iff]
    rw [mark]
    exact ⟨loop, view, edges, deglitch, confirm, accepts_upperMark s, upperMark_output ha, upperMark_noFire,
      fun h k x hc => ⟨upperMark_fires h ha hc, fun hn ht => testedAt_upperMark h ha hu ht hc hn⟩⟩
  · have mark : indexMark s = lowerMark s := (indexMark_lower hs ha hu hl).trans (if_pos hm)
    obtain ⟨-, loop, gate, view, divert, staging, state⟩ := backwardRealignment_frame s
    rw [mark]
    refine ⟨?_, ?_, ?_, ?_, ?_, ?_, fun h k x hc => testedAt_lowerMark h ha hc⟩
    iterate 5 simp [lowerMark, loop, gate, view, divert, staging]
    exact accepts_acceptMark state (noted_backwardRealignment s).marks (runSearch_part _)
  · refine congrArg Host.Outcome.next ?_
    show indexMark s = s
    by_cases hu : s.loopLen ≤ s.loop.counter + s.timing.tolerance
    · rw [indexMark_upper hs ha hu, if_neg (by simp [hm])]
    · rw [indexMark_lower hs ha hu (hw.resolve_left hu), if_neg (by simp [hm])]
  · obtain ⟨cause, fault⟩ := raiseSlip_recorded s (slipCause s)
    obtain ⟨loop, gate⟩ := slip_loop s
    rw [indexMark_outside hs ha hu hl]
    exact ⟨loop, gate, by rw [slip_part, cause]; rfl, (fault_congr (slip_part s) _).trans fault, withdrawnAtOnce_slip s⟩
end

section
/-! SUPPORT. A state within every law of the queues and counts that one command takes out of them (R71, R72). -/

namespace Sys2Proof.Laws

open Sys2Proof Sys2Proof.Machine Sys2Proof.Safety

/-- A listening station in the attempt of a JOIN whose withdrawal nobody asked for, while a WITHDRAW waits. R71 marks
such a JOIN as the WITHDRAW is offered (R72), but no field of `QueueLaw` says that it is marked; the key is then lost. -/
def joinBesideWithdraw : State :=
  { State.reset with
    config := { Configuration.reset with hallSize := some ⟨16, 16⟩ }
    line := { HallLine.reset with
      state := .carrying
      tx := [⟨.join 7, false, true, false, false⟩, TxFrame.waiting (.withdraw 0)]
      attempt := some ⟨.join 0 7, false, none⟩ }
    view := List.replicate 16 .empty
    part := { FaultUnit.reset with state := .listening }
    pending := [.arbitrationEnd [0]] }

theorem joinBesideWithdraw_running : Running joinBesideWithdraw where
  started := by decide
  loopPos := by decide
  lane := by decide
  loop := ⟨by decide, by decide⟩
  gate := ⟨by decide, by decide⟩
  line := ⟨by decide, by decide, nofun⟩
  view := by decide
  plans := ⟨by decide, by decide, by decide, by decide⟩
  tables := ⟨by decide, by decide, nofun, by decide⟩
  arrivals := ⟨by decide, by decide, by decide⟩
  output := nofun
  notices := ⟨by decide, by decide⟩
  counters := by unfold counterLaw; decide

theorem joinBesideWithdraw_queues : QueueLaw joinBesideWithdraw where
  bound := by decide
  announces := by decide
  participation := by decide
  places := by decide
  one := by decide
  rest := nofun
  driven := fun a h => ⟨_, .head _, rfl, by cases h; nofun, 0, by cases h; rfl⟩
  queued := by decide
  orphaned := fun x hx ho => by
    have unmarked : ∀ x ∈ joinBesideWithdraw.line.tx, x.orphaned = false := by decide
    rw [unmarked x hx] at ho
    cases ho
  sent := fun k => by simp [ownClaims, joinBesideWithdraw, HallLine.reset, State.reset, TxFrame.waiting]

theorem joinBesideWithdraw_counts : CountLaw joinBesideWithdraw where
  lines := fun g l _ _ hl => absurd (hl.symm.trans (reset_lineAt [] g)) nofun
  claims := nofun
  records := nofun
  tiers := fun p => ⟨fun h => absurd h (by rw [show joinBesideWithdraw.place p = Place.empty from reset_place [] p]; decide),
    fun h => absurd h (by rw [show joinBesideWithdraw.place p = Place.empty from reset_place [] p]; decide)⟩
  cancelling := fun p h => absurd h (by rw [show joinBesideWithdraw.place p = Place.empty from reset_place [] p]; decide)

/-- The state after the lost key: the JOIN waits again, beside the WITHDRAW. -/
theorem joinBesideWithdraw_step : ∃ t, step joinBesideWithdraw = .next t ∧
    (t.line.tx.filter (fun x => x.frame.isParticipation && x.idle)).length = 2 := ⟨_, rfl, by decide⟩

end Sys2Proof.Laws

open Sys2Proof Sys2Proof.Machine Sys2Proof.Safety Sys2Proof.Laws

/-- Refutes O4: `QueueLaw` bounds the JOIN and WITHDRAW frames that wait outside an attempt, but does not say that one
inside an attempt is marked for withdrawal while another waits; when such a one loses its key, two wait. -/
theorem not_everyStepKeepsQueuesAndCounts : ¬ Obligations.EveryStepKeepsQueuesAndCounts := by
  unfold Obligations.EveryStepKeepsQueuesAndCounts
  intro h
  obtain ⟨t, ht, queues, -⟩ := h joinBesideWithdraw (.inr ⟨joinBesideWithdraw_running, rfl⟩) joinBesideWithdraw_queues
    joinBesideWithdraw_counts
  obtain ⟨u, hu, two⟩ := joinBesideWithdraw_step
  obtain rfl : u = t := Host.Outcome.next.inj (hu.symm.trans ht)
  exact absurd queues.participation (by rw [two]; decide)
end

section
/-! SUPPORT. A state whose frame places one search finds freed: an ANNOUNCE that carries the mark of a CLAIM without an
entry (R103, R123). -/

namespace Sys2Proof.Laws

open Sys2Proof Sys2Proof.Machine Sys2Proof.Safety

/-- An ACTIVE station with a line for a keg, five CLAIM frames without an entry, and a queued ANNOUNCE that has the
`orphaned` mark: the model counts it as a sixth frame place. Its own ANNOUNCE of that keg is the next frame handled. -/
def markedAnnounce : State :=
  { State.reset with
    config :=
      { hallSize := some ⟨16, 16⟩
        hall := (Vector.replicate 16 none).set 0 (some ⟨16, 100⟩)
        own := some ⟨0, 63, 6, 2⟩
        timing := some ⟨2, 4, 4, 200, 10, 4, 4, 1000, 500, 200⟩
        policy := none }
    loop := { LoopTracker.reset with aligned := true, stopTimer := some 0 }
    line := { HallLine.reset with
      state := .free
      tx := [⟨.announce 0 ⟨7, .keg⟩, false, false, false, true⟩]
      rx := [⟨.announce 0 0 7 3, true⟩] }
    view := List.replicate 16 .empty
    plans := { PlanStore.reset with
      places := PlanStore.reset.places.set 0
        ⟨.building, some 1, some 1, some 1, [[⟨⟨7, .keg⟩, 1, 0, 0, 0⟩]]⟩
      buildOrder := [0] }
    contest := { ContestUnit.reset with orphans := [1, 2, 3, 4, 5] }
    part := { FaultUnit.reset with state := .active } }

/-- R73 withdraws the ANNOUNCE as its slot becomes FREE with the case announced, so the search finds five frame places
in use and makes a claim. -/
theorem markedAnnounce_claims : ∃ t, exec .frameHandled markedAnnounce = .next t ∧ t.contest.claims.length = 1 :=
  ⟨_, rfl, by decide⟩

end Sys2Proof.Laws

open Sys2Proof Sys2Proof.Machine Sys2Proof.Safety Sys2Proof.Laws

/-- Refutes O60: the clause for 6 frame places in use is stated of every state, also of one where an ANNOUNCE that the
handled frame withdraws was counted among the frame places. -/
theorem not_searchQueuesClaims : ¬ Obligations.SearchQueuesClaims := by
  unfold Obligations.SearchQueuesClaims
  rintro ⟨-, -, h⟩
  obtain ⟨t, ht, -, -, -, -, full, -⟩ := (h markedAnnounce).2 0 true 0 ⟨7, .keg⟩ [] rfl (by decide) (.inl rfl) (by decide)
    (by decide) (by decide) (by decide) rfl (by decide) (by decide) (by decide +kernel)
  obtain ⟨u, hu, one⟩ := markedAnnounce_claims
  obtain rfl : u = t := Host.Outcome.next.inj (hu.symm.trans ht)
  obtain ⟨claims, -⟩ := full (by decide)
  exact absurd one (by rw [claims]; decide)
end

section
/-! SUPPORT. The plan commands after GO (R19, R21 to R25, R34): the places after one is replaced, and the checks in their
order. -/

namespace Sys2Proof.Laws

open Sys2Proof Sys2Proof.Machine Sys2Proof.Safety

variable {s : State}

/-! ### Places -/

theorem place_setPlace (s : State) (p q : PlaceId) (x : Place) :
    (setPlace s p x).place q = if p = q then x else s.place q := setPlace_get s p q x

@[simp] theorem place_setPlace_self (s : State) (p : PlaceId) (x : Place) : (setPlace s p x).place p = x := by
  rw [place_setPlace, if_pos rfl]

theorem place_setPlace_ne (s : State) {p q : PlaceId} (h : q ≠ p) (x : Place) : (setPlace s p x).place q = s.place q := by
  rw [place_setPlace, if_neg (Ne.symm h)]

theorem place_congr {t : State} (h : t.plans = s.plans) (p : PlaceId) : t.place p = s.place p :=
  congrArg (fun x : PlanStore => x.places[p]) h

theorem placeOf?_val (p : Fin 4) : placeOf? p.val = some p := dif_pos p.isLt

theorem placeOf?_none {n : Nat} (h : 4 ≤ n) : placeOf? n = none := dif_neg (by omega)

theorem totalLines_eq (s : State) : totalLines s =
    (s.place 0).lineCount + (s.place 1).lineCount + (s.place 2).lineCount + (s.place 3).lineCount := by
  simp [totalLines, allPlaces]

/-- R22: the lines of a place emptied leave the count over the four places. -/
theorem totalLines_setPlace (s : State) (p : PlaceId) {x : Place} (hx : x.lineCount = 0) :
    totalLines (setPlace s p x) + (s.place p).lineCount = totalLines s := by
  rw [totalLines_eq, totalLines_eq]
  simp only [place_setPlace]
  match p with
  | 0 | 1 | 2 | 3 => simp [hx] <;> omega

/-! ### Commands taken after GO -/

theorem afterGo_started (h : s.part.state ≠ .start) (r : State) : afterGo s r = r := if_neg h

/-- A command taken after GO answers what its checks leave. -/
theorem answers_afterGo {c : Instr} {t u : State} {r : Result} (h : s.part.state ≠ .start)
    (he : exec c s = .next (afterGo s u)) (hu : u = answer t r) : Answers c s t r :=
  ⟨0, by rw [he, afterGo_started h, hu]; rfl⟩

theorem next_afterGo {c : Instr} {u t : State} (h : s.part.state ≠ .start) (he : exec c s = .next (afterGo s u))
    (hu : u = t) : exec c s = .next t := by
  rw [he, afterGo_started h, hu]

/-! ### OPEN PLAN and ADD LINE (R21, R22) -/

theorem openPlanChecked_range {place : Nat} {ref : BitVec 32} {n : Nat} (h : 4 ≤ place ∨ n = 0 ∨ 12 < n) :
    openPlanChecked s place ref n = answer s .refusedRange := by
  unfold openPlanChecked
  split
  · rfl
  · rename_i p hp
    have inside : ¬4 ≤ place := fun hl => by simp [placeOf?_none hl] at hp
    exact if_pos (h.resolve_left inside)

theorem openPlanChecked_place (p : Fin 4) {ref : BitVec 32} {n : Nat} (h1 : 1 ≤ n) (h12 : n ≤ 12) :
    openPlanChecked s p.val ref n = if s.plans.loader.isSome then answer s .busy
      else if (s.place p).state ≠ .empty then answer s .refusedState else openPlan s p ref n := by
  unfold openPlanChecked
  rw [placeOf?_val]
  exact if_neg (by simp only [Config.maxTiers]; omega)

theorem formOfCode_code (f : Form) : Form.ofCode f.code = some f := by cases f <;> rfl

theorem formOfCode_isSome {n : Nat} (h : (Form.ofCode n).isSome = true) : n ≤ 5 := by
  unfold Form.ofCode at h
  split at h <;> simp_all

theorem addLineChecked_range {p : PlaceId} (hl : s.plans.loader = some p) {tier article form quantity : Nat}
    (h : tier = 0 ∨ 12 < tier ∨ 5 < form ∨ quantity = 0) :
    addLineChecked s tier article form quantity = answer s .refusedRange := by
  unfold addLineChecked
  rw [hl]
  dsimp only
  split
  · rfl
  · rename_i f hf
    have : form ≤ 5 := formOfCode_isSome (by rw [hf]; rfl)
    exact if_pos (by simp only [Config.maxTiers]; omega)

theorem addLineChecked_line {p : PlaceId} (hl : s.plans.loader = some p) (f : Form) {tier article quantity : Nat}
    (h1 : 1 ≤ tier) (h12 : tier ≤ 12) (hq : 1 ≤ quantity) : addLineChecked s tier article f.code quantity =
      if planFull s p tier then answer s .refusedFull else addLine s p tier ⟨article, f⟩ quantity := by
  unfold addLineChecked
  rw [hl, formOfCode_code]
  exact if_neg (by simp only [Config.maxTiers]; omega)

theorem planFull_iff (s : State) (p : PlaceId) (tier : Nat) : planFull s p tier = true ↔
    16 ≤ ((s.place p).tier tier).length ∨ 48 ≤ (s.place p).lineCount ∨
      128 ≤ (s.place 0).lineCount + (s.place 1).lineCount + (s.place 2).lineCount + (s.place 3).lineCount := by
  simp only [planFull, totalLines_eq, Bool.or_eq_true, decide_eq_true_eq, or_assoc]
  rfl

end Sys2Proof.Laws

open Sys2Proof Sys2Proof.Machine Sys2Proof.Safety Sys2Proof.Laws

/-- Settles O22: the checks of OPEN PLAN one after another. -/
theorem openPlanChecksAndOpens : Obligations.OpenPlanChecksAndOpens := by
  unfold Obligations.OpenPlanChecksAndOpens
  intro s place ref n hs
  have taken : ∀ {t r}, openPlanChecked s place.toNat ref n.toNat = answer t r → Answers (.openPlan place ref n) s t r :=
    fun hu => answers_afterGo hs rfl hu
  refine ⟨fun h => taken (openPlanChecked_range h), fun p hp h1 h12 => ?_⟩
  rw [hp, openPlanChecked_place p h1 h12] at taken
  refine ⟨fun hl => taken (if_pos (Option.isSome_iff_ne_none.2 hl)), fun hl he => taken ?_, fun hl he => taken ?_⟩
  · rw [hl]
    exact if_pos he
  · rw [hl, he]
    rfl

/-- Settles O23: the checks of ADD LINE one after another. -/
theorem addLineChecksAndAppends : Obligations.AddLineChecksAndAppends := by
  unfold Obligations.AddLineChecksAndAppends
  intro s tier article form quantity hs
  have taken : ∀ {t r}, addLineChecked s tier.toNat article.toNat form.toNat quantity.toNat = answer t r →
      Answers (.addLine tier article form quantity) s t r := fun hu => answers_afterGo hs rfl hu
  refine ⟨fun hl => taken (by rw [addLineChecked, hl]), fun p hl => ⟨fun h => taken (addLineChecked_range hl h), ?_⟩⟩
  intro f hf h1 h12 hq
  rw [← hf, addLineChecked_line hl f h1 h12 hq] at taken
  exact ⟨fun full => taken (if_pos ((planFull_iff s p _).2 full)),
    fun room => taken (if_neg fun full => room ((planFull_iff s p _).1 full))⟩

/-- Settles O26: the place of the loader, or a COMPLETE place, is replaced by the empty one. -/
theorem abandonAndReleaseEmptyThePlace : Obligations.AbandonAndReleaseEmptyThePlace := by
  unfold Obligations.AbandonAndReleaseEmptyThePlace
  intro s hs
  refine ⟨fun hl => answers_afterGo hs rfl (by rw [abandonPlanChecked, hl]),
    fun p hl => answers_afterGo hs rfl (by rw [abandonPlanChecked, hl]; rfl), fun b => ⟨fun hb => ?_, fun p hp => ⟨?_, ?_, ?_⟩⟩⟩
  · exact answers_afterGo hs rfl (by rw [releasePalletChecked, placeOf?_none hb])
  · exact fun h => answers_afterGo hs rfl (by simp only [cancelPalletChecked, hp, placeOf?_val, h])
  · exact fun h => answers_afterGo hs rfl (by simp only [releasePalletChecked, hp, placeOf?_val, if_neg h])
  · exact fun h => ⟨_, answers_afterGo hs rfl (by simp only [releasePalletChecked, hp, placeOf?_val, if_pos h]; rfl), rfl,
      totalLines_setPlace s p rfl⟩

/-- Settles O32: both reads answer with their items or a refusal, and no check of theirs asks for GO. -/
theorem palletAndLineReads : Obligations.PalletAndLineReads := by
  unfold Obligations.PalletAndLineReads
  intro s
  have refused : ∀ {c r u}, exec c s = .next u → u = answer s r → Answers c s s r := fun he hu => ⟨0, by rw [he, hu]; rfl⟩
  refine ⟨fun b hb => ⟨refused rfl ?_, fun t l => refused rfl ?_⟩, fun b p hp => ⟨?_, fun t l => ⟨fun h => ?_, ?_⟩⟩⟩
  · rw [placeOf?_none hb]
  · rw [readLine, placeOf?_none hb]
  · simp only [exec, execReadPallet, hp, placeOf?_val]
    rfl
  · refine refused rfl ?_
    have outside : (!within 1 12 t.toNat || !within 1 16 l.toNat) = true := by
      simp only [within, Bool.or_eq_true, Bool.not_eq_true', Bool.and_eq_false_iff, decide_eq_false_iff_not]
      omega
    rw [readLine, hp, placeOf?_val]
    exact if_pos outside
  · intro h1 h12 h1' h16
    have inside : (!within 1 12 t.toNat || !within 1 16 l.toNat) = false := by
      simp [within, h1, h12, h1', h16]
    refine ⟨fun none => refused rfl ?_, fun x some => ?_⟩
    · rw [readLine, hp, placeOf?_val]
      simp only [inside, none, Bool.false_eq_true, if_false]
    · simp only [exec, execReadLine, readLine, hp, placeOf?_val, inside, some, Bool.false_eq_true, if_false]
      rfl
end

section
/-! SUPPORT. The four checks of COMMIT PLAN (R23): the lowest tier and line that each finds. -/

namespace Sys2Proof.Laws

open Sys2Proof Sys2Proof.Machine Sys2Proof.Safety

variable {s : State}

/-! ### The lowest tier -/

theorem firstIn_range'_some {find : Nat → Option Nat} {t l : Nat} (hl : find t = some l) (n a : Nat) (ha : a ≤ t)
    (hn : t < a + n) (low : ∀ u, a ≤ u → u < t → find u = none) : firstIn find (List.range' a n) = some (t, l) := by
  induction n generalizing a with
  | zero => omega
  | succ n ih =>
    rw [List.range'_succ, firstIn]
    by_cases h : a = t
    · rw [h, hl]
    · rw [low a (le_refl a) (by omega)]
      exact ih (a + 1) (by omega) (by omega) fun u hu => low u (by omega)

theorem firstIn_range'_none {find : Nat → Option Nat} (n a : Nat) (none : ∀ u, a ≤ u → u < a + n → find u = none) :
    firstIn find (List.range' a n) = .none := by
  induction n generalizing a with
  | zero => rfl
  | succ n ih =>
    rw [List.range'_succ, firstIn, none a (le_refl a) (by omega)]
    exact ih (a + 1) fun u hu hun => none u (by omega) (by omega)

/-- The lowest of the tiers 1 to 12 in which a line is found. -/
theorem firstIn_tiers_some {find : Nat → Option Nat} {t l : Nat} (h1 : 1 ≤ t) (h12 : t ≤ 12) (hl : find t = some l)
    (low : ∀ u, 1 ≤ u → u < t → find u = none) : firstIn find tierNumbers = some (t, l) :=
  firstIn_range'_some hl 12 1 h1 (by omega) low

theorem firstIn_tiers_none {find : Nat → Option Nat} (none : ∀ t, 1 ≤ t → t ≤ 12 → find t = none) :
    firstIn find tierNumbers = .none := firstIn_range'_none 12 1 fun u h1 hu => none u h1 (by omega)

/-! ### A line that repeats an article -/

/-- The line at index i of a list repeats an article of those seen, or of a line before it. -/
def Repeats (seen : List Nat) (ls : List Line) (i : Nat) : Prop :=
  ∃ b, ls[i]? = some b ∧
    (b.case.article ∈ seen ∨ ∃ j a, j < i ∧ ls[j]? = some a ∧ a.case.article = b.case.article)

theorem repeats_head (seen : List Nat) (l : Line) (ls : List Line) : Repeats seen (l :: ls) 0 ↔ l.case.article ∈ seen := by
  simp [Repeats]

theorem repeats_tail (seen : List Nat) (l : Line) (ls : List Line) (i : Nat) :
    Repeats seen (l :: ls) (i + 1) ↔ Repeats (l.case.article :: seen) ls i := by
  unfold Repeats
  refine exists_congr fun b => and_congr_right fun _ => ?_
  rw [List.mem_cons]
  constructor
  · rintro (hs | ⟨j, a, hj, ha, he⟩)
    · exact .inl (.inr hs)
    · cases j with
      | zero =>
        obtain rfl : l = a := by simpa using ha
        exact .inl (.inl he.symm)
      | succ j => exact .inr ⟨j, a, by omega, by simpa using ha, he⟩
  · rintro ((he | hs) | ⟨j, a, hj, ha, he⟩)
    · exact .inr ⟨0, l, by omega, rfl, he.symm⟩
    · exact .inl hs
    · exact .inr ⟨j + 1, a, by omega, by simpa using ha, he⟩

theorem dupLine_some {ls : List Line} {seen : List Nat} {i : Nat} (h : Repeats seen ls i)
    (first : ∀ m, m < i → ¬Repeats seen ls m) (n : Nat) : dupLine seen n ls = some (n + i) := by
  induction ls generalizing seen i n with
  | nil =>
    obtain ⟨b, hb, -⟩ := h
    simp at hb
  | cons l ls ih =>
    unfold dupLine
    cases i with
    | zero => exact if_pos ((repeats_head _ _ _).1 h)
    | succ i =>
      rw [if_neg fun hs => first 0 (by omega) ((repeats_head _ _ _).2 hs),
        ih ((repeats_tail _ _ _ _).1 h) fun m hm hr => first (m + 1) (by omega) ((repeats_tail _ _ _ _).2 hr)]
      congr 1
      omega

theorem dupLine_none {ls : List Line} {seen : List Nat} (none : ∀ i, ¬Repeats seen ls i) (n : Nat) :
    dupLine seen n ls = .none := by
  induction ls generalizing seen n with
  | nil => rfl
  | cons l ls ih =>
    unfold dupLine
    rw [if_neg fun hs => none 0 ((repeats_head _ _ _).2 hs)]
    exact ih (fun i hr => none (i + 1) ((repeats_tail _ _ _ _).2 hr)) _

/-! ### A line whose form is not supported -/

/-- The line at index i of a list has a form that the station does not support. -/
def Unsupported (s : State) (ls : List Line) (i : Nat) : Prop := ∃ a, ls[i]? = some a ∧ s.supports a.case.form = false

theorem badForm_some {ls : List Line} {i : Nat} (h : Unsupported s ls i) (first : ∀ m, m < i → ¬Unsupported s ls m) :
    badForm s ls = some (i + 1) := by
  obtain ⟨a, ha, hf⟩ := h
  obtain ⟨hi, rfl⟩ := List.getElem?_eq_some_iff.1 ha
  have found : ls.findIdx? (fun l => !s.supports l.case.form) = some i := by
    refine List.findIdx?_eq_some_iff_getElem.2 ⟨hi, by simp [hf], fun j hj hs => ?_⟩
    exact first j hj ⟨ls[j], List.getElem?_eq_getElem _, by simpa using hs⟩
  rw [badForm, found]
  rfl

theorem badForm_none {ls : List Line} (none : ∀ i, ¬Unsupported s ls i) : badForm s ls = .none := by
  have found : ls.findIdx? (fun l => !s.supports l.case.form) = .none := by
    refine List.findIdx?_eq_none_iff.2 fun l hl => ?_
    obtain ⟨i, hi, rfl⟩ := List.mem_iff_getElem.1 hl
    cases hs : s.supports ls[i].case.form with
    | true => rfl
    | false => exact absurd ⟨ls[i], List.getElem?_eq_getElem hi, hs⟩ (none i)
  rw [badForm, found]
  rfl

/-! ### COMMIT PLAN (R23) -/

theorem commitPlan_refused {p : PlaceId} {r : PlanReason} {t l : Nat} (hs : s.part.state ≠ .start)
    (hl : s.plans.loader = some p) (hp : planProblem s (s.place p) = some (r, t, l)) :
    exec .commitPlan s = .next (respond s .planInvalid (packData [(8, r.code), (8, t), (8, l)])) := by
  refine next_afterGo hs rfl ?_
  rw [commitPlanChecked, hl]
  dsimp only
  rw [hp]

end Sys2Proof.Laws

open Sys2Proof Sys2Proof.Machine Sys2Proof.Safety Sys2Proof.Laws

/-- Settles O24: each of the four searches over the tiers finds the lowest tier and line, those before it finding none. -/
theorem commitRefusedByFirstFailingCheck : Obligations.CommitRefusedByFirstFailingCheck := by
  unfold Obligations.CommitRefusedByFirstFailingCheck
  intro s hs
  refine ⟨fun hl => next_afterGo hs rfl (by rw [commitPlanChecked, hl]), fun p n hl hn => ?_⟩
  intro pl refuse above bare again alien none1 none2 none3 t h1 h12
  have count : (s.place p).tierCount.getD 0 = n := by rw [hn]; rfl
  have again_iff : ∀ t l, again t (l + 1) ↔ Repeats [] (pl.tier t) l := fun t l => by
    simp only [again, Repeats, List.not_mem_nil, false_or, Nat.add_sub_cancel, Nat.add_lt_add_iff_right]
    exact ⟨fun ⟨i, a, b, hi, ha, hb, he⟩ => ⟨b, hb, i, a, hi, ha, he⟩,
      fun ⟨b, hb, i, a, hi, ha, he⟩ => ⟨i, a, b, hi, ha, hb, he⟩⟩
  have alien_iff : ∀ t l, alien t (l + 1) ↔ Unsupported s (pl.tier t) l := fun t l => by
    simp [alien, Unsupported]
  have tiers1 : none1 → firstIn (fun t => if n < t ∧ pl.tier t ≠ [] then some 1 else none) tierNumbers = none :=
    fun h => firstIn_tiers_none fun u hu hu' => if_neg (h u hu hu')
  have tiers2 : none2 → firstIn (fun t => if t ≤ n ∧ pl.tier t = [] then some 0 else none) tierNumbers = none :=
    fun h => firstIn_tiers_none fun u hu hu' => if_neg (h u hu hu')
  have tiers3 : none3 → firstIn (fun t => dupLine [] 1 (pl.tier t)) tierNumbers = none :=
    fun h => firstIn_tiers_none fun u hu hu' => dupLine_none (fun i hr => h u (i + 1) hu hu' ((again_iff u i).2 hr)) 1
  refine ⟨fun h low => ?_, fun k1 h low => ?_, fun k1 k2 l h low first => ?_, fun k1 k2 k3 l h low first => ?_⟩
  · have found : firstIn (fun t => if n < t ∧ pl.tier t ≠ [] then some 1 else none) tierNumbers = some (t, 1) :=
      firstIn_tiers_some h1 h12 (if_pos h) fun u hu hut => if_neg (low u hu hut)
    exact commitPlan_refused hs hl (r := .tierCount) (by simp only [planProblem, count]; rw [found])
  · have found : firstIn (fun t => if t ≤ n ∧ pl.tier t = [] then some 0 else none) tierNumbers = some (t, 0) :=
      firstIn_tiers_some h1 h12 (if_pos h) fun u hu hut => if_neg (low u hu hut)
    exact commitPlan_refused hs hl (r := .emptyTier) (by simp only [planProblem, count]; rw [tiers1 k1]; simp only; rw [found])
  · cases l with
    | zero => obtain ⟨i, a, b, hi, -⟩ := h; omega
    | succ l =>
      have found : firstIn (fun t => dupLine [] 1 (pl.tier t)) tierNumbers = some (t, l + 1) := by
        refine firstIn_tiers_some h1 h12 ?_ fun u hu hut => dupLine_none (fun i hr => low u (i + 1) hu hut ((again_iff u i).2 hr)) 1
        rw [dupLine_some ((again_iff t l).1 h) (fun m hm hr => first (m + 1) (by omega) ((again_iff t m).2 hr)) 1, Nat.add_comm]
      exact commitPlan_refused hs hl (r := .dupArticle) (by
        simp only [planProblem, count]; rw [tiers1 k1]; simp only; rw [tiers2 k2]; simp only; rw [found])
  · cases l with
    | zero => obtain ⟨a, hl0, -⟩ := h; omega
    | succ l =>
      have found : firstIn (fun t => badForm s (pl.tier t)) tierNumbers = some (t, l + 1) := by
        refine firstIn_tiers_some h1 h12 ?_ fun u hu hut => badForm_none fun i hr => low u (i + 1) hu hut ((alien_iff u i).2 hr)
        exact badForm_some ((alien_iff t l).1 h) fun m hm hr => first (m + 1) (by omega) ((alien_iff t m).2 hr)
      exact commitPlan_refused hs hl (r := .form) (by
        simp only [planProblem, count]; rw [tiers1 k1]; simp only; rw [tiers2 k2]; simp only; rw [tiers3 k3]; simp only
        rw [found]; rfl)
end

section
/-! SUPPORT. The line that a search chooses for a case (R26, R30, R105 to R109). -/

namespace Sys2Proof.Laws

open Sys2Proof Sys2Proof.Machine Sys2Proof.Safety

variable {s : State} {c : CaseId} {p : PlaceId} {g : Target} {u : Urgency}

/-! ### The line of a tier (R30) -/

/-- A line that matches a case and has an open need. -/
def Line.Wants (c : CaseId) (l : Line) : Prop := l.case = c ∧ 1 ≤ l.openNeed

theorem findLine_some {ls : List Line} {n : Nat} (h : findLine ls c = some n) :
    1 ≤ n ∧ ∃ l, ls[n - 1]? = some l ∧ Line.Wants c l := by
  unfold findLine at h
  obtain ⟨i, hi, rfl⟩ := Option.map_eq_some_iff.1 h
  obtain ⟨hlt, hw, -⟩ := List.findIdx?_eq_some_iff_getElem.1 hi
  simp only [Bool.and_eq_true, decide_eq_true_eq] at hw
  exact ⟨by omega, ls[i], List.getElem?_eq_getElem hlt, hw⟩

theorem findLine_isSome {ls : List Line} : (findLine ls c).isSome = true ↔ ∃ l ∈ ls, Line.Wants c l := by
  simp [findLine, Line.Wants]

/-- R26: no line of a covered tier has an open need. -/
theorem findLine_covered {ls : List Line} (h : tierCovered ls = true) : findLine ls c = none := by
  rw [← Option.not_isSome_iff_eq_none, findLine_isSome]
  rintro ⟨l, hl, -, hn⟩
  simp only [tierCovered, List.all_eq_true, decide_eq_true_eq] at h
  have := h l hl
  omega

/-! ### The line of a place (R106, R108) -/

/-- A place that searches look at, with its current tier and tier count. -/
structure Builds (s : State) (p : PlaceId) (t n : Nat) : Prop where
  state : (s.place p).state = .building
  current : (s.place p).currentTier = some t
  count : (s.place p).tierCount = some n

/-- R106, R108: the tier of the line by its urgency. -/
def TierOf (s : State) (g : Target) (u : Urgency) (t n : Nat) : Prop :=
  (u = .closing ∧ g.tier = t ∧ tierNeed ((s.place g.place).tier t) = 1) ∨
    (u = .current ∧ g.tier = t ∧ tierNeed ((s.place g.place).tier t) ≠ 1) ∨
    (u = .ahead ∧ g.tier = t + 1 ∧ t < n ∧ tierCovered ((s.place g.place).tier t) = true)

theorem matchingLine_builds {t n : Nat} (h : Builds s p t n) : matchingLine s p c =
    match findLine ((s.place p).tier t) c with
    | some l => some (⟨p, t, l⟩, if tierNeed ((s.place p).tier t) = 1 then .closing else .current)
    | none =>
      if t < n ∧ tierCovered ((s.place p).tier t) then
        (findLine ((s.place p).tier (t + 1)) c).map (fun l => (⟨p, t + 1, l⟩, .ahead))
      else none := by
  unfold matchingLine
  dsimp only
  rw [h.state, h.current, h.count] <;> rfl

theorem builds_of_matching (h : (matchingLine s p c).isSome = true) : ∃ t n, Builds s p t n := by
  unfold matchingLine at h
  dsimp only at h
  split at h
  · rename_i t n hs ht hn
    exact ⟨t, n, hs, ht, hn⟩
  · cases h

/-- R30, R106, R108: what a line chosen at a place is. -/
theorem matchingLine_some (h : matchingLine s p c = some (g, u)) : g.place = p ∧
    (1 ≤ g.line ∧ ∃ l, s.lineAt g = some l ∧ Line.Wants c l) ∧ ∃ t n, Builds s p t n ∧ TierOf s g u t n := by
  obtain ⟨t, n, hb⟩ := builds_of_matching (s := s) (p := p) (c := c) (by rw [h]; rfl)
  rw [matchingLine_builds hb] at h
  split at h
  · rename_i l hl
    obtain ⟨rfl, rfl⟩ := Prod.mk.inj (Option.some.inj h)
    refine ⟨rfl, findLine_some hl, t, n, hb, ?_⟩
    by_cases one : tierNeed ((s.place p).tier t) = 1
    · exact .inl ⟨if_pos one, rfl, one⟩
    · exact .inr (.inl ⟨if_neg one, rfl, one⟩)
  · split at h
    · rename_i ahead
      obtain ⟨l, hl, e⟩ := Option.map_eq_some_iff.1 h
      obtain ⟨rfl, rfl⟩ := Prod.mk.inj e
      exact ⟨rfl, findLine_some hl, t, n, hb, .inr (.inr ⟨rfl, rfl, ahead⟩)⟩
    · cases h

/-! ### The line ranked first (R105, R107, R109) -/

/-- The line of a place, where it has room. -/
def offered (s : State) (c : CaseId) (p : PlaceId) : Option (Target × Urgency) :=
  (matchingLine s p c).filter (fun m => roomFor s m.2)

theorem offered_eq_some {m : Target × Urgency} : offered s c p = some m ↔
    matchingLine s p c = some m ∧ roomFor s m.2 = true := by
  rw [offered, Option.filter_eq_some_iff]

/-- The first of the lowest urgency among the lines offered by the places of a list. -/
def RanksFirst (offer : PlaceId → Option (Target × Urgency)) (l : List PlaceId) : Option (Target × Urgency) → Prop
  | none => ∀ q ∈ l, offer q = none
  | some m => ∃ i q, l[i]? = some q ∧ offer q = some m ∧
      ∀ (j : Nat) r v, l[j]? = some r → offer r = some v → m.2.code ≤ v.2.code ∧ (j < i → m.2.code < v.2.code)

/-- One step of the choice: a place looked at after those of l. -/
def rankNext (best : Option (Target × Urgency)) : Option (Target × Urgency) → Option (Target × Urgency)
  | some m => betterLine best m
  | none => best

theorem ranksFirst_next {offer : PlaceId → Option (Target × Urgency)} {l : List PlaceId}
    {best : Option (Target × Urgency)} (h : RanksFirst offer l best) (p : PlaceId) :
    RanksFirst offer (l ++ [p]) (rankNext best (offer p)) := by
  have last : ∀ {j : Nat} {r}, (l ++ [p])[j]? = some r → l[j]? = some r ∨ (j = l.length ∧ r = p) := fun {j r} hj => by
    rcases Nat.lt_or_ge j l.length with hlt | hge
    · exact .inl (by rwa [List.getElem?_append_left hlt] at hj)
    · rw [List.getElem?_append_right hge, List.getElem?_singleton] at hj
      split at hj
      · exact .inr ⟨by omega, (Option.some.inj hj).symm⟩
      · cases hj
  cases hp : offer p with
  | none =>
    cases best with
    | none =>
      intro q hq
      rcases List.mem_append.1 hq with hq | hq
      · exact h q hq
      · rw [List.mem_singleton.1 hq, hp]
    | some b =>
      obtain ⟨i, q, hi, hq, least⟩ := h
      refine ⟨i, q, by rw [List.getElem?_append_left (List.getElem?_eq_some_iff.1 hi).1, hi], hq, fun j r v hj hv => ?_⟩
      rcases last hj with hj | ⟨-, rfl⟩
      · exact least j r v hj hv
      · rw [hp] at hv
        cases hv
  | some m =>
    have tail : (l ++ [p])[l.length]? = some p := by simp
    cases best with
    | none =>
      refine ⟨l.length, p, tail, hp, fun j r v hj hv => ?_⟩
      rcases last hj with hj | ⟨rfl, rfl⟩
      · rw [h r (List.mem_of_getElem? hj)] at hv
        cases hv
      · obtain rfl := Option.some.inj (hp.symm.trans hv)
        exact ⟨le_refl _, fun hlt => absurd hlt (lt_irrefl _)⟩
    | some b =>
      obtain ⟨i, q, hi, hq, least⟩ := h
      have hil := (List.getElem?_eq_some_iff.1 hi).1
      by_cases less : m.2.code < b.2.code
      · rw [show rankNext (some b) (some m) = some m from if_pos less]
        refine ⟨l.length, p, tail, hp, fun j r v hj hv => ?_⟩
        rcases last hj with hj | ⟨rfl, rfl⟩
        · have := (least j r v hj hv).1
          omega
        · obtain rfl := Option.some.inj (hp.symm.trans hv)
          exact ⟨le_refl _, fun hlt => absurd hlt (lt_irrefl _)⟩
      · rw [show rankNext (some b) (some m) = some b from if_neg less]
        refine ⟨i, q, by rw [List.getElem?_append_left hil, hi], hq, fun j r v hj hv => ?_⟩
        rcases last hj with hj | ⟨rfl, rfl⟩
        · exact least j r v hj hv
        · obtain rfl := Option.some.inj (hp.symm.trans hv)
          omega

theorem bestLine_eq (s : State) (c : CaseId) :
    bestLine s c = s.plans.buildOrder.foldl (fun best p => rankNext best (offered s c p)) none := by
  unfold bestLine
  congr 1
  funext best p
  unfold offered
  cases hm : matchingLine s p c with
  | none => rfl
  | some m =>
    cases hr : roomFor s m.2 with
    | true => simp [rankNext, Option.filter, hr]
    | false => simp [rankNext, Option.filter, hr]

/-- R109: the line chosen ranks first among those offered. -/
theorem bestLine_ranksFirst (s : State) (c : CaseId) : RanksFirst (offered s c) s.plans.buildOrder (bestLine s c) := by
  rw [bestLine_eq]
  generalize s.plans.buildOrder = l
  induction l using List.reverseRecOn with
  | nil => exact fun q hq => absurd hq List.not_mem_nil
  | append_singleton l p ih =>
    rw [List.foldl_append]
    exact ranksFirst_next ih p

theorem bestLine_isSome_of_offered (hp : p ∈ s.plans.buildOrder) (h : (offered s c p).isSome = true) :
    (bestLine s c).isSome = true := by
  have first := bestLine_ranksFirst s c
  cases hb : bestLine s c with
  | none =>
    rw [hb] at first
    rw [first p hp] at h
    cases h
  | some m => rfl

/-- R105: the line chosen is the matching line of a place in the build order list. -/
theorem bestLine_some {m : Target × Urgency} (h : bestLine s c = some m) :
    ∃ p ∈ s.plans.buildOrder, matchingLine s p c = some m := by
  have first := bestLine_ranksFirst s c
  rw [h] at first
  obtain ⟨i, q, hi, hq, -⟩ := first
  exact ⟨q, List.mem_of_getElem? hi, (offered_eq_some.1 hq).1⟩

/-! ### Room (R107) -/

theorem roomFor_iff : roomFor s u = true ↔ s.staging.records.length + s.contest.claims.length < s.stagingSize ∧
    (u = .ahead → lookaheadRecords s + lookaheadClaims s < s.stagingSize - s.reserve) := by
  cases u <;> simp [roomFor]

end Sys2Proof.Laws

open Sys2Proof Sys2Proof.Machine Sys2Proof.Safety Sys2Proof.Laws

/-- Settles O59: the fold over the build order list keeps the first line of the lowest urgency among those with room. -/
theorem searchChoosesTheRankedLine : Obligations.SearchChoosesTheRankedLine := by
  unfold Obligations.SearchChoosesTheRankedLine
  intro s c
  refine ⟨fun g u h => ?_, fun p t n hp hs ht hn room => ?_⟩
  · have first := bestLine_ranksFirst s c
    rw [h] at first
    obtain ⟨i, q, hi, hq, least⟩ := first
    obtain ⟨hm, hr⟩ := offered_eq_some.1 hq
    obtain ⟨rfl, line, t, n, builds, tier⟩ := matchingLine_some hm
    obtain ⟨room, ahead⟩ := roomFor_iff.1 hr
    refine ⟨List.mem_of_getElem? hi, builds.state, line, room, ⟨t, n, builds.current, builds.count, ?_⟩, ?_⟩
    · rcases tier with tier | tier | ⟨hu, tier⟩
      · exact .inl tier
      · exact .inr (.inl tier)
      · exact .inr (.inr ⟨hu, tier.1, tier.2.1, tier.2.2, ahead hu⟩)
    · intro j r h v hj hv room'
      obtain ⟨le, lt⟩ := least j r (h, v) hj (offered_eq_some.2 ⟨hv, room'⟩)
      exact ⟨le, fun e => ⟨i, Nat.le_of_not_lt fun hji => absurd (lt hji) (by simp [e]), hi⟩⟩
  · have builds : Builds s p t n := ⟨hs, ht, hn⟩
    have offers : ∀ {m : Target × Urgency}, matchingLine s p c = some m → roomFor s m.2 = true →
        (bestLine s c).isSome = true := fun hm hr =>
      bestLine_isSome_of_offered hp (by rw [offered_eq_some.2 ⟨hm, hr⟩]; rfl)
    refine ⟨fun matching => ?_, fun hlt covered matching lookahead => ?_⟩
    · obtain ⟨l, hl⟩ := Option.isSome_iff_exists.1 (findLine_isSome.2 matching)
      refine offers (by rw [matchingLine_builds builds, hl]) (roomFor_iff.2 ⟨room, fun hu => ?_⟩)
      split at hu <;> cases hu
    · obtain ⟨l, hl⟩ := Option.isSome_iff_exists.1 (findLine_isSome.2 matching)
      refine offers (m := (⟨p, t + 1, l⟩, .ahead)) ?_ (roomFor_iff.2 ⟨room, fun _ => lookahead⟩)
      rw [matchingLine_builds builds, findLine_covered covered]
      simp only [if_pos (And.intro hlt covered), hl, Option.map_some]
end

section
/-! SUPPORT. What the contest leaves of the plans: the claimed counts alone move (R27), and a search makes claims for
places BUILDING alone (R30, R105, R110). -/

namespace Sys2Proof.Laws

open Sys2Proof Sys2Proof.Machine Sys2Proof.Safety

variable {s t : State} {p q : PlaceId} {g h : Target} {f : Line → Line}

/-! ### One line changed -/

theorem tier_modify (pl : Place) (i t : Nat) (f : List Line → List Line) :
    Place.tier { pl with tiers := pl.tiers.modify i f } t =
      if t - 1 = i ∧ i < pl.tiers.length then f (pl.tier t) else pl.tier t := by
  unfold Place.tier
  simp only [List.getD_eq_getElem?_getD, List.getElem?_modify]
  by_cases hi : t - 1 = i
  · subst hi
    by_cases hl : t - 1 < pl.tiers.length
    · simp [hl]
    · simp [hl]
  · simp [hi, Ne.symm hi]

theorem place_modifyLine (s : State) (g : Target) (f : Line → Line) (q : PlaceId) :
    (modifyLine s g f).place q =
      if g.place = q then
        { s.place g.place with
          tiers := (s.place g.place).tiers.modify (g.tier - 1) (fun ls => ls.modify (g.line - 1) f) }
      else s.place q := place_setPlace s g.place q _

theorem place_modifyLine_ne (hq : q ≠ g.place) : (modifyLine s g f).place q = s.place q := by
  rw [place_modifyLine, if_neg (Ne.symm hq)]

/-- The fields of a place beside its lines. -/
def header (pl : Place) : PlaceState × Option (BitVec 32) × Option Nat × Option Nat :=
  (pl.state, pl.orderRef, pl.tierCount, pl.currentTier)

@[simp] theorem header_modifyLine (s : State) (g : Target) (f : Line → Line) (q : PlaceId) :
    header ((modifyLine s g f).place q) = header (s.place q) := by
  rw [place_modifyLine]
  split
  next e => rw [← e]; rfl
  next => rfl

theorem state_of_header {a b : Place} (e : header a = header b) : a.state = b.state := congrArg (·.1) e
theorem tierCount_of_header {a b : Place} (e : header a = header b) : a.tierCount = b.tierCount := congrArg (·.2.2.1) e
theorem currentTier_of_header {a b : Place} (e : header a = header b) : a.currentTier = b.currentTier :=
  congrArg (·.2.2.2) e

/-- Two targets name one line: lines and tiers are numbered from 1, and 0 reads as 1. -/
abbrev SameLine (g h : Target) : Prop := h.place = g.place ∧ h.tier - 1 = g.tier - 1 ∧ h.line - 1 = g.line - 1

theorem lineAt_modifyLine (s : State) (g h : Target) (f : Line → Line) :
    (modifyLine s g f).lineAt h = if SameLine g h then (s.lineAt h).map f else s.lineAt h := by
  unfold State.lineAt Place.line?
  rw [place_modifyLine]
  by_cases hp : h.place = g.place
  · rw [if_pos hp.symm, tier_modify]
    simp only [SameLine, hp, true_and]
    by_cases ht : h.tier - 1 = g.tier - 1
    · by_cases hl : g.tier - 1 < (s.place g.place).tiers.length
      · simp only [ht, hl, true_and, and_self, if_true, List.getElem?_modify]
        by_cases hn : h.line - 1 = g.line - 1
        · simp [hn]
        · simp [hn, Ne.symm hn]
      · have empty : (s.place g.place).tier h.tier = [] := by
          simp [Place.tier, List.getD_eq_getElem?_getD, ht, List.getElem?_eq_none (Nat.not_lt.1 hl)]
        simp [empty, hl]
    · simp [ht]
  · simp [hp, Ne.symm hp]

theorem lineAt_modifyLine_self (s : State) (g : Target) (f : Line → Line) :
    (modifyLine s g f).lineAt g = (s.lineAt g).map f := by
  rw [lineAt_modifyLine, if_pos ⟨rfl, rfl, rfl⟩]

/-! ### The plans without the claimed counts -/

def unclaimed (l : Line) : Line := { l with claimed := 0 }

/-- The plan store but for the claimed counts. -/
def corePlans (s : State) : PlanStore :=
  { s.plans with places := s.plans.places.map (fun pl => pl.mapLines unclaimed) }

theorem corePlans_congr (e : t.plans = s.plans) : corePlans t = corePlans s := by
  unfold corePlans
  rw [e]

theorem place_of_core (e : corePlans t = corePlans s) (p : PlaceId) :
    (t.place p).mapLines unclaimed = (s.place p).mapLines unclaimed := by
  have := congrArg (fun x : PlanStore => x.places[p]) e
  simpa [corePlans, State.place] using this

theorem header_of_core (e : corePlans t = corePlans s) (p : PlaceId) : header (t.place p) = header (s.place p) :=
  by
  simpa [header, Place.mapLines] using congrArg header (place_of_core e p)

theorem state_of_core (e : corePlans t = corePlans s) (p : PlaceId) : (t.place p).state = (s.place p).state :=
  state_of_header (header_of_core e p)

theorem buildOrder_of_core (e : corePlans t = corePlans s) : t.plans.buildOrder = s.plans.buildOrder :=
  (PlanStore.mk.inj e).2.1

theorem loader_of_core (e : corePlans t = corePlans s) : t.plans.loader = s.plans.loader :=
  (PlanStore.mk.inj e).2.2

theorem line?_mapLines (pl : Place) (f : Line → Line) (t l : Nat) :
    (pl.mapLines f).line? t l = (pl.line? t l).map f := by
  simp only [Place.line?, Place.tier, Place.mapLines, List.getD_eq_getElem?_getD, List.getElem?_map]
  cases pl.tiers[t - 1]? <;> simp

theorem lineAt_of_core (e : corePlans t = corePlans s) (g : Target) :
    (t.lineAt g).map unclaimed = (s.lineAt g).map unclaimed := by
  unfold State.lineAt
  rw [← line?_mapLines, ← line?_mapLines, place_of_core e]

/-- A line of plans equal but for the claimed counts. -/
theorem line_of_core (e : corePlans t = corePlans s) {g : Target} {l : Line} (hl : s.lineAt g = some l) :
    ∃ n, t.lineAt g = some { l with claimed := n } := by
  have := lineAt_of_core e g
  rw [hl, Option.map_some, Option.map_eq_some_iff] at this
  obtain ⟨k, hk, same⟩ := this
  simp only [unclaimed, Line.mk.injEq, true_and] at same
  obtain ⟨case, quantity, staged, placed⟩ := same
  exact ⟨k.claimed, by rw [hk, ← case, ← quantity, ← staged, ← placed]⟩

theorem corePlans_setPlace {x : Place} (e : x.mapLines unclaimed = (s.place p).mapLines unclaimed) :
    corePlans (setPlace s p x) = corePlans s := by
  unfold corePlans
  refine congrArg₂ (fun v o => PlanStore.mk v o s.plans.loader) (Vector.ext fun i hi => ?_) rfl
  rw [Vector.getElem_map, Vector.getElem_map]
  have at_i := place_setPlace s p ⟨i, hi⟩ x
  simp only [State.place, Fin.getElem_fin] at at_i
  rw [at_i]
  split
  next he => subst he; exact e
  next => rfl

/-- A change of the claimed count alone. -/
def ClaimedOnly (f : Line → Line) : Prop := ∀ l, unclaimed (f l) = unclaimed l

theorem claimedOnly_lower : ClaimedOnly (fun l => { l with claimed := l.claimed - 1 }) := fun _ => rfl

theorem claimedOnly_raise : ClaimedOnly (fun l => { l with claimed := l.claimed + 1 }) := fun _ => rfl

theorem corePlans_modifyLine (hf : ClaimedOnly f) (s : State) (g : Target) :
    corePlans (modifyLine s g f) = corePlans s := by
  refine corePlans_setPlace ?_
  simp only [Place.mapLines, Place.mk.injEq, true_and]
  refine List.ext_getElem (by simp) fun i _ _ => ?_
  simp only [List.getElem_map, List.getElem_modify]
  split
  · refine List.ext_getElem (by simp) fun j _ _ => ?_
    simp only [List.getElem_map, List.getElem_modify]
    split
    · exact hf _
    · rfl
  · rfl

theorem plans_offerFrame (s : State) (f : OutFrame) : (offerFrame s f).plans = s.plans := by simp

@[simp] theorem corePlans_dropClaim (s : State) (c : Claim) : corePlans (dropClaim s c) = corePlans s :=
  (corePlans_modifyLine claimedOnly_lower _ _).trans (corePlans_congr rfl)

@[simp] theorem corePlans_leaveClaim (s : State) (c : Claim) : corePlans (leaveClaim s c) = corePlans s :=
  (corePlans_congr (by simp [leaveClaim])).trans (corePlans_dropClaim s c)

@[simp] theorem corePlans_leaveWithEnd (s : State) (c : Claim) (e : PendingEnd) :
    corePlans (leaveWithEnd s c e) = corePlans s :=
  (corePlans_leaveClaim _ c).trans (corePlans_congr (by simp))

@[simp] theorem corePlans_endUncommitted (s : State) (k : Nat) (e : PendingEnd) :
    corePlans (endUncommitted s k e) = corePlans s := by
  unfold endUncommitted
  split
  · rfl
  · dsimp only
    split
    · split
      · exact (corePlans_leaveWithEnd _ _ _).trans (corePlans_congr (by simp))
      · exact corePlans_congr (by simp)
    · exact corePlans_congr (by simp)
    all_goals rfl

@[simp] theorem corePlans_cancelClaim (s : State) (k : Nat) : corePlans (cancelClaim s k) = corePlans s := by
  unfold cancelClaim
  split
  · rfl
  · split
    · exact corePlans_endUncommitted s k _
    · exact corePlans_endUncommitted s k _
    · exact (corePlans_congr (plans_offerFrame _ _)).trans (corePlans_leaveClaim s _)
    all_goals rfl

@[simp] theorem corePlans_cancelClaimsOf (s : State) (p : PlaceId) : corePlans (cancelClaimsOf s p) = corePlans s :=
  foldl_keeps corePlans corePlans_cancelClaim _ s

/-! ### What a search leaves (R104 to R110) -/

@[simp] theorem corePlans_queueClaim (s : State) (k : Nat) (g : Target) (u : Urgency) :
    corePlans (queueClaim s k g u) = corePlans s := by
  unfold queueClaim
  exact (corePlans_congr (plans_offerFrame _ _)).trans (corePlans_modifyLine claimedOnly_raise _ _)

theorem queueClaim_place_ne (s : State) (k : Nat) (u : Urgency) (hq : q ≠ g.place) :
    (queueClaim s k g u).place q = s.place q := by
  unfold queueClaim
  exact (place_congr (plans_offerFrame _ _) q).trans (place_modifyLine_ne hq)

/-- R105: a slot examined is left as it is, or gets a claim for a line of a place BUILDING. -/
theorem searchSlot_building (s : State) (k : Nat) : searchSlot s k = s ∨
    ∃ g u, (s.place g.place).state = .building ∧ searchSlot s k = queueClaim s k g u := by
  unfold searchSlot
  split
  · exact .inl rfl
  · split
    · split
      next m hm =>
        obtain ⟨p, -, hp⟩ := bestLine_some hm
        obtain ⟨rfl, -, t, n, hb, -⟩ := matchingLine_some hp
        exact .inr ⟨_, _, hb.state, rfl⟩
      next => exact .inl rfl
    · exact .inl rfl

/-- What holds before a search and what each claim for a place BUILDING keeps. -/
theorem runSearch_building {P : State → Prop} (h : P (s.setContest { s.contest with searchDue := false }))
    (hq : ∀ u k g w, (u.place g.place).state = .building → P u → P (queueClaim u k g w)) : P (runSearch s) := by
  unfold runSearch
  dsimp only
  split
  · unfold search
    refine foldl_induct (fun u k hu => ?_) _ h
    rcases searchSlot_building u k with e | ⟨g, w, hb, e⟩
    · rwa [e]
    · rw [e]
      exact hq u k g w hb hu
  · exact h

@[simp] theorem corePlans_runSearch (s : State) : corePlans (runSearch s) = corePlans s :=
  runSearch_building (P := fun u => corePlans u = corePlans s) rfl fun u k g w _ hu =>
    (corePlans_queueClaim u k g w).trans hu

/-! ### Blocks that a search, its mark and an answer leave -/

theorem runSearch_staging (s : State) : (runSearch s).staging = s.staging := by simp
theorem runSearch_port (s : State) : (runSearch s).port = s.port := by simp
theorem markSearch_plans (s : State) : (markSearch s).plans = s.plans := rfl
theorem markSearch_staging (s : State) : (markSearch s).staging = s.staging := rfl
theorem answer_plans (s : State) (r : Result) : (answer s r).plans = s.plans := rfl

/-- The plans as a command that ends with a search leaves them. -/
theorem corePlans_searched (s : State) (r : Result) : corePlans (answer (runSearch (markSearch s)) r) = corePlans s := by
  rw [corePlans_congr (answer_plans _ r), corePlans_runSearch, corePlans_congr (markSearch_plans s)]

/-- R105: a search passes over a place that is not BUILDING. -/
theorem runSearch_place (h : (s.place q).state ≠ .building) : (runSearch s).place q = s.place q :=
  runSearch_building (P := fun u => u.place q = s.place q) rfl fun u k g w hb hu => by
    have hne : q ≠ g.place := fun e => by
      rw [← e, hu] at hb
      exact h hb
    rw [queueClaim_place_ne u k w hne, hu]

/-- R110: a search appends its claims to the table. -/
theorem runSearch_claims (s : State) : s.contest.claims <+: (runSearch s).contest.claims :=
  runSearch_building (P := fun u => s.contest.claims <+: u.contest.claims) (List.prefix_refl _) fun u k g w _ hu => by
    rw [queueClaim_claims]
    exact hu.trans (List.prefix_append _ _)

/-- R30, R110: a claim after a search is an earlier one, or a QUEUED one for a place BUILDING. -/
theorem mem_claims_runSearch {c : Claim} (h : c ∈ (runSearch s).contest.claims) :
    c ∈ s.contest.claims ∨ (c.state = .queued ∧ (s.place c.target.place).state = .building) := by
  refine (runSearch_building (P := fun u => corePlans u = corePlans s ∧ ∀ c ∈ u.contest.claims,
    c ∈ s.contest.claims ∨ (c.state = .queued ∧ (s.place c.target.place).state = .building))
    ⟨rfl, fun c hc => .inl hc⟩ ?_).2 c h
  rintro u k g w hb ⟨hu, hm⟩
  refine ⟨(corePlans_queueClaim u k g w).trans hu, fun c hc => ?_⟩
  rw [queueClaim_claims] at hc
  rcases List.mem_append.1 hc with hc | hc
  · exact hm c hc
  · obtain rfl := List.mem_singleton.1 hc
    exact .inr ⟨rfl, (state_of_core hu g.place).symm.trans hb⟩

end Sys2Proof.Laws
end

section
/-! SUPPORT. The commands on staging records (R29, R32, R33, R147, R151 to R153): what a tier test and a promotion leave. -/

namespace Sys2Proof.Laws

open Sys2Proof Sys2Proof.Machine Sys2Proof.Safety

variable {s t : State} {p q : PlaceId} {g : Target}

/-! ### Records promoted (R147) -/

/-- A record of a tier that becomes PLACEABLE where it is WAITING. -/
def promoted (p : PlaceId) (tier : Nat) (r : StagingRecord) : StagingRecord :=
  if r.forTier p tier && decide (r.state = .waiting) then { r with state := .placeable } else r

theorem promoteRecords_staging (s : State) (p : PlaceId) (tier : Nat) : (promoteRecords s p tier).staging =
    { s.staging with records := s.staging.records.map (promoted p tier) } :=
  foldl_staging (f := fun u (r : StagingRecord) => offerNotice u (.casePlaceable r.arrival)) (fun _ _ => by simp) _ _

theorem promoted_arrival (p : PlaceId) (tier : Nat) (r : StagingRecord) : (promoted p tier r).arrival = r.arrival := by
  unfold promoted
  split <;> rfl

theorem promoted_not_waiting {tier : Nat} {r : StagingRecord} (h : (promoted p tier r).forTier p tier = true) :
    (promoted p tier r).state ≠ .waiting := by
  unfold promoted at h ⊢
  split
  · exact RecordState.noConfusion
  next hit =>
    rw [if_neg hit] at h
    exact fun hw => hit (by rw [h, hw]; rfl)

/-! ### The tier test (R32, R33) -/

theorem advanceTier_place (s : State) (p q : PlaceId) (n : Nat) : (advanceTier s p n).place q =
    if p = q then { s.place p with currentTier := some (n + 1) } else s.place q := by
  rw [← place_setPlace]
  exact place_congr (by simp [advanceTier]) q

theorem completePlace_place (s : State) (p q : PlaceId) : (completePlace s p).place q =
    if p = q then { s.place p with state := .complete, currentTier := none } else s.place q := by
  rw [← place_setPlace]
  have same : (completePlace s p).plans.places =
      (setPlace s p { s.place p with state := .complete, currentTier := none }).plans.places := by
    simp [completePlace, leaveBuildOrder]
  exact congrArg (·[q]) same

theorem completePlace_buildOrder (s : State) (p : PlaceId) : p ∉ (completePlace s p).plans.buildOrder := by
  simp [completePlace, leaveBuildOrder]

/-- R32: whether a tier advances or completes its place, the lines of every place stay. -/
theorem tierTest_tiers (s : State) (p q : PlaceId) : ((tierTest s p).place q).tiers = (s.place q).tiers := by
  unfold tierTest
  split
  · split
    · split
      · rw [advanceTier_place]
        split
        next e => rw [← e]
        next => rfl
      · rw [completePlace_place]
        split
        next e => rw [← e]
        next => rfl
    · rfl
  · rfl

theorem lineAt_of_tiers (e : (t.place g.place).tiers = (s.place g.place).tiers) : t.lineAt g = s.lineAt g := by
  simp only [State.lineAt, Place.line?, Place.tier, e]

/-- R32, R147: the tier test keeps the records but for their states, and the rest of the staging table. -/
theorem tierTest_staging (s : State) (p : PlaceId) :
    (tierTest s p).staging.records.map (·.arrival) = s.staging.records.map (·.arrival) ∧
      (tierTest s p).staging.nextArrival = s.staging.nextArrival ∧
      (tierTest s p).staging.damaged = s.staging.damaged ∧ (tierTest s p).staging.returned = s.staging.returned := by
  unfold tierTest
  split
  · split
    · split
      · rw [advanceTier, markSearch_staging, promoteRecords_staging]
        simp [Function.comp_def, promoted_arrival]
      · simp
    · exact ⟨rfl, rfl, rfl, rfl⟩
  · exact ⟨rfl, rfl, rfl, rfl⟩

/-! ### Watches at a place's changes (R169) -/

theorem watch_setWatch (s : State) (p q : PlaceId) (w : Watch) :
    (setWatch s p w).watch q = if p = q then w else s.watch q := by
  simp only [State.watch, setWatch, State.setPart_part, Fin.getElem_fin, Vector.getElem_set, Fin.ext_iff]

theorem watch_congr (e : t.part.watches = s.part.watches) (p : PlaceId) : t.watch p = s.watch p :=
  congrArg (fun v : Vector Watch 4 => v[p]) e

theorem stopWatch_idle (s : State) (p : PlaceId) :
    ((stopWatch s p).watch p).state ≠ .ready ∧ ((stopWatch s p).watch p).state ≠ .dropping := by
  unfold stopWatch
  split
  case h_1 | h_2 => simp [watch_setWatch]
  case h_3 h | h_4 h | h_5 h => simp [h]

/-! ### A record that leaves (R151, R152) -/

theorem record?_arrival {a : Nat} {r : StagingRecord} (h : s.record? a = some r) : r.arrival = a := by
  simpa using List.find?_some h

@[simp] theorem dropRecord_frame (s : State) (a : Nat) :
    (dropRecord s a).config = s.config ∧ (dropRecord s a).pins = s.pins ∧ (dropRecord s a).loop = s.loop ∧
    (dropRecord s a).gate = s.gate ∧ (dropRecord s a).line = s.line ∧ (dropRecord s a).view = s.view ∧
    (dropRecord s a).plans = s.plans ∧ (dropRecord s a).contest = s.contest ∧
    (dropRecord s a).divert = s.divert ∧ (dropRecord s a).staging.nextArrival = s.staging.nextArrival ∧
    (dropRecord s a).staging.damaged = s.staging.damaged ∧ (dropRecord s a).staging.returned = s.staging.returned ∧
    (dropRecord s a).part = s.part ∧ (dropRecord s a).port = s.port ∧ (dropRecord s a).counters = s.counters ∧
    (dropRecord s a).pending = s.pending :=
  ⟨rfl, rfl, rfl, rfl, rfl, rfl, rfl, rfl, rfl, rfl, rfl, rfl, rfl, rfl, rfl, rfl⟩

theorem map_arrival_dropRecord (s : State) (a : Nat) : (dropRecord s a).staging.records.map (·.arrival) =
    (s.staging.records.map (·.arrival)).filter (fun n => decide (n ≠ a)) := by
  simp [dropRecord, setRecords, List.filter_map, Function.comp_def]

/-- A record of a line leaves as a PLACED or a REMOVE CASE makes it leave. -/
theorem dropped_line {f : Line → Line} {l : Line} (a : Nat) (hl : s.lineAt g = some l) :
    (modifyLine (dropRecord s a) g f).lineAt g = some (f l) := by
  rw [lineAt_modifyLine_self, lineAt_of_tiers (t := dropRecord s a) (s := s) rfl, hl, Option.map_some]

/-- R151: an accepted PLACED, for a record with a line. -/
theorem placedChecked_line {a : Nat} {r : StagingRecord} (hr : s.record? a = some r) (hp : r.state = .placeable)
    (hg : r.target = some g) : placedChecked s a =
      answer (runSearch (markSearch (tierTest (modifyLine (dropRecord s a) g Line.place) g.place))) .done := by
  simp only [placedChecked, hr, if_pos hp, placeRecord, hg, record?_arrival hr]

/-! ### The last case of a tier (R32, R33) -/

theorem tier_of_lineAt {l : Line} (h : s.lineAt g = some l) : g.tier - 1 < (s.place g.place).tiers.length ∧
    ((s.place g.place).tier g.tier)[g.line - 1]? = some l := by
  refine ⟨?_, h⟩
  by_contra out
  have none : ((s.place g.place).tier g.tier)[g.line - 1]? = none := by
    simp [Place.tier, List.getD_eq_getElem?_getD, List.getElem?_eq_none (Nat.not_lt.1 out)]
  rw [State.lineAt, Place.line?, none] at h
  cases h

/-- R32: a tier whose last case is placed is finished. -/
theorem tierFinished_place {l : Line} (hl : s.lineAt g = some l) (last : l.placed + 1 = l.quantity)
    (others : ∀ i x, i ≠ g.line - 1 → ((s.place g.place).tier g.tier)[i]? = some x → x.placed = x.quantity) :
    tierFinished (((modifyLine s g Line.place).place g.place).tier g.tier) = true := by
  obtain ⟨inside, at_line⟩ := tier_of_lineAt hl
  rw [place_modifyLine, if_pos rfl, tier_modify, if_pos ⟨rfl, inside⟩, tierFinished, List.all_eq_true]
  intro x hx
  obtain ⟨i, hi⟩ := List.mem_iff_getElem?.1 hx
  rw [List.getElem?_modify, Option.map_eq_map, Option.map_eq_some_iff] at hi
  obtain ⟨y, hy, rfl⟩ := hi
  rw [decide_eq_true_iff]
  by_cases hn : g.line - 1 = i
  · subst hn
    obtain rfl := Option.some.inj (at_line.symm.trans hy)
    simpa [Line.place] using last
  · simpa [hn] using others i y (Ne.symm hn) hy

theorem tierTest_finished {n m : Nat} (ht : (s.place p).currentTier = some m) (hn : (s.place p).tierCount = some n)
    (h : tierFinished ((s.place p).tier m) = true) :
    tierTest s p = if m < n then advanceTier s p m else completePlace s p := by
  unfold tierTest
  simp only [ht, hn, h, if_true]

theorem mem_notices_advanceTier (m : Nat) (h : s.port.notices.length < 32) :
    .tierDone p m ∈ (advanceTier s p m).port.notices := by
  have kept := kept_promoteRecords (E := []) (kept_refl _
    (offerNotice (setPlace s p { s.place p with currentTier := some (m + 1) }) (.tierDone p m))) p (m + 1)
  exact kept.notices.subset (mem_offerNotice (by simpa using h) _)

theorem advanceTier_staging (s : State) (p : PlaceId) (m : Nat) : (advanceTier s p m).staging.records =
    s.staging.records.map (promoted p (m + 1)) := by
  rw [advanceTier, markSearch_staging, promoteRecords_staging]
  simp

theorem completePlace_watch (s : State) (p : PlaceId) : ((completePlace s p).watch p).state ≠ .ready ∧
    ((completePlace s p).watch p).state ≠ .dropping := by
  unfold completePlace
  rw [watch_congr (offerNotice_watches _ _)]
  exact stopWatch_idle _ p

theorem mem_notices_completePlace (h : s.port.notices.length < 32) : .palletDone p ∈ (completePlace s p).port.notices :=
  mem_offerNotice (by simpa using h) _

/-! ### Removal and acceptance (R152, R153) -/

/-- R152: the blocks a removal leaves, and the records and tallies after it. -/
theorem removeRecord_frame (s : State) (r : StagingRecord) (damaged : Bool) :
    (removeRecord s r damaged).config = s.config ∧ (removeRecord s r damaged).pins = s.pins ∧
    (removeRecord s r damaged).loop = s.loop ∧ (removeRecord s r damaged).gate = s.gate ∧
    (removeRecord s r damaged).view = s.view ∧ (removeRecord s r damaged).divert = s.divert ∧
    (removeRecord s r damaged).part = s.part ∧ (removeRecord s r damaged).port = s.port ∧
    (removeRecord s r damaged).pending = s.pending ∧ (removeRecord s r damaged).staging =
      { s.staging with
        records := s.staging.records.filter (fun x => decide (x.arrival ≠ r.arrival))
        damaged := if damaged then min (s.staging.damaged + 1) Config.tallyMax else s.staging.damaged
        returned := if damaged then s.staging.returned else min (s.staging.returned + 1) Config.tallyMax } := by
  unfold removeRecord tallyRemoval
  cases r.target <;> cases damaged <;> simp [dropRecord, setRecords]

theorem removeRecord_plans_line {r : StagingRecord} (hg : r.target = some g) (damaged : Bool) :
    (removeRecord s r damaged).plans = (modifyLine (dropRecord s r.arrival) g Line.unstage).plans := by
  unfold removeRecord
  simp only [hg]
  cases damaged <;> rfl

theorem removeRecord_plans_orphan {r : StagingRecord} (hg : r.target = none) (damaged : Bool) :
    (removeRecord s r damaged).plans = s.plans := by
  unfold removeRecord
  simp only [hg]
  cases damaged <;> rfl

/-- R153: an accepted suspect, by whether its place builds its tier. -/
theorem acceptRecord_line {r : StagingRecord} (hg : r.target = some g) {st : RecordState}
    (hst : st = if (s.place g.place).state = .building ∧ (s.place g.place).currentTier = some g.tier then
      .placeable else .waiting) :
    acceptRecord s r =
      let s1 := setRecords s
        (s.staging.records.map (fun x => if x.arrival = r.arrival then { x with state := st } else x))
      if st = .placeable then offerNotice s1 (.casePlaceable r.arrival) else s1 := by
  have accepted : acceptedState s r = st := by
    simp only [acceptedState, hg, newRecordState, hst, Bool.false_eq_true, if_false]
  simp only [acceptRecord, accepted]

end Sys2Proof.Laws

open Sys2Proof Sys2Proof.Machine Sys2Proof.Safety Sys2Proof.Laws

/-- Settles O28: the record and the counts before the tier test and the search, which keep them. -/
theorem placedMovesStagedToPlaced : Obligations.PlacedMovesStagedToPlaced := by
  unfold Obligations.PlacedMovesStagedToPlaced
  intro s a hs
  refine ⟨fun hr => next_afterGo hs rfl (by rw [placedChecked, hr]), fun r hr => ⟨fun hp => next_afterGo hs rfl ?_, ?_⟩⟩
  · simp only [placedChecked, hr, if_neg hp]
  intro hp g l hg hl
  have line : (tierTest (modifyLine (dropRecord s a.toNat) g Line.place) g.place).lineAt g = some l.place := by
    rw [lineAt_of_tiers (tierTest_tiers _ _ _), dropped_line _ hl]
  obtain ⟨n, hn⟩ := line_of_core (corePlans_searched (tierTest _ g.place) .done) line
  have kept := tierTest_staging (modifyLine (dropRecord s a.toNat) g Line.place) g.place
  simp only [modifyLine_frame, dropRecord_frame, map_arrival_dropRecord] at kept
  obtain ⟨arrivals, next, damaged, returned⟩ := kept
  exact ⟨_, _, next_afterGo hs rfl (placedChecked_line hr hp hg), by simp [arrivals], hn, rfl, rfl, rfl, rfl,
    by simp [next], by simp [damaged], by simp [returned], rfl, by simp, by simp, by constructor <;> simp⟩

/-- Settles O29: the test finds the tier finished, and the search after it keeps what the test made of the place. -/
theorem finishedTierAdvancesOrCompletes : Obligations.FinishedTierAdvancesOrCompletes := by
  unfold Obligations.FinishedTierAdvancesOrCompletes
  intro s a r g l n hs hr hp hg hl ht hn last others
  generalize hu : modifyLine (dropRecord s a.toNat) g Line.place = u
  have header : header (u.place g.place) = header (s.place g.place) := hu ▸ header_modifyLine _ g _ _
  have state := state_of_header header
  have test := tierTest_finished ((currentTier_of_header header).trans ht) ((tierCount_of_header header).trans hn)
    (hu ▸ tierFinished_place (s := dropRecord s a.toNat) hl last others)
  have notices : u.port.notices = s.port.notices := by simp [← hu]
  have accepted := placedChecked_line hr hp hg
  rw [hu, test] at accepted
  refine ⟨_, next_afterGo hs rfl accepted, fun below => ?_, fun top => ?_⟩
  · rw [if_pos below]
    have at_place := advanceTier_place u g.place g.place g.tier
    rw [if_pos rfl] at at_place
    have kept := header_of_core (corePlans_searched (advanceTier u g.place g.tier) .done) g.place
    refine ⟨(currentTier_of_header kept).trans (congrArg Place.currentTier at_place),
      (state_of_header kept).trans ((congrArg Place.state at_place).trans state), fun x hx ht => ?_, fun room => ?_⟩
    · simp only [answer_frame, runSearch_frame, markSearch_frame, advanceTier_staging, List.mem_map] at hx
      obtain ⟨y, -, rfl⟩ := hx
      exact promoted_not_waiting ht
    · have := mem_notices_advanceTier (s := u) (p := g.place) g.tier (by rwa [notices])
      simpa [answer, respond] using this
  · rw [if_neg (Nat.not_lt.2 top)]
    have at_place := completePlace_place u g.place g.place
    rw [if_pos rfl] at at_place
    have core := corePlans_searched (completePlace u g.place) .done
    have kept := header_of_core core g.place
    have watch : (answer (runSearch (markSearch (completePlace u g.place))) .done).watch g.place =
        (completePlace u g.place).watch g.place := watch_congr (by simp) _
    obtain ⟨not_ready, not_dropping⟩ := completePlace_watch u g.place
    refine ⟨(currentTier_of_header kept).trans (congrArg Place.currentTier at_place),
      (state_of_header kept).trans (congrArg Place.state at_place), fun hm => ?_, by rwa [watch], by rwa [watch],
      fun room => ?_⟩
    · rw [buildOrder_of_core core] at hm
      exact completePlace_buildOrder u g.place hm
    · have := mem_notices_completePlace (s := u) (p := g.place) (by rwa [notices])
      simpa [answer, respond] using this

/-- Settles O30: a removal lets one record and its staged count go; an acceptance re-marks one record. -/
theorem removeCaseAndAcceptSuspect : Obligations.RemoveCaseAndAcceptSuspect := by
  unfold Obligations.RemoveCaseAndAcceptSuspect
  intro s a hs
  refine ⟨fun reason => ⟨fun hr => next_afterGo hs rfl (if_pos hr), fun hr none => next_afterGo hs rfl ?_,
    fun r hr hrec => ?_⟩, fun none => next_afterGo hs rfl ?_, fun r hrec => ⟨fun hst => next_afterGo hs rfl ?_,
    fun hst g hg => ⟨fun now => next_afterGo hs rfl ?_, fun now => next_afterGo hs rfl ?_⟩⟩⟩
  · simp only [removeCaseChecked, if_neg (Nat.not_le.2 hr), none]
  · have accepted : removeCaseChecked s a.toNat reason.toNat =
        answer (runSearch (removeRecord s r (decide (reason.toNat = 0)))) .done := by
      simp only [removeCaseChecked, if_neg (Nat.not_le.2 hr), hrec]
    obtain ⟨config, pins, loop, gate, view, divert, part, port, pending, staging⟩ :=
      removeRecord_frame s r (decide (reason.toNat = 0))
    have ha := record?_arrival hrec
    refine ⟨_, next_afterGo hs rfl accepted, ?_, ?_, ?_, ?_, fun g l hg hl => ?_, fun hg inactive => ?_, ?_, rfl, ?_, ?_, ?_⟩
    case refine_5 =>
      have line : (removeRecord s r (decide (reason.toNat = 0))).lineAt g = some l.unstage := by
        have plans := place_congr (removeRecord_plans_line (s := s) hg (decide (reason.toNat = 0))) g.place
        rw [lineAt_of_tiers (congrArg Place.tiers plans), dropped_line _ hl]
      obtain ⟨n, hn⟩ := line_of_core (corePlans_runSearch _) line
      exact ⟨_, hn, rfl, rfl, rfl, rfl⟩
    case refine_6 =>
      rw [answer, runSearch_inactive (by rwa [part])]
      exact removeRecord_plans_orphan hg _
    case refine_10 => constructor <;> simpa
    all_goals simp [answer, respond, *, Config.tallyMax]
  · simp only [acceptSuspectChecked, none]
  · simp only [acceptSuspectChecked, hrec, if_neg hst]
  · simp only [acceptSuspectChecked, hrec, if_pos hst, acceptRecord_line hg (if_pos now).symm]
    rfl
  · simp only [acceptSuspectChecked, hrec, if_pos hst, acceptRecord_line hg (if_neg now).symm]
    rfl
end

section
/-! SUPPORT. Places suspended and resumed, and the raising and the end of PLACE_NOT_READY (R35, R36, R166, R168 to R171). -/

namespace Sys2Proof.Laws

open Sys2Proof Sys2Proof.Machine Sys2Proof.Safety

variable {s s₀ t : State} {p q : PlaceId}

/-! ### A place but for its claimed counts -/

def core (s : State) (q : PlaceId) : Place := (s.place q).mapLines unclaimed

theorem core_congr (e : t.plans = s.plans) (q : PlaceId) : core t q = core s q := by
  unfold core
  rw [place_congr e]

theorem core_of_corePlans (e : corePlans t = corePlans s) (q : PlaceId) : core t q = core s q := place_of_core e q

theorem header_of_core_place (e : core t q = core s q) : header (t.place q) = header (s.place q) := by
  simpa [core, header, Place.mapLines] using congrArg header e

theorem cancelTest_place (h : (s.place q).state ≠ .cancelling) : (cancelTest s p).place q = s.place q := by
  unfold cancelTest
  split
  next ends =>
    have hne : q ≠ p := fun e => h (e ▸ ends.1)
    rw [place_congr (s := setPlace s p Place.empty) (by simp), place_setPlace_ne s hne]
  next => rfl

theorem core_cancelTest (h : (core s q).state ≠ .cancelling) (p : PlaceId) : core (cancelTest s p) q = core s q :=
  congrArg (·.mapLines unclaimed) (cancelTest_place h)

theorem core_endAndTest (h : (core s q).state ≠ .cancelling) (k : Nat) (e : PendingEnd) :
    core (endAndTest s k e) q = core s q := by
  unfold endAndTest
  split
  · rfl
  · have ended := core_of_corePlans (corePlans_endUncommitted s k e) q
    rw [core_cancelTest (by rwa [ended]), ended]

theorem core_withdrawClaim (h : (core s q).state ≠ .cancelling) (k : Nat) : core (withdrawClaim s k) q = core s q := by
  unfold withdrawClaim
  split
  · rfl
  · split
    · exact core_endAndTest h k _
    · exact core_endAndTest h k _
    next c _ _ _ =>
      have left : core (offerFrame (leaveClaim s c) (.release k .withdrawn)) q = core s q :=
        (core_congr (plans_offerFrame _ _) q).trans (core_of_corePlans (corePlans_leaveClaim s c) q)
      rw [core_cancelTest (by rwa [left]), left]
    all_goals rfl

/-- R39, R122: a withdrawal of the claims keeps every place that is not CANCELLING. -/
theorem core_withdrawClaims (h : (core s q).state ≠ .cancelling) : core (withdrawClaims s) q = core s q :=
  foldl_induct (P := fun u => core u q = core s q)
    (fun u k hu => (core_withdrawClaim (by rwa [hu]) k).trans hu) _ rfl

theorem core_orderlyWithdraw (h : (core s q).state ≠ .cancelling) (r : Nat) : core (orderlyWithdraw s r) q = core s q := by
  unfold orderlyWithdraw
  split
  · exact core_congr (by simp) q
  · have begun : core (offerWithdraw (moveTo s .withdrawn) r) q = core s q := core_congr (by simp) q
    have claims := core_withdrawClaims (s := offerWithdraw (moveTo s .withdrawn) r) (q := q) (by rwa [begun])
    exact (core_congr (by simp) q).trans (claims.trans begun)

/-! ### The place's state at a suspension (R35) -/

theorem suspendPlace_building (h : (s.place p).state = .building) : suspendPlace s p =
    demoteRecords (cancelClaimsOf (stopWatch (setPlaceState s p .suspended) p) p) p :=
  if_pos (decide_eq_true h)

theorem suspendPlace_other (h : (s.place p).state ≠ .building) : suspendPlace s p = s :=
  if_neg (by simpa [State.building] using h)

theorem demoteRecords_plans (s : State) (p : PlaceId) : (demoteRecords s p).plans = s.plans := rfl

theorem corePlans_suspendPlace (h : (s.place p).state = .building) :
    corePlans (suspendPlace s p) = corePlans (setPlaceState s p .suspended) := by
  rw [suspendPlace_building h, corePlans_congr (demoteRecords_plans _ _), corePlans_cancelClaimsOf]
  exact corePlans_congr (by simp)

/-- R35: what a place is after its suspension request. -/
def suspendedState (x : PlaceState) : PlaceState := if x = .building then .suspended else x

theorem suspendPlace_state_self (s : State) (p : PlaceId) :
    ((suspendPlace s p).place p).state = suspendedState (s.place p).state := by
  by_cases h : (s.place p).state = .building
  · rw [state_of_core (corePlans_suspendPlace h), setPlaceState, place_setPlace_self, suspendedState, if_pos h]
  · rw [suspendPlace_other h, suspendedState, if_neg h]

theorem suspendPlace_core_ne (s : State) (hq : q ≠ p) : core (suspendPlace s p) q = core s q := by
  by_cases h : (s.place p).state = .building
  · rw [core_of_corePlans (corePlans_suspendPlace h)]
    exact congrArg (·.mapLines unclaimed) (place_setPlace_ne s hq _)
  · rw [suspendPlace_other h]

theorem suspendPlace_currentTier (s : State) (p q : PlaceId) :
    ((suspendPlace s p).place q).currentTier = (s.place q).currentTier := by
  by_cases hq : q = p
  · subst hq
    by_cases h : (s.place q).state = .building
    · rw [currentTier_of_header (header_of_core (corePlans_suspendPlace h) q), setPlaceState, place_setPlace_self]
    · rw [suspendPlace_other h]
  · exact currentTier_of_header (header_of_core_place (suspendPlace_core_ne s hq))

theorem suspendPlace_buildOrder (s : State) (p : PlaceId) :
    (suspendPlace s p).plans.buildOrder = s.plans.buildOrder ∧ (suspendPlace s p).plans.loader = s.plans.loader := by
  by_cases h : (s.place p).state = .building
  · have kept := corePlans_suspendPlace h
    exact ⟨(buildOrder_of_core kept).trans rfl, (loader_of_core kept).trans rfl⟩
  · rw [suspendPlace_other h]
    exact ⟨rfl, rfl⟩

theorem mem_allPlaces : ∀ q : PlaceId, q ∈ allPlaces := by decide

/-- R171: every place BUILDING is suspended. -/
theorem suspendAll_state (s : State) (q : PlaceId) :
    ((allPlaces.foldl suspendPlace s).place q).state = suspendedState (s.place q).state := by
  have suspended : ∀ (l : List PlaceId) (u : State), ((l.foldl suspendPlace u).place q).state =
      if q ∈ l then suspendedState (u.place q).state else (u.place q).state := by
    intro l
    induction l with
    | nil => exact fun u => by simp
    | cons p l ih =>
      intro u
      rw [List.foldl_cons, ih]
      by_cases hq : q = p
      · subst hq
        rw [suspendPlace_state_self, if_pos List.mem_cons_self]
        split
        · unfold suspendedState
          split <;> simp [*]
        · rfl
      · rw [state_of_header (header_of_core_place (suspendPlace_core_ne u hq))]
        simp [hq]
  rw [suspended, if_pos (mem_allPlaces q)]

/-! ### Watches and the fault record -/

/-- A watch that no suspension moves. -/
def Unmoved (w : Watch) : Prop := w.state ≠ .ready ∧ w.state ≠ .dropping

theorem stopWatch_watch (h : Unmoved (s.watch q)) (p : PlaceId) : (stopWatch s p).watch q = s.watch q := by
  have kept : ∀ w, (s.watch p).state = .ready ∨ (s.watch p).state = .dropping → (setWatch s p w).watch q = s.watch q :=
    fun w hp => by
      rw [watch_setWatch, if_neg]
      rintro rfl
      exact hp.elim h.1 h.2
  unfold stopWatch
  split
  next e => exact kept _ (.inl e)
  next e => exact kept _ (.inr e)
  all_goals rfl

theorem suspendPlace_watch (h : Unmoved (s.watch q)) (p : PlaceId) : (suspendPlace s p).watch q = s.watch q := by
  unfold suspendPlace
  split
  · have begun : (stopWatch (setPlaceState s p .suspended) p).watch q = s.watch q :=
      stopWatch_watch (s := setPlaceState s p .suspended) (by exact h) p
    exact (watch_congr (by simp) q).trans begun
  · rfl

theorem suspendAll_watch (h : Unmoved (s.watch q)) : (allPlaces.foldl suspendPlace s).watch q = s.watch q :=
  foldl_induct (P := fun u => u.watch q = s.watch q) (fun u p hu => (suspendPlace_watch (by rwa [hu]) p).trans hu) _ rfl

theorem cancelTest_watches (s : State) (p : PlaceId) : (cancelTest s p).part.watches = s.part.watches := by
  unfold cancelTest
  split <;> simp

theorem withdrawClaims_watches (s : State) : (withdrawClaims s).part.watches = s.part.watches := by
  refine foldl_keeps (fun u => u.part.watches) (fun u k => ?_) _ s
  unfold withdrawClaim endAndTest
  split
  · rfl
  · split
    case h_1 | h_2 =>
      split
      · rfl
      · simp [cancelTest_watches]
    case h_3 => simp [cancelTest_watches]
    all_goals rfl

theorem orderlyWithdraw_watches (s : State) (r : Nat) : (orderlyWithdraw s r).part.watches = s.part.watches := by
  have moved : (moveTo s .withdrawn).part.watches = s.part.watches := by
    unfold moveTo
    split <;> simp
  unfold orderlyWithdraw
  split <;> simp [withdrawClaims_watches, moved]

theorem noted_stopWatch (h : Noted s₀ s) (p : PlaceId) : Noted s₀ (stopWatch s p) := by
  have same : Noted s (stopWatch s p) := by
    unfold stopWatch
    split <;> exact ⟨fun _ _ => rfl, rfl, rfl⟩
  exact ⟨fun f hf => (same.fault f hf).trans (h.fault f hf), same.cause.trans h.cause, same.marks.trans h.marks⟩

theorem noted_suspendPlace (h : Noted s₀ s) (p : PlaceId) : Noted s₀ (suspendPlace s p) := by
  unfold suspendPlace
  split
  · have begun : Noted s₀ (setPlaceState s p .suspended) := noted_frame h (by simp)
    exact noted_frame (noted_stopWatch begun p) (by simp)
  · exact h

theorem noted_withdrawClaims (h : Noted s₀ s) : Noted s₀ (withdrawClaims s) := by
  refine noted_foldl (fun u k hu => ?_) _ h
  unfold withdrawClaim endAndTest
  split
  · exact hu
  · split
    case h_1 | h_2 =>
      split
      · exact hu
      · exact noted_cancelTest (noted_frame hu (by simp)) _
    case h_3 => exact noted_cancelTest (noted_frame hu (by simp)) _
    all_goals exact hu

theorem noted_orderlyWithdraw (h : Noted s₀ s) (r : Nat) : Noted s₀ (orderlyWithdraw s r) := by
  unfold orderlyWithdraw
  split
  · exact noted_frame h (by simp)
  · have begun : Noted s₀ (offerWithdraw (moveTo s .withdrawn) r) :=
      noted_frame (s := moveTo s .withdrawn) (noted_moveTo h _) (by simp)
    exact noted_frame (noted_withdrawClaims begun) (by simp)

end Sys2Proof.Laws
end

section
/-! SUPPORT. The raising and the end of PLACE_NOT_READY, and a place that becomes BUILDING (R24, R36, R168 to R171). -/

namespace Sys2Proof.Laws

open Sys2Proof Sys2Proof.Machine Sys2Proof.Safety

variable {s s₀ t : State} {p q : PlaceId}

/-! ### An orderly withdrawal (R166) -/

theorem orderlyWithdraw_state (s : State) (r : Nat) : (orderlyWithdraw s r).part.state = .withdrawn := by
  unfold orderlyWithdraw
  split
  · simpa
  · simp [moveTo_state]

theorem hasFrame_leaveClaim {f : OutFrame} (h : HasFrame f s) (c : Claim) : HasFrame f (leaveClaim s c) :=
  hasFrame_congr h (by simp)

theorem hasFrame_withdrawClaim {f : OutFrame} (hf : Lasting f = true) (h : HasFrame f s) (k : Nat) :
    HasFrame f (withdrawClaim s k) := by
  unfold withdrawClaim
  split
  · exact h
  · split
    · exact hasFrame_endAndTest hf h k _
    · exact hasFrame_endAndTest hf h k _
    · exact hasFrame_cancelTest (hasFrame_offerFrame hf (hasFrame_leaveClaim h _) _) _
    all_goals exact h

theorem hasFrame_withdrawClaims {f : OutFrame} (hf : Lasting f = true) (h : HasFrame f s) : HasFrame f (withdrawClaims s) :=
  foldl_induct (P := HasFrame f) (fun _ k hu => hasFrame_withdrawClaim hf hu k) _ h

theorem hasFrame_orderlyWithdraw (s : State) (r : Nat) : HasFrame (.withdraw r) (orderlyWithdraw s r) := by
  unfold orderlyWithdraw
  split
  · exact hasFrame_offerWithdraw s r
  · exact hasFrame_withdrawAnnounces rfl (hasFrame_withdrawClaims rfl (hasFrame_offerWithdraw _ r)) fun _ => id

/-- The build order list and the plan loader. -/
def planLists (s : State) : List PlaceId × Option PlaceId := (s.plans.buildOrder, s.plans.loader)

theorem planLists_congr (e : t.plans = s.plans) : planLists t = planLists s := by
  unfold planLists
  rw [e]

theorem planLists_of_core (e : corePlans t = corePlans s) : planLists t = planLists s :=
  Prod.ext (buildOrder_of_core e) (loader_of_core e)

theorem planLists_cancelTest (s : State) (p : PlaceId) : planLists (cancelTest s p) = planLists s := by
  unfold cancelTest
  split
  · exact (planLists_congr (by simp)).trans (rfl : planLists (setPlace s p Place.empty) = _)
  · rfl

theorem planLists_withdrawClaims (s : State) : planLists (withdrawClaims s) = planLists s := by
  refine foldl_keeps planLists (fun u k => ?_) _ s
  unfold withdrawClaim endAndTest
  split
  · rfl
  · split
    case h_1 | h_2 =>
      split
      · rfl
      · rw [planLists_cancelTest, planLists_of_core (corePlans_endUncommitted _ _ _)]
    next c _ _ _ =>
      rw [planLists_cancelTest, planLists_congr (plans_offerFrame _ _), planLists_of_core (corePlans_leaveClaim _ _)]
    all_goals rfl

theorem planLists_orderlyWithdraw (s : State) (r : Nat) : planLists (orderlyWithdraw s r) = planLists s := by
  unfold orderlyWithdraw
  split
  · exact planLists_congr (by simp)
  · have begun : planLists (offerWithdraw (moveTo s .withdrawn) r) = planLists s := planLists_congr (by simp)
    exact (planLists_congr (by simp)).trans ((planLists_withdrawClaims _).trans begun)

theorem planLists_suspendPlace (s : State) (p : PlaceId) : planLists (suspendPlace s p) = planLists s :=
  Prod.ext (suspendPlace_buildOrder s p).1 (suspendPlace_buildOrder s p).2

/-! ### PLACE_NOT_READY raised (R168, R170, R171) -/

theorem raise_place (h : s.policy.scope = .place) (p : PlaceId) :
    raisePlaceNotReady s p = suspendPlace (recordFault s (.placeNotReady p) p.val) p := by
  unfold raisePlaceNotReady
  rw [h]

theorem raise_cell (h : s.policy.scope = .cell) (p : PlaceId) : raisePlaceNotReady s p =
    orderlyWithdraw (allPlaces.foldl suspendPlace (recordFault s (.placeNotReady p) p.val)) 7 := by
  unfold raisePlaceNotReady
  rw [h]
  rfl

/-- What the raising keeps or sets in both scopes. -/
theorem raise_fault (s : State) (p : PlaceId) :
    (raisePlaceNotReady s p).fault (.placeNotReady p) = ⟨true, false, true⟩ := by
  have recorded := recordFault_fault s (f := .placeNotReady p) (by simp) p.val
  have kept : Noted (recordFault s (.placeNotReady p) p.val) (raisePlaceNotReady s p) := by
    cases h : s.policy.scope with
    | place =>
      rw [raise_place h]
      exact noted_suspendPlace (noted_refl _) p
    | cell =>
      rw [raise_cell h]
      exact noted_orderlyWithdraw (noted_foldl (fun _ q hu => noted_suspendPlace hu q) _ (noted_refl _)) 7
  exact (kept.fault _ (by simp)).trans recorded

theorem recordFault_watch (s : State) (f : FaultId) (d : Nat) (q : PlaceId) : (recordFault s f d).watch q = s.watch q :=
  watch_congr (by simp [recordFault, setFault]) q

theorem raise_watch (h : Unmoved (s.watch q)) (p : PlaceId) : (raisePlaceNotReady s p).watch q = s.watch q := by
  have recorded := recordFault_watch s (.placeNotReady p) p.val q
  cases hs : s.policy.scope with
  | place => rw [raise_place hs, suspendPlace_watch (by rwa [recorded]), recorded]
  | cell =>
    rw [raise_cell hs, watch_congr (orderlyWithdraw_watches _ _), suspendAll_watch (by rwa [recorded]), recorded]

theorem planLists_raise (s : State) (p : PlaceId) : planLists (raisePlaceNotReady s p) = planLists s := by
  have recorded : planLists (recordFault s (.placeNotReady p) p.val) = planLists s := planLists_congr (by simp)
  cases hs : s.policy.scope with
  | place => rw [raise_place hs, planLists_suspendPlace, recorded]
  | cell =>
    rw [raise_cell hs, planLists_orderlyWithdraw, foldl_keeps planLists planLists_suspendPlace, recorded]

theorem recordFault_place (s : State) (f : FaultId) (d : Nat) (q : PlaceId) : (recordFault s f d).place q = s.place q :=
  place_congr (by simp) q

theorem raise_place_effects (h : s.policy.scope = .place) (p : PlaceId) :
    (raisePlaceNotReady s p).part.state = s.part.state ∧
      ((raisePlaceNotReady s p).place p).state = suspendedState (s.place p).state ∧
      ∀ q, q ≠ p → ((raisePlaceNotReady s p).place q).state = (s.place q).state := by
  rw [raise_place h]
  refine ⟨by simp, ?_, fun q hq => ?_⟩
  · rw [suspendPlace_state_self, recordFault_place]
  · rw [state_of_header (header_of_core_place (suspendPlace_core_ne _ hq)), recordFault_place]

theorem suspendedState_cancelling {x : PlaceState} (h : x ≠ .cancelling) : suspendedState x ≠ .cancelling := by
  unfold suspendedState
  split
  · exact PlaceState.noConfusion
  · exact h

theorem orderlyWithdraw_header (h : (s.place q).state ≠ .cancelling) (r : Nat) :
    header ((orderlyWithdraw s r).place q) = header (s.place q) := header_of_core_place (core_orderlyWithdraw h r)

theorem suspendAll_currentTier (s : State) (q : PlaceId) :
    ((allPlaces.foldl suspendPlace s).place q).currentTier = (s.place q).currentTier :=
  foldl_keeps (fun u : State => (u.place q).currentTier) (fun u p => suspendPlace_currentTier u p q) _ s

/-- R171: the places after the raising in CELL scope. -/
theorem raise_cell_place (h : s.policy.scope = .cell) (p : PlaceId) (hq : (s.place q).state ≠ .cancelling) :
    ((raisePlaceNotReady s p).place q).state = suspendedState (s.place q).state ∧
      ((raisePlaceNotReady s p).place q).currentTier = (s.place q).currentTier := by
  have state := suspendAll_state (recordFault s (.placeNotReady p) p.val) q
  have tier := suspendAll_currentTier (recordFault s (.placeNotReady p) p.val) q
  rw [raise_cell h]
  generalize allPlaces.foldl suspendPlace (recordFault s (.placeNotReady p) p.val) = u at *
  rw [recordFault_place] at state tier
  have kept := orderlyWithdraw_header (s := u) (q := q)
    (fun e => suspendedState_cancelling hq (state.symm.trans e)) 7
  exact ⟨(state_of_header kept).trans state, (currentTier_of_header kept).trans tier⟩

theorem raise_cell_station (h : s.policy.scope = .cell) (p : PlaceId) :
    (raisePlaceNotReady s p).part.state = .withdrawn ∧ HasFrame (.withdraw 7) (raisePlaceNotReady s p) := by
  rw [raise_cell h]
  exact ⟨orderlyWithdraw_state _ _, hasFrame_orderlyWithdraw _ _⟩

/-- R35, R171: a place keeps its current tier as it is suspended. -/
theorem raise_currentTier (hq : (s.place q).state ≠ .cancelling) (p : PlaceId) :
    ((raisePlaceNotReady s p).place q).currentTier = (s.place q).currentTier := by
  cases hs : s.policy.scope with
  | place => rw [raise_place hs, suspendPlace_currentTier, recordFault_place]
  | cell => exact (raise_cell_place hs p hq).2

/-! ### The raising as the last part of an event -/

/-- What the search of an event keeps of a place's watch, state, tier and fault. -/
theorem runSearch_watch (s : State) (q : PlaceId) : (runSearch s).watch q = s.watch q := watch_congr (by simp) q

theorem runSearch_state (s : State) (q : PlaceId) : ((runSearch s).place q).state = (s.place q).state :=
  state_of_core (corePlans_runSearch s) q

theorem fault_of_part (e : t.part = s.part) (f : FaultId) : t.fault f = s.fault f := by
  unfold State.fault
  rw [e]

/-! ### COMMIT PLAN accepted (R24) -/

/-- The place BUILDING at tier 1, at the tail of the build order list, and the loader closed. -/
def committed (s : State) (p : PlaceId) : State :=
  let s1 := setPlace s p { s.place p with state := .building, currentTier := some 1 }
  s1.setPlans { s1.plans with buildOrder := s1.plans.buildOrder ++ [p], loader := none }

theorem commitPlanChecked_accepted (hl : s.plans.loader = some p) (ok : planProblem s (s.place p) = none) :
    commitPlanChecked s = answer (runSearch (markSearch (startWatch (committed s p) p))) .done := by
  simp only [commitPlanChecked, hl, ok]
  rfl

theorem committed_place (s : State) (p q : PlaceId) : (committed s p).place q =
    if p = q then { s.place p with state := .building, currentTier := some 1 } else s.place q :=
  place_setPlace s p q _

theorem committed_place_self (s : State) (p : PlaceId) :
    (committed s p).place p = { s.place p with state := .building, currentTier := some 1 } := by
  rw [committed_place, if_pos rfl]

theorem committed_place_ne (s : State) (hq : q ≠ p) : (committed s p).place q = s.place q := by
  rw [committed_place, if_neg (Ne.symm hq)]

theorem committed_planLists (s : State) (p : PlaceId) : planLists (committed s p) = (s.plans.buildOrder ++ [p], none) := rfl

@[simp] theorem committed_frame (s : State) (p : PlaceId) :
    (committed s p).config = s.config ∧ (committed s p).pins = s.pins ∧ (committed s p).loop = s.loop ∧
    (committed s p).gate = s.gate ∧ (committed s p).line = s.line ∧ (committed s p).view = s.view ∧
    (committed s p).contest = s.contest ∧ (committed s p).divert = s.divert ∧ (committed s p).staging = s.staging ∧
    (committed s p).part = s.part ∧ (committed s p).port = s.port ∧ (committed s p).counters = s.counters ∧
    (committed s p).pending = s.pending := ⟨rfl, rfl, rfl, rfl, rfl, rfl, rfl, rfl, rfl, rfl, rfl, rfl, rfl⟩

theorem startWatch_unwatched (h : (s.watch p).state = .unwatched) :
    startWatch s p = setWatch s p ⟨if s.pins.placeReady[p] then .ready else .dropping, 0⟩ := by
  unfold startWatch
  rw [h]

theorem startWatch_live (h : (s.watch p).state = .notReady ∨ (s.watch p).state = .rising) :
    startWatch s p = raisePlaceNotReady s p := by
  unfold startWatch
  rcases h with h | h <;> rw [h]

theorem unmoved_of_live {w : Watch} (h : w.state = .notReady ∨ w.state = .rising) : Unmoved w := by
  rcases h with h | h <;> simp [Unmoved, h]

theorem place_searched_inactive (h : s.part.state ≠ .active) (r : Result) (q : PlaceId) :
    (answer (runSearch (markSearch s)) r).place q = s.place q := by
  rw [runSearch_inactive (by simpa)]
  rfl

end Sys2Proof.Laws

open Sys2Proof Sys2Proof.Machine Sys2Proof.Safety Sys2Proof.Laws

/-- Settles O25: the place is committed, then its watch starts or raises, then the search runs. -/
theorem commitStartsBuilding : Obligations.CommitStartsBuilding := by
  unfold Obligations.CommitStartsBuilding
  intro s p hs hl ok
  have accepted := next_afterGo (c := .commitPlan) hs rfl (commitPlanChecked_accepted hl ok)
  have self := committed_place_self s p
  have others : ∀ q, q ≠ p → (committed s p).place q = s.place q := fun q hq => committed_place_ne s hq
  generalize hu : startWatch (committed s p) p = u at accepted
  have core := corePlans_searched u .done
  have lists := planLists_of_core core
  refine ⟨fun unwatched => ⟨_, accepted, ?_⟩, fun live => ⟨_, accepted, ?_⟩⟩
  · rw [startWatch_unwatched (by exact unwatched)] at hu
    have plans : corePlans u = corePlans (committed s p) := hu ▸ rfl
    have at_p : header ((answer (runSearch (markSearch u)) .done).place p) =
        (.building, (s.place p).orderRef, (s.place p).tierCount, some 1) := by
      rw [header_of_core (core.trans plans), self]
      rfl
    rw [planLists_of_core plans, committed_planLists] at lists
    obtain ⟨state, orderRef, tierCount, currentTier⟩ :
        _ ∧ _ ∧ _ ∧ _ := by simpa only [header, Prod.mk.injEq] using at_p
    refine ⟨state, currentTier, orderRef, tierCount, congrArg Prod.fst lists, congrArg Prod.snd lists,
      ?_, rfl, fun q hq => ?_, ?_, ?_, ?_, ?_, fun inactive => ?_⟩
    · exact (watch_congr (by simp) p).trans (hu ▸ (watch_setWatch _ p p _).trans (if_pos rfl))
    · rw [state_of_core (core.trans plans), others q hq]
    · simp [← hu]
    · simp [← hu]
    · simp [← hu]
    · constructor <;> simp [← hu]
    · have same : ∀ q, u.place q = (committed s p).place q := fun q => hu ▸ rfl
      have still : u.part.state ≠ .active := by simpa [← hu]
      refine ⟨?_, ?_, fun q hq => ?_⟩
      · rw [runSearch_inactive (by simpa)]
        simp [← hu, markSearch]
      · rw [place_searched_inactive still, same, self]
      · rw [place_searched_inactive still, same, others q hq]
  · rw [startWatch_live (by exact live)] at hu
    have building : ((committed s p).place p).state = .building := by rw [self]
    have begun : planLists u = (s.plans.buildOrder ++ [p], none) := by rw [← hu, planLists_raise, committed_planLists]
    rw [begun] at lists
    have state : ∀ q, ((answer (runSearch (markSearch u)) .done).place q).state = (u.place q).state := state_of_core core
    have suspended : (u.place p).state = .suspended := by
      rw [← hu]
      cases h : s.policy.scope with
      | place => rw [(raise_place_effects (by exact h) p).2.1, building]; rfl
      | cell => rw [(raise_cell_place (by exact h) p (by simp [building])).1, building]; rfl
    have tier : (u.place p).currentTier = some 1 := by rw [← hu, raise_currentTier (by simp [building]), self]
    have fault : u.fault (.placeNotReady p) = ⟨true, false, true⟩ := by rw [← hu, raise_fault]
    have watch : u.watch p = s.watch p := by
      rw [← hu, raise_watch (unmoved_of_live (by exact live))]
      rfl
    refine ⟨(state p).trans suspended, (currentTier_of_header (header_of_core core p)).trans tier,
      congrArg Prod.fst lists, congrArg Prod.snd lists, ?_, ?_, rfl, fun h => ⟨?_, fun q hq => ?_⟩,
      fun h => ⟨?_, ?_, fun q hq live => ?_⟩⟩
    · exact (fault_of_part (by simp) _).trans fault
    · exact (watch_congr (by simp) p).trans watch
    · obtain ⟨station, -, -⟩ := raise_place_effects (s := committed s p) h p
      simpa [← hu] using station
    · rw [state, ← hu, (raise_place_effects (s := committed s p) h p).2.2 q hq, others q hq]
    · obtain ⟨station, -⟩ := raise_cell_station (s := committed s p) h p
      simpa [← hu] using station
    · obtain ⟨-, frame⟩ := raise_cell_station (s := committed s p) h p
      rw [hu] at frame
      have searched := hasFrame_runSearch (f := .withdraw 7) rfl (hasFrame_congr frame (by simp) : HasFrame _ (markSearch u))
      exact hasFrame_congr searched (by simp)
    · rw [state, ← hu, (raise_cell_place (s := committed s p) h p (by rwa [others q hq])).1, others q hq]
      rfl
end

section
/-! SUPPORT. The place-ready watch (R169, R170): its input, its timer, and the end of the condition. -/

namespace Sys2Proof.Laws

open Sys2Proof Sys2Proof.Machine Sys2Proof.Safety

variable {s s₀ t : State} {p q : PlaceId}

/-! ### The timer (R169) -/

theorem elapse_watch (s : State) (ms : Nat) (p : PlaceId) :
    (elapse s ms).watch p = (s.watch p).elapse s.timing.placeDeglitch ms := by
  simp only [State.watch, elapse, State.setPart_part]
  match p with
  | 0 | 1 | 2 | 3 => rfl

theorem watch_elapse_state (w : Watch) (d ms : Nat) : (w.elapse d ms).state = w.state := by
  unfold Watch.elapse
  split <;> rfl

theorem elapse_watch_state (s : State) (ms : Nat) (p : PlaceId) : ((elapse s ms).watch p).state = (s.watch p).state := by
  rw [elapse_watch, watch_elapse_state]

theorem elapse_fault (s : State) (ms : Nat) (f : FaultId) : (elapse s ms).fault f = s.fault f := by
  unfold State.fault
  rw [elapse_faults]

/-- The state as the rest of the place-ready interval has passed. -/
def timed (s : State) (p : PlaceId) : State := elapse s (s.timing.placeDeglitch - (s.watch p).timer)

theorem placeReadyTimer_halted (h : (s.watch p).state ≠ .dropping) (h' : (s.watch p).state ≠ .rising) :
    placeReadyTimer s p = s := by
  unfold placeReadyTimer
  exact if_neg (by simp [Watch.timed, h, h'])

theorem placeReadyTimer_dropping (h : (s.watch p).state = .dropping) : placeReadyTimer s p =
    runSearch (raisePlaceNotReady (setWatch (timed s p) p ⟨.notReady, 0⟩) p) := by
  have state := elapse_watch_state s (s.timing.placeDeglitch - (s.watch p).timer) p
  rw [h] at state
  unfold placeReadyTimer placeTimerEnd
  rw [if_pos (by simp [Watch.timed, h]), state]
  rfl

theorem placeReadyTimer_rising (h : (s.watch p).state = .rising) :
    placeReadyTimer s p = runSearch (endPlaceCondition (timed s p) p) := by
  have state := elapse_watch_state s (s.timing.placeDeglitch - (s.watch p).timer) p
  rw [h] at state
  unfold placeReadyTimer placeTimerEnd
  rw [if_pos (by simp [Watch.timed, h]), state]
  rfl

/-! ### A place resumed (R36) -/

theorem resumePlace_suspended (h : (s.place p).state = .suspended) : resumePlace s p = markSearch (startWatch
    (promoteRecords (setPlaceState s p .building) p ((s.place p).currentTier.getD 0)) p) := if_pos h

theorem resumePlace_other (h : (s.place p).state ≠ .suspended) : resumePlace s p = s := if_neg h

/-- R169: a watch that its place's resumption starts without a raising. -/
theorem resumePlace_unwatched (h : (s.place p).state = .suspended) (hw : (s.watch p).state = .unwatched) :
    resumePlace s p = markSearch (setWatch
      (promoteRecords (setPlaceState s p .building) p ((s.place p).currentTier.getD 0)) p
      ⟨if s.pins.placeReady[p] then .ready else .dropping, 0⟩) := by
  have watches : (promoteRecords (setPlaceState s p .building) p ((s.place p).currentTier.getD 0)).watch p = s.watch p :=
    watch_congr (by
      unfold promoteRecords
      exact foldl_keeps (fun u : State => u.part.watches) (fun u r => offerNotice_watches u _) _ _) p
  rw [resumePlace_suspended h, startWatch_unwatched (by rw [watches, hw])]
  simp

theorem noted_promoteRecords (h : Noted s₀ s) (p : PlaceId) (n : Nat) : Noted s₀ (promoteRecords s p n) := by
  have begun : ∀ rs, Noted s₀ (setRecords s rs) := fun rs => noted_frame h (by simp)
  exact noted_foldl (fun u r hu => noted_offerNotice hu _) _ (begun _)

theorem noted_setWatch (h : Noted s₀ s) (p : PlaceId) (w : Watch) : Noted s₀ (setWatch s p w) :=
  ⟨fun f hf => h.fault f hf, h.cause, h.marks⟩

theorem noted_markSearch (h : Noted s₀ s) : Noted s₀ (markSearch s) := noted_frame h (by simp)

/-! ### The end of the condition (R169, R170) -/

/-- The watch at the end of the condition, and the fault record. -/
def conditionEnded (s : State) (p : PlaceId) : State :=
  setWatch (endCondition s (.placeNotReady p)) p ⟨if s.building p then .ready else .unwatched, 0⟩

theorem endPlaceCondition_eq (s : State) (p : PlaceId) : endPlaceCondition s p =
    if s.policy.scope = .place ∧ s.policy.recovery = .auto then resumePlace (conditionEnded s p) p
    else conditionEnded s p := rfl

theorem conditionEnded_fault (s : State) (p : PlaceId) : (conditionEnded s p).fault (.placeNotReady p) =
    { s.fault (.placeNotReady p) with condition := false } := fault_setFault_self s _ _

theorem conditionEnded_watch (s : State) (p : PlaceId) : (conditionEnded s p).watch p =
    ⟨if s.building p then .ready else .unwatched, 0⟩ := by
  unfold conditionEnded
  rw [watch_setWatch, if_pos rfl]

theorem conditionEnded_unwatched (h : (s.place p).state = .suspended) :
    (conditionEnded s p).watch p = ⟨.unwatched, 0⟩ := by
  rw [conditionEnded_watch, State.building, h]
  rfl

/-- R170: the end of a condition raises nothing: a suspended place has its watch started anew. -/
theorem noted_resumeEnded (s : State) (p : PlaceId) :
    Noted (conditionEnded s p) (resumePlace (conditionEnded s p) p) := by
  by_cases h : (s.place p).state = .suspended
  · rw [resumePlace_unwatched (by exact h) (by rw [conditionEnded_unwatched h])]
    have begun : Noted (conditionEnded s p) (setPlaceState (conditionEnded s p) p .building) :=
      noted_frame (noted_refl _) (by simp)
    exact noted_markSearch (noted_setWatch (noted_promoteRecords begun p _) p _)
  · rw [resumePlace_other (by exact h)]
    exact noted_refl _

theorem endPlaceCondition_state (s : State) (p : PlaceId) : (endPlaceCondition s p).part.state = s.part.state := by
  rw [endPlaceCondition_eq]
  split
  · by_cases h : (s.place p).state = .suspended
    · rw [resumePlace_unwatched (by exact h) (by rw [conditionEnded_unwatched h])]
      simp [conditionEnded]
    · rw [resumePlace_other (by exact h)]
      simp [conditionEnded]
  · simp [conditionEnded]

theorem endPlaceCondition_fault (s : State) (p : PlaceId) : (endPlaceCondition s p).fault (.placeNotReady p) =
    { s.fault (.placeNotReady p) with condition := false } := by
  rw [endPlaceCondition_eq, ← conditionEnded_fault]
  split
  · exact (noted_resumeEnded s p).fault _ (by simp)
  · rfl

end Sys2Proof.Laws

open Sys2Proof Sys2Proof.Machine Sys2Proof.Safety Sys2Proof.Laws

/-- Settles O46: the input moves the watch by its state, and the timer raises the fault or ends its condition. -/
theorem placeReadyWatch : Obligations.PlaceReadyWatch := by
  unfold Obligations.PlaceReadyWatch
  intro s p up down watch
  refine ⟨congrArg Host.Outcome.next ?_, congrArg Host.Outcome.next ?_,
    fun h h' => congrArg Host.Outcome.next (placeReadyTimer_halted h h'), fun h => ?_, fun h => ?_⟩
  · unfold placeReadyRise
    dsimp only
    cases (s.watch p).state <;> rfl
  · unfold placeReadyFall
    dsimp only
    cases (s.watch p).state <;> rfl
  · have row : exec (.placeReadyTimer p) s = .next _ := congrArg Host.Outcome.next (placeReadyTimer_dropping h)
    generalize hu : setWatch (timed s p) p ⟨.notReady, 0⟩ = u at row
    have scope : u.policy.scope = s.policy.scope := by simp [State.policy, ← hu, timed]
    have watch : u.watch p = ⟨.notReady, 0⟩ := by rw [← hu, watch_setWatch, if_pos rfl]
    have place : ∀ q, u.place q = s.place q := fun q => place_congr (by simp [← hu, timed]) q
    refine ⟨_, row, ?_, ?_, by simp [← hu, timed], by simp [← hu, timed], by simp [← hu, timed], fun hs => ?_, fun hs => ?_⟩
    · rw [runSearch_watch, raise_watch (unmoved_of_live (.inl (by rw [watch]))), watch]
    · rw [fault_of_part (runSearch_part _), raise_fault]
    · obtain ⟨part, self, others⟩ := raise_place_effects (scope.trans hs) p
      refine ⟨?_, ?_, fun q hq => ?_⟩
      · simpa [← hu, timed] using part
      · rw [runSearch_state, self, place]
        rfl
      · rw [runSearch_state, others q hq, place]
    · obtain ⟨part, frame⟩ := raise_cell_station (scope.trans hs) p
      refine ⟨by simpa using part, hasFrame_runSearch rfl frame, fun q hq => ?_⟩
      rw [runSearch_state, (raise_cell_place (scope.trans hs) p (by rwa [place])).1, place]
      rfl
  · have row : exec (.placeReadyTimer p) s = .next _ := congrArg Host.Outcome.next (placeReadyTimer_rising h)
    generalize hu : timed s p = u at row
    have policy : u.policy = s.policy := by simp [State.policy, ← hu, timed]
    have place : ∀ q, u.place q = s.place q := fun q => place_congr (by simp [← hu, timed]) q
    have fault : u.fault (.placeNotReady p) = s.fault (.placeNotReady p) := by rw [← hu, timed, elapse_fault]
    refine ⟨_, row, ?_, by simp [← hu, timed, endPlaceCondition_state], by simp [← hu, timed], fun hs auto suspended => ?_,
      fun latched => ?_⟩
    · rw [fault_of_part (runSearch_part _), endPlaceCondition_fault, fault]
    · rw [runSearch_state, endPlaceCondition_eq, if_pos (by rw [policy]; exact ⟨hs, auto⟩)]
      have suspended : (u.place p).state = .suspended := by rwa [place]
      rw [resumePlace_unwatched (by exact suspended) (by rw [conditionEnded_unwatched suspended])]
      have resumed := place_setPlace_self (conditionEnded u p) p { u.place p with state := .building }
      exact congrArg Place.state ((place_congr (by simp; rfl) p).trans resumed)
    · have stays : endPlaceCondition u p = conditionEnded u p := by
        rw [endPlaceCondition_eq, policy]
        exact if_neg fun ⟨place, auto⟩ => by rcases latched with h | h <;> simp_all
      refine ⟨fun q => ?_, ?_⟩
      · rw [runSearch_state, stays, ← place]
        rfl
      · rw [runSearch_watch, stays, conditionEnded_watch, State.building, place]
        simp
end

section
/-! SUPPORT. The cancellation of a place's claims, slot by slot (R72, R112, R121). -/

namespace Sys2Proof.Laws

open Sys2Proof Sys2Proof.Machine Sys2Proof.Safety

variable {s t u : State} {p q : PlaceId} {j k : Nat} {x : Claim} {e : PendingEnd}

/-! ### The end of a claim before its win decision (R112) -/

/-- The entry with an end recorded, the first one kept. -/
def ending (x : Claim) (e : PendingEnd) : Claim := { x with pendingEnd := some (x.pendingEnd.getD e) }

theorem endUncommitted_sending (hc : s.claimAt k = some x) (hx : x.state = .sending) :
    (endUncommitted s k e).claimAt k = some (ending x e) := by
  unfold endUncommitted
  rw [hc]
  simp only [hx]
  exact claimAt_modified hc fun _ => rfl

theorem endUncommitted_waits (hc : s.claimAt k = some x) (hx : x.state = .queued) (hi : ¬HasIdle k s) :
    (endUncommitted s k e).claimAt k = some (ending x e) := by
  unfold endUncommitted
  rw [hc]
  simp only [hx, if_neg (fun any => hi (hasIdle_iff.2 any))]
  exact claimAt_modified hc fun _ => rfl

theorem endUncommitted_leaves (hc : s.claimAt k = some x) (hx : x.state = .queued) (hi : HasIdle k s) :
    (endUncommitted s k e).claimAt k = none := by
  unfold endUncommitted
  rw [hc]
  simp only [hx, if_pos (hasIdle_iff.1 hi)]
  exact claimAt_without_self (claimAt_slot hc ▸ leaveWithEnd_claims _ x _)

/-! ### One claim cancelled (R121) -/

/-- What the cancellation of its place makes of the entry x of slot k. -/
structure CancelledAt (k : Nat) (x : Claim) (s t : State) : Prop where
  armed : x.state = .armed → t.claimAt k = none ∧ HasFrame (.release k .cancelled) t
  standing : x.state = .committed ∨ x.state = .firing → t.claimAt k = some x
  left : x.state = .queued → HasIdle k s → t.claimAt k = none
  marked : x.state = .sending ∨ (x.state = .queued ∧ ¬HasIdle k s) → t.claimAt k = some (ending x .cancelled)

theorem cancelClaim_uncommitted (hc : s.claimAt k = some x) (hx : x.state = .queued ∨ x.state = .sending) :
    cancelClaim s k = endUncommitted s k .cancelled := by
  unfold cancelClaim
  rw [hc]
  rcases hx with hx | hx <;> simp only [hx]

theorem cancelClaim_armed (hc : s.claimAt k = some x) (hx : x.state = .armed) :
    cancelClaim s k = offerFrame (leaveClaim s x) (.release k .cancelled) := by
  unfold cancelClaim
  rw [hc]
  simp only [hx]

theorem cancelClaim_standing (hc : s.claimAt k = some x) (hx : x.state = .committed ∨ x.state = .firing) :
    cancelClaim s k = s := by
  unfold cancelClaim
  rw [hc]
  rcases hx with hx | hx <;> simp only [hx]

theorem cancelledAt_cancelClaim (hc : s.claimAt k = some x) : CancelledAt k x s (cancelClaim s k) where
  armed hx := by
    rw [cancelClaim_armed hc hx]
    have left := slotKept_offerFrame (slotKept_refl k (leaveClaim s x)) (g := .release k .cancelled) rfl
    exact ⟨left.claim.trans (claimAt_without_self (claimAt_slot hc ▸ leaveClaim_claims s x)), hasFrame_offered rfl _⟩
  standing hx := by rwa [cancelClaim_standing hc hx]
  left hx hi := by
    rw [cancelClaim_uncommitted hc (.inl hx)]
    exact endUncommitted_leaves hc hx hi
  marked hx := by
    rcases hx with hx | ⟨hx, hi⟩
    · rw [cancelClaim_uncommitted hc (.inr hx)]
      exact endUncommitted_sending hc hx
    · rw [cancelClaim_uncommitted hc (.inl hx)]
      exact endUncommitted_waits hc hx hi

/-- Later operations leave the slot and the lasting frames. -/
theorem cancelledAt_later (h : CancelledAt k x s t) (hk : SlotKept k t u)
    (hf : HasFrame (.release k .cancelled) t → HasFrame (.release k .cancelled) u) : CancelledAt k x s u where
  armed hx := ⟨hk.claim.trans (h.armed hx).1, hf (h.armed hx).2⟩
  standing hx := hk.claim.trans (h.standing hx)
  left hx hi := hk.claim.trans (h.left hx hi)
  marked hx := hk.claim.trans (h.marked hx)

theorem cancelledAt_earlier (h : CancelledAt k x t u) (hk : SlotKept k s t) : CancelledAt k x s u where
  armed := h.armed
  standing := h.standing
  left hx hi := h.left hx ((hasIdle_congr hk.frames).2 hi)
  marked hx := h.marked (hx.imp_right fun ⟨hx, hi⟩ => ⟨hx, fun hi' => hi ((hasIdle_congr hk.frames).1 hi')⟩)

/-! ### Every claim of a place (R121) -/

theorem slotKept_cancelClaim (h : SlotKept k s t) (hj : j ≠ k) : SlotKept k s (cancelClaim t j) := by
  unfold cancelClaim
  split
  · exact h
  next c hc =>
    split
    · exact slotKept_endUncommitted h hj _
    · exact slotKept_endUncommitted h hj _
    · exact slotKept_offerFrame (slotKept_leaveClaim h (claimAt_slot hc ▸ hj)) rfl
    all_goals exact h

theorem hasFrame_endUncommitted {f : OutFrame} (hf : Lasting f = true) (h : HasFrame f s) (k : Nat) (e : PendingEnd) :
    HasFrame f (endUncommitted s k e) := by
  unfold endUncommitted
  split
  · exact h
  next c _ =>
    have asked := hasFrame_askWithdrawal hf (s := modifyClaim s k fun d => { d with pendingEnd := some (c.pendingEnd.getD e) })
      (hasFrame_congr h (by simp)) k
    simp only [modifyClaim_frame] at asked
    dsimp only
    split
    · split
      · exact hasFrame_leaveWithEnd asked _ _
      · exact asked
    · exact hasFrame_congr h (by simp)
    all_goals exact h

theorem hasFrame_cancelClaim {f : OutFrame} (hf : Lasting f = true) (h : HasFrame f s) (k : Nat) :
    HasFrame f (cancelClaim s k) := by
  unfold cancelClaim
  split
  · exact h
  · split
    · exact hasFrame_endUncommitted hf h k _
    · exact hasFrame_endUncommitted hf h k _
    · exact hasFrame_offerFrame hf (hasFrame_leaveClaim h _) _
    all_goals exact h

theorem slotKept_cancelAll {l : List Nat} (hl : k ∉ l) (s : State) : SlotKept k s (l.foldl cancelClaim s) :=
  slotKept_foldl (fun _ _ hj hu => slotKept_cancelClaim hu fun e => hl (e ▸ hj)) (slotKept_refl k s)

theorem hasFrame_cancelAll {f : OutFrame} (hf : Lasting f = true) (h : HasFrame f s) (l : List Nat) :
    HasFrame f (l.foldl cancelClaim s) := foldl_induct (P := HasFrame f) (fun _ k hu => hasFrame_cancelClaim hf hu k) l h

theorem cancelledAt_cancelAll {l : List Nat} (hl : l.Nodup) (hk : k ∈ l) (hc : s.claimAt k = some x) :
    CancelledAt k x s (l.foldl cancelClaim s) := by
  induction l generalizing s with
  | nil => cases hk
  | cons j l ih =>
    rw [List.nodup_cons] at hl
    rw [List.foldl_cons]
    by_cases hj : j = k
    · subst hj
      exact cancelledAt_later (cancelledAt_cancelClaim hc) (slotKept_cancelAll hl.1 _) fun h => hasFrame_cancelAll rfl h l
    · have kept := slotKept_cancelClaim (slotKept_refl k s) hj
      exact cancelledAt_earlier (ih hl.2 ((List.mem_cons.1 hk).resolve_left (Ne.symm hj)) (kept.claim.trans hc)) kept

/-- The slots of the claims of a place, in fire order. -/
def placeSlots (s : State) (p : PlaceId) : List Nat :=
  ((fireOrder s).filter (fun c => decide (c.target.place = p))).map (·.slot)

theorem cancelClaimsOf_eq (s : State) (p : PlaceId) : cancelClaimsOf s p = (placeSlots s p).foldl cancelClaim s := rfl

theorem nodup_placeSlots (h : (s.contest.claims.map (·.slot)).Nodup) (p : PlaceId) : (placeSlots s p).Nodup :=
  ((claimSlots_perm s).nodup_iff.2 h).sublist (List.filter_sublist.map _)

theorem mem_placeSlots (h : (s.contest.claims.map (·.slot)).Nodup) (hc : s.claimAt k = some x) :
    k ∈ placeSlots s p ↔ x.target.place = p := by
  simp only [placeSlots, List.mem_map, List.mem_filter, decide_eq_true_eq, fireOrder, (sortBy_perm _ _).mem_iff]
  constructor
  · rintro ⟨y, ⟨hy, hp⟩, rfl⟩
    rwa [← Option.some.inj ((claimAt_of_mem h hy).symm.trans hc)]
  · exact fun hp => ⟨x, ⟨claimAt_mem hc, hp⟩, claimAt_slot hc⟩

theorem not_mem_placeSlots (h : s.claimAt k = none) : k ∉ placeSlots s p := by
  simp only [placeSlots, List.mem_map, List.mem_filter, fireOrder, (sortBy_perm _ _).mem_iff]
  rintro ⟨y, ⟨hy, -⟩, rfl⟩
  exact (claimAt_none_iff s _).1 h (List.mem_map_of_mem hy)

theorem cancelledAt_cancelClaimsOf (h : (s.contest.claims.map (·.slot)).Nodup) (hc : s.claimAt k = some x)
    (hp : x.target.place = p) : CancelledAt k x s (cancelClaimsOf s p) :=
  cancelledAt_cancelAll (nodup_placeSlots h p) ((mem_placeSlots h hc).2 hp) hc

theorem slotKept_cancelClaimsOf (h : (s.contest.claims.map (·.slot)).Nodup)
    (hk : ∀ x, s.claimAt k = some x → x.target.place ≠ p) : SlotKept k s (cancelClaimsOf s p) := by
  refine slotKept_cancelAll (fun hm => ?_) s
  cases hc : s.claimAt k with
  | none => exact not_mem_placeSlots hc hm
  | some x => exact hk x hc ((mem_placeSlots h hc).1 hm)

/-! ### No claim comes of a cancellation -/

/-- Every claim of t is one of s, but for its marks. -/
def ClaimsFrom (s t : State) : Prop := ∀ y ∈ t.contest.claims,
  ∃ x ∈ s.contest.claims, x.slot = y.slot ∧ x.target = y.target ∧ x.firePos = y.firePos

theorem claimsFrom_refl (s : State) : ClaimsFrom s s := fun y hy => ⟨y, hy, rfl, rfl, rfl⟩

theorem claimsFrom_subset (h : ClaimsFrom s t) (hu : ∀ y ∈ u.contest.claims, y ∈ t.contest.claims) : ClaimsFrom s u :=
  fun y hy => h y (hu y hy)

theorem claimsFrom_modifyClaim (h : ClaimsFrom s t) (k : Nat) {f : Claim → Claim}
    (hf : ∀ d, (f d).slot = d.slot ∧ (f d).target = d.target ∧ (f d).firePos = d.firePos) :
    ClaimsFrom s (modifyClaim t k f) := by
  intro y hy
  obtain ⟨z, hz, rfl⟩ := List.mem_map.1 hy
  obtain ⟨x, hx, same⟩ := h z hz
  obtain ⟨slot, target, firePos⟩ := hf z
  refine ⟨x, hx, ?_⟩
  split
  · rw [slot, target, firePos]
    exact same
  · exact same

theorem claimsFrom_leaveWithEnd (h : ClaimsFrom s t) (c : Claim) (e : PendingEnd) : ClaimsFrom s (leaveWithEnd t c e) :=
  claimsFrom_subset h fun y hy => by
    rw [leaveWithEnd_claims] at hy
    exact List.mem_of_mem_filter hy

theorem claimsFrom_endUncommitted (h : ClaimsFrom s t) (k : Nat) (e : PendingEnd) : ClaimsFrom s (endUncommitted t k e) := by
  unfold endUncommitted
  split
  · exact h
  next c _ =>
    have marked := claimsFrom_modifyClaim h k (f := fun d => { d with pendingEnd := some (c.pendingEnd.getD e) })
      fun _ => ⟨rfl, rfl, rfl⟩
    have asked : ClaimsFrom s (setTx (modifyClaim t k fun d => { d with pendingEnd := some (c.pendingEnd.getD e) })
        (askWithdrawal (OutFrame.isClaimFor k) t.line.tx)) := claimsFrom_subset marked fun _ => id
    dsimp only
    split
    · split
      · exact claimsFrom_leaveWithEnd asked _ _
      · exact asked
    · exact marked
    all_goals exact h

theorem claimsFrom_cancelClaim (h : ClaimsFrom s t) (k : Nat) : ClaimsFrom s (cancelClaim t k) := by
  unfold cancelClaim
  split
  · exact h
  · split
    · exact claimsFrom_endUncommitted h k _
    · exact claimsFrom_endUncommitted h k _
    · refine claimsFrom_subset h fun y hy => ?_
      simp only [offerFrame_frame, leaveClaim_claims] at hy
      exact List.mem_of_mem_filter hy
    all_goals exact h

theorem claimsFrom_cancelClaimsOf (s : State) (p : PlaceId) : ClaimsFrom s (cancelClaimsOf s p) :=
  foldl_induct (P := ClaimsFrom s) (fun _ k hu => claimsFrom_cancelClaim hu k) _ (claimsFrom_refl s)

end Sys2Proof.Laws
end

section
/-! SUPPORT. The records and claims of a place as it is suspended and resumed (R35, R36, R147, R148, R171, R175). -/

namespace Sys2Proof.Laws

open Sys2Proof Sys2Proof.Machine Sys2Proof.Safety

variable {s s₀ t u : State} {p q : PlaceId} {j k n : Nat} {x : Claim}

/-! ### A suspension (R35) -/

/-- A PLACEABLE record of a place becomes WAITING (R148). -/
def demoted (p : PlaceId) (r : StagingRecord) : StagingRecord :=
  if r.forPlace p = true ∧ r.state = .placeable then { r with state := .waiting } else r

theorem demoteRecords_records (s : State) (p : PlaceId) :
    (demoteRecords s p).staging.records = s.staging.records.map (demoted p) := by
  refine List.map_congr_left fun r _ => ?_
  simp only [demoted, Bool.and_eq_true, decide_eq_true_eq]

theorem suspendPlace_records (h : (s.place p).state = .building) :
    (suspendPlace s p).staging.records = s.staging.records.map (demoted p) := by
  rw [suspendPlace_building h, demoteRecords_records]
  simp

/-- The place as the claims are cancelled. -/
theorem slotKept_toSuspended (k : Nat) (s : State) (p : PlaceId) :
    SlotKept k s (stopWatch (setPlaceState s p .suspended) p) := slotKept_frame (slotKept_refl k s) (by simp)

abbrev OncePerSlot (s : State) : Prop := (s.contest.claims.map (·.slot)).Nodup

theorem cancelledAt_suspendPlace (hn : OncePerSlot s) (hb : (s.place p).state = .building) (hc : s.claimAt k = some x)
    (hp : x.target.place = p) : CancelledAt k x s (suspendPlace s p) := by
  have kept := slotKept_toSuspended k s p
  rw [suspendPlace_building hb]
  have cancelled := cancelledAt_earlier
    (cancelledAt_cancelClaimsOf (s := stopWatch (setPlaceState s p .suspended) p) (by simpa using hn)
      (kept.claim.trans hc) hp) kept
  exact cancelledAt_later cancelled (slotKept_frame (slotKept_refl k _) (by simp)) fun h => hasFrame_congr h (by simp)

theorem slotKept_suspendPlace (hn : OncePerSlot s)
    (hk : ∀ x, s.claimAt k = some x → (s.place p).state = .building → x.target.place ≠ p) :
    SlotKept k s (suspendPlace s p) := by
  by_cases hb : (s.place p).state = .building
  · have kept := slotKept_toSuspended k s p
    rw [suspendPlace_building hb]
    have others := slotKept_cancelClaimsOf (s := stopWatch (setPlaceState s p .suspended) p) (p := p) (by simpa using hn)
      fun x hx => hk x (kept.claim.symm.trans hx) hb
    exact slotKept_frame (slotKept_trans kept others) (by simp)
  · rw [suspendPlace_other hb]
    exact slotKept_refl k s

theorem claimsFrom_congr (h : ClaimsFrom s t) (e : s.contest.claims = s₀.contest.claims) : ClaimsFrom s₀ t :=
  fun y hy => by
    obtain ⟨x, hx, same⟩ := h y hy
    exact ⟨x, e ▸ hx, same⟩

theorem claimsFrom_suspendPlace (s : State) (p : PlaceId) : ClaimsFrom s (suspendPlace s p) := by
  by_cases hb : (s.place p).state = .building
  · rw [suspendPlace_building hb]
    have cancelled := claimsFrom_congr (s₀ := s) (claimsFrom_cancelClaimsOf (stopWatch (setPlaceState s p .suspended) p) p)
      (by simp)
    exact claimsFrom_subset cancelled fun y hy => by simpa using hy
  · rw [suspendPlace_other hb]
    exact claimsFrom_refl s

/-! ### Every place BUILDING suspended (R171) -/

/-- A PLACEABLE record of a place of the list that is BUILDING becomes WAITING. -/
def demotedIn (l : List PlaceId) (s : State) (r : StagingRecord) : StagingRecord :=
  if (∃ q ∈ l, r.forPlace q = true ∧ (s.place q).state = .building) ∧ r.state = .placeable then
    { r with state := .waiting } else r

theorem forPlace_unique {r : StagingRecord} (hp : r.forPlace p = true) (hq : r.forPlace q = true) : p = q := by
  unfold StagingRecord.forPlace at hp hq
  cases ht : r.target with
  | none => simp [ht] at hp
  | some g =>
    simp only [ht, decide_eq_true_eq] at hp hq
    exact hp.symm.trans hq

theorem demoted_forPlace (r : StagingRecord) : (demoted p r).forPlace q = r.forPlace q := by
  unfold demoted
  split <;> rfl

theorem demotedIn_cons (l : List PlaceId) (r : StagingRecord) (hb : (s.place p).state = .building)
    (ht : ∀ q, (t.place q).state = if q = p then .suspended else (s.place q).state) :
    demotedIn l t (demoted p r) = demotedIn (p :: l) s r := by
  by_cases hp : r.forPlace p = true
  · have at_p : ∀ q, r.forPlace q = true → q = p := fun q hq => forPlace_unique hq hp
    have left : demotedIn (p :: l) s r = demoted p r := by
      unfold demotedIn demoted
      simp [hp, hb]
    rw [left]
    refine if_neg fun ⟨⟨q, hq, hf, building⟩, _⟩ => ?_
    rw [demoted_forPlace] at hf
    rw [ht, if_pos (at_p q hf)] at building
    cases building
  · have same : demoted p r = r := if_neg fun h => hp h.1
    rw [same]
    unfold demotedIn
    congr 2
    refine propext ⟨fun ⟨q, hq, hf, building⟩ => ?_, fun ⟨q, hq, hf, building⟩ => ?_⟩
    · have hne : q ≠ p := fun e => hp (e ▸ hf)
      rw [ht, if_neg hne] at building
      exact ⟨q, List.mem_cons_of_mem p hq, hf, building⟩
    · have hne : q ≠ p := fun e => hp (e ▸ hf)
      refine ⟨q, (List.mem_cons.1 hq).resolve_left hne, hf, ?_⟩
      rwa [ht, if_neg hne]

theorem suspendPlace_state (hb : (s.place p).state = .building) (q : PlaceId) :
    ((suspendPlace s p).place q).state = if q = p then .suspended else (s.place q).state := by
  by_cases hq : q = p
  · rw [hq, suspendPlace_state_self, hb, if_pos rfl]
    rfl
  · rw [state_of_header (header_of_core_place (suspendPlace_core_ne s hq)), if_neg hq]

theorem suspendAll_records (l : List PlaceId) (s : State) :
    (l.foldl suspendPlace s).staging.records = s.staging.records.map (demotedIn l s) := by
  induction l generalizing s with
  | nil =>
    have same : demotedIn [] s = id := funext fun r => if_neg fun ⟨⟨q, hq, _⟩, _⟩ => nomatch hq
    rw [same, List.map_id]
    rfl
  | cons p l ih =>
    rw [List.foldl_cons, ih]
    by_cases hb : (s.place p).state = .building
    · rw [suspendPlace_records hb, List.map_map]
      exact List.map_congr_left fun r _ => demotedIn_cons l r hb (suspendPlace_state hb)
    · rw [suspendPlace_other hb]
      refine List.map_congr_left fun r _ => ?_
      unfold demotedIn
      simp [hb]

/-- An entry that left with its RELEASE queued. -/
def Released (k : Nat) (s : State) : Prop := s.claimAt k = none ∧ HasFrame (.release k .cancelled) s

theorem released_suspendPlace (hr : Running s) (h : Released k s) (p : PlaceId) : Released k (suspendPlace s p) := by
  obtain ⟨gone, frame⟩ := h
  have kept := slotKept_suspendPlace (p := p) hr.tables.once (k := k) fun x hx => by
    rw [gone] at hx
    cases hx
  refine ⟨kept.claim.trans gone, ?_⟩
  by_cases hb : (s.place p).state = .building
  · rw [suspendPlace_building hb]
    have cancelled := hasFrame_cancelAll (f := .release k .cancelled) rfl
      (hasFrame_congr frame (by simp) : HasFrame _ (stopWatch (setPlaceState s p .suspended) p))
      (placeSlots (stopWatch (setPlaceState s p .suspended) p) p)
    exact hasFrame_congr cancelled (by simp [cancelClaimsOf_eq])
  · rwa [suspendPlace_other hb]

/-- R171: every ARMED claim of a place BUILDING leaves. -/
theorem released_suspendAll (l : List PlaceId) (hr : Running s) (hc : s.claimAt k = some x) (hx : x.state = .armed)
    (hm : x.target.place ∈ l) (hb : (s.place x.target.place).state = .building) :
    Released k (l.foldl suspendPlace s) := by
  induction l generalizing s with
  | nil => cases hm
  | cons p l ih =>
    rw [List.foldl_cons]
    by_cases hp : x.target.place = p
    · subst hp
      have gone : Released k (suspendPlace s x.target.place) := (cancelledAt_suspendPlace hr.tables.once hb hc rfl).armed hx
      exact (foldl_induct (P := fun u => Running u ∧ Released k u)
        (fun u q hu => ⟨running_suspendPlace hu.1 q, released_suspendPlace hu.1 hu.2 q⟩) l
        ⟨running_suspendPlace hr _, gone⟩).2
    · have kept := slotKept_suspendPlace (p := p) hr.tables.once (k := k) fun y hy _ => by
        rwa [Option.some.inj (hy.symm.trans hc)]
      refine ih (running_suspendPlace hr p) (kept.claim.trans hc) ((List.mem_cons.1 hm).resolve_left hp) ?_
      rw [state_of_header (header_of_core_place (suspendPlace_core_ne s hp)), hb]

theorem withdrawClaim_none (h : s.claimAt k = none) : withdrawClaim s k = s := by
  unfold withdrawClaim
  rw [h]

theorem slotKept_withdrawClaim (h : SlotKept k s t) (hj : j ≠ k) : SlotKept k s (withdrawClaim t j) := by
  unfold withdrawClaim
  split
  · exact h
  next c hc =>
    split
    · exact slotKept_endAndTest h hj _
    · exact slotKept_endAndTest h hj _
    · exact slotKept_cancelTest (slotKept_offerFrame (slotKept_leaveClaim h (claimAt_slot hc ▸ hj)) rfl) _
    all_goals exact h

theorem withdrawClaims_none (h : s.claimAt k = none) : (withdrawClaims s).claimAt k = none :=
  foldl_induct (P := fun u => u.claimAt k = none) (fun u j hu => by
    by_cases hj : j = k
    · rwa [hj, withdrawClaim_none hu]
    · exact (slotKept_withdrawClaim (slotKept_refl k u) hj).claim.trans hu) _ h

theorem hasFrame_moveTo {f : OutFrame} (h : HasFrame f s) (st : Participation) : HasFrame f (moveTo s st) :=
  hasFrame_congr h (by simp)

theorem lasting_not_participation {f : OutFrame} (hf : Lasting f = true) (hw : ∀ r, f ≠ .withdraw r) (h : HasFrame f s)
    (r : Nat) : HasFrame f (offerWithdraw s r) := by
  refine hasFrame_offerFrame hf ?_ _
  rw [hasFrame_iff] at h ⊢
  rwa [framesBy_askWithdrawal]
  intro g hg
  rw [decide_eq_false_iff_not]
  rintro rfl
  cases g <;> simp_all [OutFrame.isParticipation, Lasting]

theorem released_orderlyWithdraw (h : Released k s) (r : Nat) : Released k (orderlyWithdraw s r) := by
  obtain ⟨gone, frame⟩ := h
  have offered : ∀ u, HasFrame (.release k .cancelled) u → HasFrame (.release k .cancelled) (offerWithdraw u r) :=
    fun u hu => lasting_not_participation rfl (by simp) hu r
  unfold orderlyWithdraw
  split
  · exact ⟨(claimAt_congr (by simp) k).trans gone, offered s frame⟩
  · have begun : (offerWithdraw (moveTo s .withdrawn) r).claimAt k = none := (claimAt_congr (by simp) k).trans gone
    exact ⟨(claimAt_congr (by simp) k).trans (withdrawClaims_none begun), hasFrame_withdrawAnnounces rfl
      (hasFrame_withdrawClaims rfl (offered _ (hasFrame_moveTo frame _))) fun _ => id⟩

/-! ### Notices offered one after another -/

/-- R186: the notices of a list all join a queue with room for them. -/
theorem offered_notices {α : Type} (f : α → Notice) (l : List α) (h : s.port.notices.length + l.length ≤ 32) :
    (l.foldl (fun u a => offerNotice u (f a)) s).port.notices = s.port.notices ++ l.map f := by
  induction l generalizing s with
  | nil => simp
  | cons a l ih =>
    rw [List.length_cons] at h
    have joined : (offerNotice s (f a)).port.notices = s.port.notices ++ [f a] := by
      rw [offerNotice_room (by omega)]
      rfl
    rw [List.foldl_cons, ih (by rw [joined, List.length_append, List.length_singleton]; omega), joined]
    simp

theorem promoteRecords_notices (h : s.port.notices.length +
      (s.staging.records.filter (fun r => r.forTier p n && decide (r.state = .waiting))).length ≤ 32) :
    (promoteRecords s p n).port.notices = s.port.notices ++
      (s.staging.records.filter (fun r => r.forTier p n && decide (r.state = .waiting))).map
        (fun r => .casePlaceable r.arrival) :=
  offered_notices _ _ h

/-! ### CLEAR FAULTS (R175) -/

theorem fault_clearEntry (s : State) (f g : FaultId) :
    (clearEntry s f).fault g = if f = g then (s.fault f).cleared else s.fault g := by
  unfold clearEntry
  split
  next e => rw [← e, fault_setFault_self]
  next e => exact fault_setFault_ne s e _

theorem cleared_cleared (e : FaultEntry) : e.cleared.cleared = e.cleared := by
  simp [FaultEntry.cleared]

/-- R175: each entry of the record is cleared. -/
theorem fault_clearRecord (s : State) (f : FaultId) : (clearRecord s).fault f = (s.fault f).cleared := by
  have cleared : ∀ (l : List FaultId) (u : State),
      (l.foldl clearEntry u).fault f = if f ∈ l then (u.fault f).cleared else u.fault f := by
    intro l
    induction l with
    | nil => exact fun u => by simp
    | cons g l ih =>
      intro u
      rw [List.foldl_cons, ih, fault_clearEntry]
      by_cases hg : g = f
      · subst hg
        simp [cleared_cleared]
      · simp [hg, Ne.symm hg]
  rw [clearRecord, cleared, if_pos]
  exact List.mem_of_getElem? (all_index f)

@[simp] theorem clearRecord_frame (s : State) : (clearRecord s).plans = s.plans ∧ (clearRecord s).staging = s.staging ∧
    (clearRecord s).contest = s.contest ∧ (clearRecord s).pins = s.pins ∧ (clearRecord s).config = s.config := by
  simp [clearRecord, clearEntry]

end Sys2Proof.Laws
end

section
/-! SUPPORT. Every SUSPENDED place resumed (R36, R171), and the rows and CLEAR FAULTS that suspend and resume (R169, R170, R175). -/

namespace Sys2Proof.Laws

open Sys2Proof Sys2Proof.Machine Sys2Proof.Safety

variable {s s₀ t u : State} {p q : PlaceId} {j k n : Nat} {x : Claim}

/-! ### A place resumed with no live watch (R36, R169) -/

/-- A place ready to be resumed: where it is SUSPENDED, its watch is UNWATCHED and it has a current tier. -/
def Resumes (s : State) (p : PlaceId) : Prop :=
  (s.place p).state = .suspended → (s.watch p).state = .unwatched ∧ (s.place p).currentTier.isSome = true

theorem resumePlace_place (hw : (s.watch p).state = .unwatched) (h : (s.place p).state = .suspended) (q : PlaceId) :
    (resumePlace s p).place q = if p = q then { s.place p with state := .building } else s.place q := by
  rw [resumePlace_unwatched h hw, ← place_setPlace]
  exact place_congr (by simp [setPlaceState]) q

theorem promoteRecords_watch (s : State) (p q : PlaceId) (n : Nat) : (promoteRecords s p n).watch q = s.watch q :=
  watch_congr (foldl_keeps (fun u : State => u.part.watches) (fun u _ => offerNotice_watches u _) _ _) q

theorem resumePlace_watch (hw : (s.watch p).state = .unwatched) (h : (s.place p).state = .suspended) (q : PlaceId) :
    (resumePlace s p).watch q =
      if p = q then ⟨if s.pins.placeReady[p] then .ready else .dropping, 0⟩ else s.watch q := by
  rw [resumePlace_unwatched h hw]
  refine (watch_setWatch _ p q _).trans ?_
  rw [promoteRecords_watch]
  rfl

theorem resumePlace_records (hw : (s.watch p).state = .unwatched) (h : (s.place p).state = .suspended)
    (hn : (s.place p).currentTier = some n) :
    (resumePlace s p).staging.records = s.staging.records.map (promoted p n) := by
  rw [resumePlace_unwatched h hw, hn]
  simp [promoteRecords_staging]

/-- A record of the current tier of a place of the list that is SUSPENDED becomes PLACEABLE where it is WAITING. -/
def resumedIn (l : List PlaceId) (s : State) (r : StagingRecord) : StagingRecord :=
  match r.target with
  | some g =>
    if g.place ∈ l ∧ (s.place g.place).state = .suspended ∧ (s.place g.place).currentTier = some g.tier ∧ r.state = .waiting
    then { r with state := .placeable } else r
  | none => r

theorem resumedIn_line {g : Target} {r : StagingRecord} (hg : r.target = some g) (l : List PlaceId) (s : State) :
    resumedIn l s r =
      if g.place ∈ l ∧ (s.place g.place).state = .suspended ∧ (s.place g.place).currentTier = some g.tier ∧ r.state = .waiting
      then { r with state := .placeable } else r := by
  simp only [resumedIn, hg]

theorem promoted_line {g : Target} {r : StagingRecord} (hg : r.target = some g) : promoted p n r =
    if g.place = p ∧ g.tier = n ∧ r.state = .waiting then { r with state := .placeable } else r := by
  simp only [promoted, StagingRecord.forTier, hg, Bool.and_eq_true, decide_eq_true_eq, and_assoc]

theorem promoted_orphan {r : StagingRecord} (hg : r.target = none) : promoted p n r = r := by
  simp [promoted, StagingRecord.forTier, hg]

theorem promoted_target (r : StagingRecord) : (promoted p n r).target = r.target := by
  unfold promoted
  split <;> rfl

theorem resumedIn_cons (l : List PlaceId) (r : StagingRecord) (h : (s.place p).state = .suspended)
    (hn : (s.place p).currentTier = some n)
    (ht : ∀ q, t.place q = if p = q then { s.place p with state := .building } else s.place q) :
    resumedIn l t (promoted p n r) = resumedIn (p :: l) s r := by
  cases hg : r.target with
  | none =>
    rw [promoted_orphan hg]
    simp only [resumedIn, hg]
  | some g =>
    rw [resumedIn_line ((promoted_target r).trans hg), resumedIn_line hg]
    by_cases hp : g.place = p
    · rw [if_neg fun ⟨_, suspended, _⟩ => by simp [ht, hp] at suspended, promoted_line hg]
      simp [hp, h, hn, eq_comm]
    · have same : promoted p n r = r := by rw [promoted_line hg, if_neg fun h => hp h.1]
      simp [same, hp, Ne.symm hp, ht]

/-- R171: every place of a list that is SUSPENDED is resumed, with its records. -/
theorem resumeAll_effects (l : List PlaceId) (s : State) (h : ∀ q, Resumes s q) :
    (∀ q, ((l.foldl resumePlace s).place q).state =
      if q ∈ l ∧ (s.place q).state = .suspended then .building else (s.place q).state) ∧
      (l.foldl resumePlace s).staging.records = s.staging.records.map (resumedIn l s) := by
  induction l generalizing s with
  | nil =>
    have same : resumedIn [] s = id := funext fun r => by
      unfold resumedIn
      split <;> simp
    exact ⟨fun q => by simp, by rw [same, List.map_id]; rfl⟩
  | cons p l ih =>
    rw [List.foldl_cons]
    by_cases hp : (s.place p).state = .suspended
    · obtain ⟨hw, tier⟩ := h p hp
      obtain ⟨n, hn⟩ := Option.isSome_iff_exists.1 tier
      have places := resumePlace_place hw hp
      obtain ⟨states, records⟩ := ih (resumePlace s p) fun q hq => by
        rw [places] at hq
        split at hq
        · cases hq
        next hne =>
          rw [places, resumePlace_watch hw hp, if_neg hne, if_neg hne]
          exact h q hq
      refine ⟨fun q => ?_, ?_⟩
      · rw [states, places]
        by_cases hq : p = q
        · subst hq
          simp [hp]
        · simp [hq, Ne.symm hq]
      · rw [records, resumePlace_records hw hp hn, List.map_map]
        exact List.map_congr_left fun r _ => resumedIn_cons l r hp hn places
    · rw [resumePlace_other hp]
      obtain ⟨states, records⟩ := ih s h
      refine ⟨fun q => ?_, ?_⟩
      · rw [states]
        by_cases hq : q = p
        · subst hq
          simp [hp]
        · simp [hq]
      · rw [records]
        refine List.map_congr_left fun r _ => ?_
        unfold resumedIn
        split
        next g _ =>
          by_cases hg : g.place = p
          · simp [hg, hp]
          · simp [hg]
        next => rfl

/-! ### The raising in PLACE scope (R169, R170) -/

/-- The state at a raising by the place-ready timer, its watch moved. -/
def dropped (s : State) (p : PlaceId) : State := setWatch (timed s p) p ⟨.notReady, 0⟩

@[simp] theorem dropped_frame (s : State) (p : PlaceId) : (dropped s p).config = s.config ∧ (dropped s p).pins = s.pins ∧
    (dropped s p).plans = s.plans ∧ (dropped s p).contest = s.contest ∧ (dropped s p).staging = s.staging ∧
    (dropped s p).part.state = s.part.state ∧ (dropped s p).line.tx = s.line.tx := by
  simp [dropped, timed]

theorem dropped_scope (s : State) (p : PlaceId) : (dropped s p).policy.scope = s.policy.scope := by
  simp [State.policy]

/-- The state as the fault is recorded. -/
def raisedAt (s : State) (p : PlaceId) : State := recordFault (dropped s p) (.placeNotReady p) p.val

theorem running_raisedAt (h : Running s) (p : PlaceId) : Running (raisedAt s p) :=
  running_recordFault (running_setWatch (running_elapse h _) p _) _ _

theorem raisedAt_frame (s : State) (p : PlaceId) : (raisedAt s p).plans = s.plans ∧ (raisedAt s p).contest = s.contest ∧
    (raisedAt s p).staging = s.staging ∧ (raisedAt s p).line.tx = s.line.tx := by
  simp [raisedAt]

theorem raisedAt_place (s : State) (p q : PlaceId) : (raisedAt s p).place q = s.place q :=
  place_congr (by simp [raisedAt]) q

theorem slotKept_raisedAt (k : Nat) (s : State) (p : PlaceId) : SlotKept k s (raisedAt s p) :=
  ⟨claimAt_congr (by simp [raisedAt]) k, claimFrames_congr (by simp [raisedAt]), by simp [raisedAt]⟩

theorem placeReadyTimer_raises_place (hd : (s.watch p).state = .dropping) (hs : s.policy.scope = .place) :
    placeReadyTimer s p = runSearch (suspendPlace (raisedAt s p) p) :=
  (placeReadyTimer_dropping hd).trans (congrArg runSearch (raise_place ((dropped_scope s p).trans hs) p))

theorem placeReadyTimer_raises_cell (hd : (s.watch p).state = .dropping) (hs : s.policy.scope = .cell) :
    placeReadyTimer s p = runSearch (orderlyWithdraw (allPlaces.foldl suspendPlace (raisedAt s p)) 7) :=
  (placeReadyTimer_dropping hd).trans (congrArg runSearch (raise_cell ((dropped_scope s p).trans hs) p))

/-- The state of the event before its search, in PLACE scope. -/
def suspendedAt (s : State) (p : PlaceId) : State := suspendPlace (raisedAt s p) p

theorem suspendedAt_state (hb : (s.place p).state = .building) : ((suspendedAt s p).place p).state = .suspended := by
  rw [suspendedAt, suspendPlace_state_self, raisedAt_place, hb]
  rfl

/-- R105: a claim that a search makes is not for the place suspended. -/
theorem mem_claims_suspendedAt (hb : (s.place p).state = .building) {y : Claim}
    (hy : y ∈ (runSearch (suspendedAt s p)).contest.claims) (hp : y.target.place = p) :
    y ∈ (suspendedAt s p).contest.claims := by
  refine (mem_claims_runSearch hy).resolve_right fun ⟨_, building⟩ => ?_
  rw [hp, suspendedAt_state hb] at building
  cases building

theorem claimsFrom_suspendedAt (s : State) (p : PlaceId) : ClaimsFrom s (suspendedAt s p) :=
  claimsFrom_congr (claimsFrom_suspendPlace (raisedAt s p) p) (by simp [raisedAt])

theorem cancelledAt_suspendedAt (hr : Running s) (hb : (s.place p).state = .building) (hc : s.claimAt k = some x)
    (hp : x.target.place = p) : CancelledAt k x s (suspendedAt s p) := by
  have kept := slotKept_raisedAt k s p
  exact cancelledAt_earlier (cancelledAt_suspendPlace (running_raisedAt hr p).tables.once
    (by rwa [raisedAt_place]) (kept.claim.trans hc) hp) kept

theorem slotKept_suspendedAt (hr : Running s) (hc : s.claimAt k = some x) (hp : x.target.place ≠ p) :
    SlotKept k s (suspendedAt s p) := by
  have kept := slotKept_raisedAt k s p
  refine slotKept_trans kept (slotKept_suspendPlace (running_raisedAt hr p).tables.once fun y hy _ => ?_)
  rwa [Option.some.inj (hy.symm.trans (kept.claim.trans hc))]

theorem suspendedAt_records (hb : (s.place p).state = .building) :
    (suspendedAt s p).staging.records = s.staging.records.map (demoted p) := by
  rw [suspendedAt, suspendPlace_records (by rwa [raisedAt_place]), (raisedAt_frame s p).2.2.1]

theorem planLists_suspendedAt (s : State) (p : PlaceId) : planLists (suspendedAt s p) = planLists s :=
  (planLists_suspendPlace _ p).trans (planLists_congr (raisedAt_frame s p).1)

theorem suspendedAt_currentTier (s : State) (p : PlaceId) :
    ((suspendedAt s p).place p).currentTier = (s.place p).currentTier := by
  rw [suspendedAt, suspendPlace_currentTier, raisedAt_place]

theorem not_mem_of_claimAt_none (h : s.claimAt k = none) {y : Claim} (hy : y ∈ s.contest.claims) : y.slot ≠ k :=
  fun e => (claimAt_none_iff s k).1 h (e ▸ List.mem_map_of_mem hy)

/-! ### The end of the condition in PLACE scope with AUTO recovery (R170) -/

/-- The state at the end of the condition by the place-ready timer. -/
def endedAt (s : State) (p : PlaceId) : State := conditionEnded (timed s p) p

theorem endedAt_frame (s : State) (p : PlaceId) : (endedAt s p).plans = s.plans ∧ (endedAt s p).staging = s.staging ∧
    (endedAt s p).pins = s.pins ∧ (endedAt s p).port = s.port := by
  simp [endedAt, conditionEnded, timed]

theorem timed_place (s : State) (p q : PlaceId) : (timed s p).place q = s.place q := place_congr (by simp [timed]) q

theorem endedAt_place (s : State) (p q : PlaceId) : (endedAt s p).place q = s.place q := place_congr (endedAt_frame s p).1 q

theorem endedAt_unwatched (h : (s.place p).state = .suspended) : ((endedAt s p).watch p).state = .unwatched := by
  rw [endedAt, conditionEnded_unwatched (by rwa [timed_place])]

theorem placeReadyTimer_resumes (hd : (s.watch p).state = .rising) (hs : s.policy.scope = .place)
    (ha : s.policy.recovery = .auto) : placeReadyTimer s p = runSearch (resumePlace (endedAt s p) p) := by
  have policy : (timed s p).policy = s.policy := by simp [State.policy, timed]
  rw [placeReadyTimer_rising hd, endPlaceCondition_eq, policy, if_pos ⟨hs, ha⟩]
  rfl

theorem resumePlace_notices (hw : (s.watch p).state = .unwatched) (h : (s.place p).state = .suspended)
    (hn : (s.place p).currentTier = some n) (room : s.port.notices.length +
      (s.staging.records.filter (fun r => r.forTier p n && decide (r.state = .waiting))).length ≤ 32) :
    (resumePlace s p).port.notices = s.port.notices ++
      (s.staging.records.filter (fun r => r.forTier p n && decide (r.state = .waiting))).map
        (fun r => .casePlaceable r.arrival) := by
  rw [resumePlace_unwatched h hw, hn]
  exact promoteRecords_notices (s := setPlaceState s p .building) room

theorem resumePlace_buildOrder (hw : (s.watch p).state = .unwatched) (h : (s.place p).state = .suspended) :
    (resumePlace s p).plans.buildOrder = s.plans.buildOrder := by
  rw [resumePlace_unwatched h hw]
  simp [setPlaceState, setPlace]

/-! ### CELL scope (R171, R175) -/

theorem clearRecord_watch (s : State) (p : PlaceId) : (clearRecord s).watch p = s.watch p :=
  watch_congr (foldl_keeps (fun u : State => u.part.watches) (f := clearEntry) (fun _ _ => rfl) FaultId.all s) p

/-- The indications that a CLEAR FAULTS leaves. -/
theorem indicated_clearRecord (s : State) (f : FaultId) :
    (clearRecord s).indicated f = (s.indicated f && !s.clearable f) := by
  unfold State.indicated State.clearable
  rw [fault_clearRecord]
  cases hi : (s.fault f).indication <;> simp [FaultEntry.cleared, hi]

theorem placeFaultSet_iff (s : State) : s.placeFaultSet = true ↔ ∃ p : PlaceId, s.indicated (.placeNotReady p) = true := by
  simp [State.placeFaultSet, Fin.exists_fin_succ, or_assoc]

theorem clearFaults_cell (h : s.policy.scope = .cell) {p : PlaceId} (hp : s.clearable (.placeNotReady p) = true) :
    clearFaults s = runSearch
      (if (clearRecord s).placeFaultSet = false then resumeAll (clearRecord s) else clearRecord s) := by
  have policy : (clearRecord s).policy.scope = .cell := by simpa [State.policy] using h
  have any : s.clearableFaults.any FaultId.isPlaceFault = true :=
    List.any_eq_true.2 ⟨.placeNotReady p, List.mem_filter.2 ⟨List.mem_of_getElem? (all_index _), hp⟩, rfl⟩
  simp only [clearFaults, clearEffects, policy, any, true_and]

end Sys2Proof.Laws

open Sys2Proof Sys2Proof.Machine Sys2Proof.Safety Sys2Proof.Laws

/-- Settles O47: in PLACE scope the raising is one suspension and the end one resumption; in CELL scope they are those of
every place. -/
theorem suspensionAndResumption : Obligations.SuspensionAndResumption := by
  unfold Obligations.SuspensionAndResumption
  intro s hr clears placeAt
  refine ⟨fun p hs hd hb => ?_, fun p n hs ha hd hp hn => ?_, fun p hs hd => ?_, fun hs quiet hany => ?_⟩
  · have searched : corePlans (runSearch (suspendedAt s p)) = corePlans (suspendedAt s p) := corePlans_runSearch _
    refine ⟨_, congrArg Host.Outcome.next (placeReadyTimer_raises_place hd hs), ?_, ?_, ?_, fun y hy hp => ?_, fun k x hc => ?_⟩
    · exact (congrArg StagingTable.records (runSearch_staging _)).trans (suspendedAt_records hb)
    · exact (currentTier_of_header (header_of_core searched p)).trans (suspendedAt_currentTier s p)
    · exact (buildOrder_of_core searched).trans (congrArg Prod.fst (planLists_suspendedAt s p))
    · obtain ⟨x, hx, slot, target, -⟩ := claimsFrom_suspendedAt s p y (mem_claims_suspendedAt hb hy hp)
      exact ⟨x, hx, slot, target⟩
    · refine ⟨fun hp => runSearch_claimAt_some ((slotKept_suspendedAt hr hc hp).claim.trans hc), fun hp => ?_⟩
      have cancelled := cancelledAt_suspendedAt hr hb hc hp
      refine ⟨fun hx => ⟨fun hm => ?_, hasFrame_runSearch rfl (cancelled.armed hx).2⟩,
        fun hx => runSearch_claimAt_some (cancelled.standing hx), fun ⟨hx, waits⟩ y hy hk hy' => ?_, fun hx => ?_⟩
      · exact not_mem_of_claimAt_none (cancelled.armed hx).1 (mem_claims_suspendedAt hb hm hp) (claimAt_slot hc)
      · have gone := cancelled.left hx (hasIdle_of_frame waits)
        exact not_mem_of_claimAt_none gone (mem_claims_suspendedAt hb hy hy') hk
      · exact runSearch_claimAt_some (cancelled.marked (hx.imp_right fun ⟨hx, hi⟩ => ⟨hx, fun h => hi (frame_of_hasIdle h)⟩))
  · have hu := endedAt_place s p
    obtain ⟨plans, staging, pins, port⟩ := endedAt_frame s p
    have hw := endedAt_unwatched hp
    have suspended : ((endedAt s p).place p).state = .suspended := by rwa [hu]
    have tier : ((endedAt s p).place p).currentTier = some n := by rwa [hu]
    have place := resumePlace_place hw suspended p
    rw [if_pos rfl] at place
    have searched : corePlans (runSearch (resumePlace (endedAt s p) p)) = corePlans _ := corePlans_runSearch _
    have header := header_of_core searched p
    rw [place] at header
    refine ⟨_, congrArg Host.Outcome.next (placeReadyTimer_resumes hd hs ha), state_of_header header,
      (currentTier_of_header header).trans tier, ?_, ?_, ?_, fun room => ?_⟩
    · rw [buildOrder_of_core searched, resumePlace_buildOrder hw suspended, plans]
    · rw [runSearch_watch, resumePlace_watch hw suspended, if_pos rfl, pins]
    · rw [runSearch_staging, resumePlace_records hw suspended tier, staging]
      rfl
    · rw [runSearch_port,
        resumePlace_notices hw suspended tier (by rwa [port, staging]), port, staging]
  · refine ⟨_, congrArg Host.Outcome.next (placeReadyTimer_raises_cell hd hs), ?_, fun k x hc hx hb => ?_⟩
    · have records := suspendAll_records allPlaces (raisedAt s p)
      generalize allPlaces.foldl suspendPlace (raisedAt s p) = v at records
      simp only [runSearch_frame, orderlyWithdraw_frame, records, (raisedAt_frame s p).2.2.1]
      refine List.map_congr_left fun r _ => ?_
      unfold demotedIn
      simp only [mem_allPlaces, true_and, raisedAt_place]
    · have gone := released_suspendAll allPlaces (running_raisedAt hr p) ((slotKept_raisedAt k s p).claim.trans hc) hx
        (mem_allPlaces _) (by rwa [raisedAt_place])
      generalize allPlaces.foldl suspendPlace (raisedAt s p) = v at gone
      obtain ⟨none, frame⟩ := released_orderlyWithdraw gone 7
      refine ⟨?_, hasFrame_runSearch rfl frame⟩
      rw [runSearch_inactive (by rw [orderlyWithdraw_state]; exact Participation.noConfusion)]
      exact none
  · obtain ⟨p, hp⟩ := hany
    have row := clearFaults_cell hs (p := p) hp
    refine ⟨_, rfl, fun ⟨q, hq, kept⟩ => ?_, fun all unwatched tiers => ?_⟩
    · have left : (clearRecord s).placeFaultSet = true := (placeFaultSet_iff _).2 ⟨q, by
        rw [indicated_clearRecord, Bool.and_eq_true, Bool.not_eq_true']
        exact ⟨hq, kept⟩⟩
      rw [left, if_neg (by decide), runSearch_quiet (by simpa using quiet)] at row
      simp [row]
    · have none : (clearRecord s).placeFaultSet = false := by
        rw [← Bool.not_eq_true, placeFaultSet_iff]
        rintro ⟨q, hq⟩
        rw [indicated_clearRecord, Bool.and_eq_true, Bool.not_eq_true'] at hq
        have cleared : s.clearable (.placeNotReady q) = true := all q hq.1
        rw [cleared] at hq
        cases hq.2
      rw [none, if_pos rfl] at row
      have place : ∀ q, (clearRecord s).place q = s.place q := fun q => place_congr (by simp) q
      have effects := resumeAll_effects allPlaces (clearRecord s) fun q hq => by
        rw [place] at hq ⊢
        rw [clearRecord_watch]
        refine ⟨(unwatched q).resolve_right fun hb => ?_, tiers q hq⟩
        rw [hq] at hb
        cases hb
      rw [show allPlaces.foldl resumePlace (clearRecord s) = resumeAll (clearRecord s) from rfl] at effects
      obtain ⟨states, records⟩ := effects
      generalize resumeAll (clearRecord s) = v at states records row
      refine ⟨fun q => ?_, ?_⟩
      · have answered : ((respond (clearFaults s) .done (packData [(8, s.clearableFaults.length)])).place q).state =
            (v.place q).state := by rw [row]; exact runSearch_state v q
        rw [answered, states, place]
        simp [mem_allPlaces]
      · simp only [respond_frame, row, runSearch_frame, records, clearRecord_frame]
        refine List.map_congr_left fun r _ => ?_
        cases hg : r.target with
        | none => simp only [resumedIn, hg]
        | some g => simp only [resumedIn_line hg, mem_allPlaces, true_and, place, hg]
end

section
/-! SUPPORT. Laws of the plans, the claims and the notices that the leaving of a claim keeps, and the operations that
therefore keep them (R39, R112 to R124, R129 to R135, R166, R167). -/

namespace Sys2Proof.Laws

open Sys2Proof Sys2Proof.Machine Sys2Proof.Safety

variable {s t u v : State} {j k m n : Nat} {c x : Claim} {e : PendingEnd}

/-! ### What such a law reads -/

/-- The plans, the claims and the notices of u are those of s. -/
structure Same (s u : State) : Prop where
  plans : u.plans = s.plans
  claims : u.contest.claims = s.contest.claims
  notices : u.port.notices = s.port.notices

theorem same_refl (s : State) : Same s s := ⟨rfl, rfl, rfl⟩

theorem same_trans (h : Same s t) (h' : Same t u) : Same s u :=
  ⟨h'.plans.trans h.plans, h'.claims.trans h.claims, h'.notices.trans h.notices⟩

theorem same_offerFrame (s : State) (f : OutFrame) : Same s (offerFrame s f) := by constructor <;> simp
theorem same_setTx (s : State) (q : List TxFrame) : Same s (setTx s q) := by constructor <;> simp
theorem same_addOrphan (s : State) (k : Nat) : Same s (addOrphan s k) := ⟨rfl, rfl, rfl⟩
theorem same_leaveClaim (s : State) (c : Claim) : Same (dropClaim s c) (leaveClaim s c) := ⟨rfl, rfl, rfl⟩

theorem same_dropClaim (h : Same s u) (c : Claim) : Same (dropClaim s c) (dropClaim u c) := by
  obtain ⟨plans, claims, notices⟩ := h
  refine ⟨?_, ?_, by simpa using notices⟩
  · simp [dropClaim, modifyLine, setPlace, State.place, plans]
  · show List.filter _ u.contest.claims = List.filter _ s.contest.claims
    rw [claims]

theorem same_leaveWithEnd (s : State) (c : Claim) (e : PendingEnd) : Same (dropClaim s c) (leaveWithEnd s c e) :=
  same_trans (same_dropClaim (by constructor <;> simp : Same s (reportEnd s c e)) c) (same_leaveClaim _ c)

/-- A claim that stands keeps the cancellation of its place from ending (R39). -/
theorem cancelTest_standing {p : PlaceId} (h : ∃ c ∈ s.contest.claims, c.target.place = p) : cancelTest s p = s := by
  obtain ⟨c, hc, hp⟩ := h
  refine if_neg fun ends => ?_
  have := List.all_eq_true.1 ends.2 c hc
  simp [hp] at this

theorem cancelTest_entry {p : PlaceId} (h : s.claimAt k = some c) (hp : c.target.place = p) : cancelTest s p = s :=
  cancelTest_standing ⟨c, claimAt_mem h, hp⟩

/-! ### Laws closed under the leaving of a claim -/

/-- A law, with a count of the notices offered beside those of places whose cancellation ended, that stands as a claim
is marked, and as one leaves with the test of its place after it. -/
structure Closed (P : Nat → State → Prop) : Prop where
  once : ∀ {n u}, P n u → OncePerSlot u
  mono : ∀ {m n u}, m ≤ n → P m u → P n u
  same : ∀ {n u v}, Same u v → P n u → P n v
  notice : ∀ {n u} (x : Notice), P n u → P (n + 1) (offerNotice u x)
  modify : ∀ {n u} (k : Nat) {f : Claim → Claim}, (∀ d, (f d).slot = d.slot ∧ (f d).target = d.target) → P n u →
    P n (modifyClaim u k f)
  leave : ∀ {n u v c d}, u.claimAt c.slot = some d → d.target = c.target → Same (dropClaim u c) v → P n u →
    P n (cancelTest v c.target.place)

variable {P : Nat → State → Prop}

theorem closed_foldl {α : Type} {f : State → α → State} (hf : ∀ u a, P n u → P n (f u a)) (l : List α) (h : P n s) :
    P n (l.foldl f s) := foldl_induct (P := P n) hf l h

/-! ### The claims (R112 to R123) -/

/-- R112, R39: an end recorded or the claim gone, with the test. -/
theorem closed_endAndTest (hP : Closed P) (h : P n s) (k : Nat) (e : PendingEnd) : P n (endAndTest s k e) := by
  unfold endAndTest
  cases hc : s.claimAt k with
  | none => exact h
  | some c =>
    have marked := hP.modify k (f := fun d => { d with pendingEnd := some (c.pendingEnd.getD e) })
      (fun _ => ⟨rfl, rfl⟩) h
    have entry : (modifyClaim s k fun d => { d with pendingEnd := some (c.pendingEnd.getD e) }).claimAt k =
        some (ending c e) := claimAt_modified hc fun _ => rfl
    have asked := hP.same (same_setTx _ (askWithdrawal (OutFrame.isClaimFor k) s.line.tx)) marked
    unfold endUncommitted
    rw [hc]
    dsimp only
    cases c.state with
    | queued =>
      dsimp only
      split
      · exact hP.leave (d := ending c e) (claimAt_slot hc ▸ entry) rfl (same_leaveWithEnd _ c _) asked
      · rw [cancelTest_entry (k := k) (c := ending c e) (p := c.target.place) ?_ rfl]
        · exact asked
        · exact entry
    | sending =>
      dsimp only
      rw [cancelTest_entry (p := c.target.place) entry rfl]
      exact marked
    | armed | committed | firing =>
      dsimp only
      rw [cancelTest_entry hc rfl]
      exact h

theorem closed_testClaim (hP : Closed P) (h : P n s) (k : Nat) : P n (testClaim s k) := by
  have late := hP.modify k (f := fun d => { d with late := true }) (fun _ => ⟨rfl, rfl⟩) h
  unfold testClaim
  split
  · exact h
  · split
    · split
      · exact h
      · exact closed_endAndTest hP late k _
    · split
      · exact h
      · exact late
    · split
      · exact hP.modify k (fun _ => ⟨rfl, rfl⟩) h
      · exact h
    all_goals exact h

theorem closed_testClaims (hP : Closed P) (h : P n s) : P n (testClaims s) :=
  closed_foldl (fun _ k hu => closed_testClaim hP hu k) _ h

/-- An entry leaves with the test of its place, and a frame for it may be queued between. -/
theorem closed_leaves (hP : Closed P) (h : P n s) (hc : s.claimAt c.slot = some c) (hv : Same (leaveClaim s c) v) :
    P n (cancelTest v c.target.place) := hP.leave hc rfl (same_trans (same_leaveClaim s c) hv) h

theorem closed_withdrawClaim (hP : Closed P) (h : P n s) (k : Nat) : P n (withdrawClaim s k) := by
  unfold withdrawClaim
  split
  · exact h
  next c hc =>
    split
    · exact closed_endAndTest hP h k _
    · exact closed_endAndTest hP h k _
    · exact closed_leaves hP h (claimAt_slot hc ▸ hc) (same_offerFrame _ _)
    all_goals exact h

theorem closed_withdrawClaims (hP : Closed P) (h : P n s) : P n (withdrawClaims s) :=
  closed_foldl (fun _ k hu => closed_withdrawClaim hP hu k) _ h

theorem closed_faultClaim (hP : Closed P) (h : P n s) (k : Nat) : P n (faultClaim s k) := by
  unfold faultClaim
  split
  · exact h
  next c hc =>
    refine closed_leaves hP h (claimAt_slot hc ▸ hc) ?_
    split
    · exact same_setTx _ _
    · exact same_addOrphan _ _
    all_goals exact same_offerFrame _ _

theorem closed_faultClaims (hP : Closed P) (h : P n s) : P n (faultClaims s) :=
  closed_foldl (fun _ k hu => closed_faultClaim hP hu k) _ h

/-! ### The fire (R129 to R135) -/

theorem claimAt_of_firing (hn : OncePerSlot s) (hc : firingClaim s j = some c) : s.claimAt c.slot = some c :=
  claimAt_of_mem hn (firingClaim_some hc).1

theorem closed_outcomeMissed (hP : Closed P) (h : P n s) (j : Nat) : P n (outcomeMissed s j) := by
  unfold outcomeMissed
  split
  next c hc => exact closed_leaves hP h (claimAt_of_firing (hP.once h) hc) (same_offerFrame _ _)
  next => exact h

theorem closed_closeMissed (hP : Closed P) (h : P n s) (f : Fire) : P (n + 1) (closeMissed s f) := by
  unfold closeMissed
  exact closed_outcomeMissed hP (hP.notice _ (hP.same (by constructor <;> simp) h)) _

theorem closed_setFire (hP : Closed P) (h : P n s) (f : Option Fire) : P n (setFire s f) :=
  hP.same (by constructor <;> simp) h

theorem closed_closeEarlierFire (hP : Closed P) (h : P n s) : P (n + 1) (closeEarlierFire s) := by
  unfold closeEarlierFire
  split
  · refine closed_setFire hP ?_ _
    split
    · exact closed_closeMissed hP h _
    · exact hP.mono (Nat.le_succ n) h
  · exact hP.mono (Nat.le_succ n) h

theorem closed_fireClaim (hP : Closed P) (h : P n s) (c : Claim) : P (n + 1) (fireClaim s c) := by
  have fired : P (n + 1) (setOutput (closeEarlierFire s) true) :=
    hP.same (by constructor <;> simp) (closed_closeEarlierFire hP h)
  exact hP.modify _ (fun _ => ⟨rfl, rfl⟩) (closed_setFire hP fired _)

theorem closed_fireReached (hP : Closed P) (h : P n s) (r : Nat → Bool) : P (n + 1) (fireReached s r) := by
  unfold fireReached
  split
  · split
    · exact closed_fireClaim hP h _
    · exact hP.mono (Nat.le_succ n) h
  · exact hP.mono (Nat.le_succ n) h

/-! ### Withdrawals and faults (R160, R166 to R168) -/

theorem closed_moveTo (hP : Closed P) (h : P n s) (st : Participation) : P (n + 1) (moveTo s st) := by
  unfold moveTo
  split
  · exact hP.mono (Nat.le_succ n) h
  · exact hP.notice _ (hP.same (by constructor <;> simp) h)

theorem closed_recordFault (hP : Closed P) (h : P n s) (f : FaultId) (d : Nat) : P (n + 1) (recordFault s f d) :=
  hP.notice _ (hP.same (by constructor <;> simp) h)

theorem same_offerWithdraw (s : State) (r : Nat) : Same s (offerWithdraw s r) := by constructor <;> simp

theorem same_withdrawAnnounces (s : State) (r : OutFrame → Bool) : Same s (withdrawAnnounces s r) := by
  constructor <;> simp

theorem closed_orderlyWithdraw (hP : Closed P) (h : P n s) (r : Nat) : P (n + 1) (orderlyWithdraw s r) := by
  unfold orderlyWithdraw
  split
  · exact hP.mono (Nat.le_succ n) (hP.same (same_offerWithdraw s r) h)
  · have begun := hP.same (same_offerWithdraw _ r) (closed_moveTo hP h .withdrawn)
    exact hP.same (same_withdrawAnnounces _ _) (closed_withdrawClaims hP begun)

theorem closed_stopDivert (hP : Closed P) (h : P n s) : P (n + 1) (stopDivert s) := by
  have off : P n (setOutput s false) := hP.same (by constructor <;> simp) h
  unfold stopDivert
  dsimp only
  split
  · split
    · exact hP.notice _ (hP.same (by constructor <;> simp) off)
    · exact hP.mono (Nat.le_succ n) (closed_setFire hP off none)
  · exact hP.mono (Nat.le_succ n) off

theorem same_emptyView (s : State) : Same s (emptyView s) := by constructor <;> simp

theorem closed_immediateWithdraw (hP : Closed P) (h : P n s) (code : Nat) : P (n + 2) (immediateWithdraw s code) := by
  have begun := closed_stopDivert hP (hP.same (same_offerWithdraw _ code) (closed_moveTo hP h .withdrawn))
  have emptied := hP.same (same_emptyView _) (closed_faultClaims hP begun)
  exact hP.same (same_withdrawAnnounces _ _) emptied

theorem closed_raiseImmediate (hP : Closed P) (h : P n s) (f : FaultId) : P (n + 3) (raiseImmediate s f) :=
  closed_immediateWithdraw hP (closed_recordFault hP h f 0) _

theorem closed_raiseSlip (hP : Closed P) (h : P n s) (c : SlipCause) : P (n + 3) (raiseSlip s c) := by
  have caused : P n (s.setPart { s.part with slipCause := some c }) := hP.same (by constructor <;> simp) h
  have recorded := closed_recordFault hP caused .indexSlip c.code
  exact closed_immediateWithdraw hP recorded FaultId.indexSlip.code

/-! ### The pulse (R4, R130) -/

theorem closed_noteTravel (hP : Closed P) (h : P n s) : P (n + 1) (noteTravel s) := by
  unfold noteTravel
  dsimp only
  split
  · exact hP.mono (Nat.le_succ n) (hP.same (by constructor <;> simp) h)
  · exact hP.notice _ (hP.same (by constructor <;> simp) h)

theorem closed_atGate (hP : Closed P) (h : P n s) : P (n + 4) (atGate s) := by
  have counted : P (n + 1) (countPulse (noteTravel s)) := hP.same (by constructor <;> simp) (closed_noteTravel hP h)
  unfold atGate checkMissing
  split
  · exact closed_raiseSlip hP (hP.same (by constructor <;> simp) counted) _
  · exact hP.mono (by omega) counted

theorem closed_endDwell (hP : Closed P) (h : P n s) : P n (endDwell s) := by
  unfold endDwell
  split
  · split
    · split
      · exact hP.same (by constructor <;> simp) h
      · exact h
    · exact h
  · exact h

theorem closed_endWindow (hP : Closed P) (h : P n s) : P (n + 1) (endWindow s) := by
  have kept := hP.mono (Nat.le_succ n) h
  unfold endWindow
  split
  · split
    · split
      · exact closed_closeMissed hP h _
      · exact kept
    · exact kept
  · exact kept

/-- R130, R39: a law that the taking of a case keeps as well. -/
def TakenKept (P : Nat → State → Prop) : Prop := ∀ n u j, P n u → P (n + 1) (outcomeTaken u j)

theorem closed_judgeConfirm (hP : Closed P) (hT : TakenKept P) (h : P n s) : P (n + 1) (judgeConfirm s) := by
  have stray : P (n + 1) (reportPlain s .confirmStray) := hP.mono (Nat.le_succ n) (hP.same (by constructor <;> simp) h)
  unfold judgeConfirm
  split
  · split
    · exact hT _ _ _ (hP.same (by constructor <;> simp) h)
    · exact stray
  · exact stray

theorem closed_confirmPulse (hP : Closed P) (hT : TakenKept P) (h : P n s) : P (n + 1) (confirmPulse s) := by
  have held : ∀ d, P n (setConfirm s d) := fun d => hP.same (by constructor <;> simp [setConfirm]) h
  have kept : ∀ d, P (n + 1) (setConfirm s d) := fun d => hP.mono (Nat.le_succ n) (held d)
  unfold confirmPulse
  split
  · split
    · exact closed_judgeConfirm hP hT (held _)
    · exact kept _
  · split <;> exact kept _
  all_goals exact hP.mono (Nat.le_succ n) h

theorem same_fireCountsPulse (s : State) : Same s (fireCountsPulse s) := by constructor <;> simp

theorem same_discardFire (s : State) : Same s (discardFire s) := by constructor <;> simp

theorem closed_divertPulse (hP : Closed P) (hT : TakenKept P) (h : P n s) : P (n + 2) (divertPulse s) := by
  have confirmed := closed_confirmPulse hP hT (hP.same (same_fireCountsPulse s) h)
  exact hP.same (same_discardFire _) (closed_endWindow hP (closed_endDwell hP confirmed))

/-- The rest of a pulse after the Divert Unit's first steps: the tests, the fire and the passage. -/
theorem closed_testsAndFire (hP : Closed P) (h : P n s) (r : Nat → Bool) :
    P (n + 1) (fireReached (if s.loop.aligned then testClaims s else s) r) := by
  refine closed_fireReached hP ?_ r
  split
  · exact closed_testClaims hP h
  · exact h

theorem same_inductionPassage (s : State) (k : Nat) : Same s (inductionPassage s k) := by constructor <;> simp [inductionPassage]

theorem same_passSlot (s : State) : Same s (passSlot s) := by
  unfold passSlot
  split
  · exact same_inductionPassage s _
  · exact same_refl s

theorem same_sampleBoundary (s : State) : Same s (sampleBoundary s) := by constructor <;> simp

/-- The state of a pulse before its search. -/
theorem closed_beforeSearch (hP : Closed P) (hT : TakenKept P) (h : P n s) : P (n + 7) (passSlot (reachPosition (atGate s))) := by
  have gated := hP.same (by constructor <;> simp : Same _ (gatePulse (atGate s))) (closed_atGate hP h)
  exact hP.same (same_passSlot _) (closed_testsAndFire hP (closed_divertPulse hP hT gated) _)

end Sys2Proof.Laws
end

section
/-! SUPPORT. The claimed count of a line is the number of its claims, and the rest of a place stands, through a forward
pulse (R26, R27, R110, R120). -/

namespace Sys2Proof.Laws

open Sys2Proof Sys2Proof.Machine Sys2Proof.Safety

variable {s t u v : State} {j k m n : Nat} {c d x : Claim} {g h : Target} {p q : PlaceId}

/-! ### The claims of a table without one slot -/

theorem perm_without {l : List Claim} (hn : (l.map (·.slot)).Nodup) (hd : d ∈ l) :
    l.Perm (d :: l.filter (fun c => decide (c.slot ≠ d.slot))) := by
  induction l with
  | nil => cases hd
  | cons a l ih =>
    rw [List.map_cons, List.nodup_cons] at hn
    obtain ⟨fresh, hn⟩ := hn
    rcases List.mem_cons.1 hd with rfl | hd
    · have all : ∀ c ∈ l, decide (c.slot ≠ d.slot) = true := fun c hc =>
        decide_eq_true fun e => fresh (e ▸ List.mem_map_of_mem hc)
      rw [List.filter_cons_of_neg (by simp), List.filter_eq_self.2 all]
    · have other : a.slot ≠ d.slot := fun e => fresh (e ▸ List.mem_map_of_mem hd)
      rw [List.filter_cons_of_pos (by simpa using other)]
      exact ((ih hn hd).cons a).trans (List.Perm.swap ..)

theorem dropClaim_claims (s : State) (c : Claim) :
    (dropClaim s c).contest.claims = s.contest.claims.filter (fun d => decide (d.slot ≠ c.slot)) := rfl

theorem claimsOn_congr (e : t.contest.claims = s.contest.claims) (g : Target) : claimsOn t g = claimsOn s g := by
  unfold claimsOn
  rw [e]

/-- The claims for a line as one claim leaves. -/
theorem claimsOn_dropClaim (hn : OncePerSlot s) (hd : s.claimAt c.slot = some d) :
    claimsOn s g = claimsOn (dropClaim s c) g + if d.target = g then 1 else 0 := by
  have perm := perm_without hn (claimAt_mem hd)
  rw [claimAt_slot hd] at perm
  have count := (perm.filter (fun x => decide (x.target = g))).length_eq
  unfold claimsOn
  rw [count, dropClaim_claims, List.filter_cons]
  split <;> simp_all

theorem claimsOn_modifyClaim (s : State) (k : Nat) {f : Claim → Claim} (hf : ∀ d, (f d).target = d.target) (g : Target) :
    claimsOn (modifyClaim s k f) g = claimsOn s g := by
  unfold claimsOn
  show (List.filter _ (List.map _ _)).length = _
  rw [List.filter_map, List.length_map]
  congr 2
  funext c
  simp only [Function.comp_apply]
  split
  · rw [hf]
  · rfl

theorem once_modifyClaim (hn : OncePerSlot s) (k : Nat) {f : Claim → Claim} (hf : ∀ d, (f d).slot = d.slot) :
    OncePerSlot (modifyClaim s k f) := by
  have slots : (modifyClaim s k f).contest.claims.map (·.slot) = s.contest.claims.map (·.slot) := by
    show List.map _ (List.map _ _) = _
    rw [List.map_map]
    refine List.map_congr_left fun c _ => ?_
    simp only [Function.comp_apply]
    split
    · exact hf c
    · rfl
  unfold OncePerSlot
  rwa [slots]

theorem once_dropClaim (hn : OncePerSlot s) (c : Claim) : OncePerSlot (dropClaim s c) :=
  hn.sublist ((List.filter_sublist (p := fun d : Claim => decide (d.slot ≠ c.slot))).map _)

theorem once_congr (e : t.contest.claims = s.contest.claims) (hn : OncePerSlot s) : OncePerSlot t := by
  unfold OncePerSlot
  rwa [e]

theorem once_queueClaim (hn : OncePerSlot s) (hk : s.claimAt k = none) (g : Target) (w : Urgency) :
    OncePerSlot (queueClaim s k g w) := by
  unfold OncePerSlot
  rw [queueClaim_claims, List.map_append, List.map_singleton, List.nodup_append]
  refine ⟨hn, List.nodup_singleton _, fun a ha b hb e => ?_⟩
  obtain rfl : b = k := List.mem_singleton.1 hb
  exact (claimAt_none_iff s b).1 hk (e ▸ ha)

/-! ### A search, claim by claim -/

/-- What each claim of a free slot for the line ranked first keeps, a search keeps. -/
theorem runSearch_claims_induct {Q : State → Prop} (h : Q (s.setContest { s.contest with searchDue := false }))
    (hq : ∀ u k c g w, u.claimAt k = none → bestLine u c = some (g, w) → Q u → Q (queueClaim u k g w)) :
    Q (runSearch s) := by
  have searched : ∀ (l : List Nat) (u : State), Open u l → l.Nodup → Q u → Q (l.foldl searchSlot u) := by
    intro l
    induction l with
    | nil => exact fun u _ _ hu => hu
    | cons k l ih =>
      intro u ho hl hu
      obtain ⟨fresh, hl⟩ := List.nodup_cons.1 hl
      have rest : Open u l := fun j hj => ho j (List.mem_cons_of_mem k hj)
      rw [List.foldl_cons]
      unfold searchSlot
      split
      · exact ih u rest hl hu
      · split
        · split
          next m hm =>
            exact ih _ (open_queueClaim m.1 m.2 rest fresh) hl (hq u k _ m.1 m.2 (ho k List.mem_cons_self).2 hm hu)
          next => exact ih u rest hl hu
        · exact ih u rest hl hu
  unfold runSearch
  dsimp only
  split
  · exact searched _ _ (open_candidates _) (nodup_candidates _) h
  · exact h

/-! ### The claimed count of a line (R27) -/

/-- A line number and a tier number as R20 gives them. -/
def Numbered (g : Target) : Prop := 1 ≤ g.tier ∧ 1 ≤ g.line

theorem sameLine_iff (hg : Numbered g) (hh : Numbered h) : SameLine g h ↔ g = h := by
  obtain ⟨gt, gl⟩ := hg
  obtain ⟨ht, hl⟩ := hh
  refine ⟨fun ⟨place, tier, line⟩ => ?_, fun e => e ▸ ⟨rfl, rfl, rfl⟩⟩
  obtain ⟨gp, gtier, gline⟩ := g
  obtain ⟨hp, htier, hline⟩ := h
  simp only [Target.mk.injEq]
  simp only at *
  exact ⟨place.symm, by omega, by omega⟩

/-- The claims of a line are counted on it, and stay so: claims and places BUILDING name lines as R20 does, and the
line's place is not about to be emptied. -/
structure Book (g : Target) (s : State) : Prop where
  once : OncePerSlot s
  place : (s.place g.place).state ≠ .cancelling
  claims : ∀ c ∈ s.contest.claims, Numbered c.target
  tiers : ∀ p t, (s.place p).state = .building → (s.place p).currentTier = some t → 1 ≤ t
  line : ∃ l, s.lineAt g = some l ∧ l.claimed = claimsOn s g

theorem lineAt_congr (e : t.plans = s.plans) (g : Target) : t.lineAt g = s.lineAt g := by
  unfold State.lineAt
  rw [place_congr e]

theorem book_congr (plans : u.plans = s.plans) (claims : u.contest.claims = s.contest.claims) (hb : Book g s) : Book g u where
  once := once_congr claims hb.once
  place := by rw [place_congr plans]; exact hb.place
  claims := by rw [claims]; exact hb.claims
  tiers := by
    intro p t
    rw [place_congr plans]
    exact hb.tiers p t
  line := by
    rw [lineAt_congr plans, claimsOn_congr claims]
    exact hb.line

theorem book_modifyClaim (hb : Book g s) (k : Nat) {f : Claim → Claim}
    (hf : ∀ d, (f d).slot = d.slot ∧ (f d).target = d.target) :
    Book g (modifyClaim s k f) where
  once := once_modifyClaim hb.once k fun d => (hf d).1
  place := hb.place
  claims := by
    intro c hc
    obtain ⟨d, hd, rfl⟩ := List.mem_map.1 hc
    split
    · rw [(hf d).2]
      exact hb.claims d hd
    · exact hb.claims d hd
  tiers := hb.tiers
  line := by
    rw [claimsOn_modifyClaim s k fun d => (hf d).2]
    exact hb.line

/-- A line changed, its place's header standing. -/
theorem book_places (hb : Book g s) (e : ∀ q, header (t.place q) = header (s.place q)) :
    (t.place g.place).state ≠ .cancelling ∧
      ∀ p n, (t.place p).state = .building → (t.place p).currentTier = some n → 1 ≤ n := by
  refine ⟨by rw [state_of_header (e _)]; exact hb.place, fun p n => ?_⟩
  rw [state_of_header (e p), currentTier_of_header (e p)]
  exact hb.tiers p n

theorem book_dropClaim (hg : Numbered g) (hb : Book g s) (hd : s.claimAt c.slot = some d) (ht : d.target = c.target) :
    Book g (dropClaim s c) := by
  obtain ⟨place, tiers⟩ := book_places hb (t := dropClaim s c) fun q => header_of_core (corePlans_dropClaim s c) q
  obtain ⟨l, hl, count⟩ := hb.line
  have named : Numbered c.target := ht ▸ hb.claims d (claimAt_mem hd)
  have line : (dropClaim s c).lineAt g = if SameLine c.target g then
      (s.lineAt g).map (fun l => { l with claimed := l.claimed - 1 }) else s.lineAt g := lineAt_modifyLine _ _ _ _
  rw [hl] at line
  have drop := claimsOn_dropClaim (g := g) hb.once hd
  refine ⟨once_dropClaim hb.once c, place, fun x hx => hb.claims x (List.mem_of_mem_filter hx), tiers, ?_⟩
  by_cases hc : c.target = g
  · rw [if_pos ((sameLine_iff named hg).2 hc), Option.map_some] at line
    rw [if_pos (ht.trans hc)] at drop
    exact ⟨_, line, by dsimp only; omega⟩
  · rw [if_neg (mt (sameLine_iff named hg).1 hc)] at line
    rw [if_neg fun e => hc (ht.symm.trans e)] at drop
    exact ⟨l, line, by omega⟩

theorem cancelTest_claims (s : State) (p : PlaceId) : (cancelTest s p).contest.claims = s.contest.claims := by simp

theorem book_cancelTest (hb : Book g s) (p : PlaceId) : Book g (cancelTest s p) where
  once := once_congr (cancelTest_claims s p) hb.once
  place := by rw [cancelTest_place hb.place]; exact hb.place
  claims := by rw [cancelTest_claims]; exact hb.claims
  tiers := by
    intro q n
    by_cases hq : (s.place q).state = .cancelling
    · intro building
      unfold cancelTest at building
      split at building
      next ends =>
        rw [place_congr (s := setPlace s p Place.empty) (by simp), place_setPlace] at building
        split at building
        · cases building
        · rw [hq] at building
          cases building
      next =>
        rw [hq] at building
        cases building
    · rw [cancelTest_place hq]
      exact hb.tiers q n
  line := by
    rw [claimsOn_congr (cancelTest_claims s p), State.lineAt, cancelTest_place hb.place]
    exact hb.line

theorem book_offerNotice (hb : Book g s) (x : Notice) : Book g (offerNotice s x) := book_congr (by simp) (by simp) hb

theorem closed_book (hg : Numbered g) : Closed (fun _ u => Book g u) where
  once hb := hb.once
  mono _ hb := hb
  same hs hb := book_congr hs.plans hs.claims hb
  notice x hb := book_offerNotice hb x
  modify k _ hf hb := book_modifyClaim hb k hf
  leave hd ht hs hb := book_cancelTest (book_congr hs.plans hs.claims (book_dropClaim hg hb hd ht)) _

/-- R145: the line of a case staged keeps its claimed count. -/
theorem book_stageTaken (hb : Book g s) (c : Claim) (case : CaseId) : Book g (stageTaken s c case) := by
  have made : ∀ a b st, Book g (makeRecord s a case b st) := fun a b st => book_congr (by simp) (by simp) hb
  have staged : ∀ a b st, Book g (modifyLine (makeRecord s a case b st) c.target fun l => { l with staged := l.staged + 1 }) := by
    intro a b st
    have hm := made a b st
    obtain ⟨place, tiers⟩ := book_places hm fun q => header_modifyLine _ c.target (fun l => { l with staged := l.staged + 1 }) q
    refine ⟨once_congr (by simp) hm.once, place, by simpa using hm.claims, tiers, ?_⟩
    obtain ⟨l, hl, count⟩ := hm.line
    rw [claimsOn_congr (s := makeRecord s a case b st) (by simp), lineAt_modifyLine, hl]
    split
    · exact ⟨_, rfl, count⟩
    · exact ⟨l, rfl, count⟩
  unfold stageTaken
  dsimp only
  split
  iterate 2 exact book_offerNotice (staged _ _ _) _
  all_goals exact book_offerNotice (made _ _ _) _

theorem book_outcomeTaken (hg : Numbered g) : TakenKept (fun _ u => Book g u) := by
  intro n u j hb
  unfold outcomeTaken
  split
  next c hc =>
    have left := book_dropClaim hg hb (claimAt_of_firing hb.once hc) rfl
    exact book_cancelTest (book_congr (by simp) (by simp) (book_stageTaken left c (takenCase u c))) _
  next => exact hb

theorem book_queueClaim (hg : Numbered g) (hb : Book g s) (hk : s.claimAt k = none) {c : CaseId} {w : Urgency}
    (hh : bestLine s c = some (h, w)) : Book g (queueClaim s k h w) := by
  obtain ⟨p, -, hm⟩ := bestLine_some hh
  obtain ⟨rfl, ⟨line, -⟩, t, n, builds, tier⟩ := matchingLine_some hm
  have first := hb.tiers h.place t builds.state builds.current
  have named : Numbered h := by
    refine ⟨?_, line⟩
    rcases tier with ⟨-, e, -⟩ | ⟨-, e, -⟩ | ⟨-, e, -⟩ <;> omega
  obtain ⟨place, tiers⟩ := book_places hb fun q => header_of_core (corePlans_queueClaim s k h w) q
  obtain ⟨l, hl, count⟩ := hb.line
  have raised : (queueClaim s k h w).lineAt g = if SameLine h g then
      (s.lineAt g).map (fun l => { l with claimed := l.claimed + 1 }) else s.lineAt g :=
    (lineAt_congr (plans_offerFrame _ _) g).trans (lineAt_modifyLine _ _ _ _)
  have claims : claimsOn (queueClaim s k h w) g = claimsOn s g + if h = g then 1 else 0 := by
    unfold claimsOn
    rw [queueClaim_claims, List.filter_append, List.length_append, List.filter_singleton]
    by_cases e : h = g <;> simp [e]
  rw [hl] at raised
  refine ⟨once_queueClaim hb.once hk h w, place, fun c hc => ?_, tiers, ?_⟩
  · rw [queueClaim_claims] at hc
    rcases List.mem_append.1 hc with hc | hc
    · exact hb.claims c hc
    · rw [List.mem_singleton.1 hc]
      exact named
  · by_cases e : h = g
    · rw [if_pos ((sameLine_iff named hg).2 e), Option.map_some] at raised
      rw [if_pos e] at claims
      exact ⟨_, raised, by dsimp only; omega⟩
    · rw [if_neg (mt (sameLine_iff named hg).1 e)] at raised
      rw [if_neg e] at claims
      exact ⟨l, raised, by omega⟩

theorem book_runSearch (hg : Numbered g) (hb : Book g s) : Book g (runSearch s) :=
  runSearch_claims_induct (book_congr (s := s) rfl rfl hb) fun _ _ _ _ _ hk hbest hu => book_queueClaim hg hu hk hbest

/-- R4: a forward pulse, whatever it meets, keeps the claimed count of a line the number of its claims. -/
theorem book_forwardPulse (hg : Numbered g) (hs : s.part.state ≠ .start) (hb : Book g s) : Book g (forwardPulse s) := by
  rw [forwardPulse_atGate hs]
  have before := closed_beforeSearch (n := 0) (closed_book hg) (book_outcomeTaken hg) hb
  exact book_congr (by simp) (by simp) (book_runSearch hg before)

/-! ### The rest of a place -/

/-- A place but for its claimed counts, with claims for no slot twice. -/
def CoreIs (q : PlaceId) (x : Place) (s : State) : Prop := OncePerSlot s ∧ core s q = x

theorem closed_core {x : Place} (hx : x.state ≠ .cancelling) : Closed (fun _ u => CoreIs q x u) where
  once h := h.1
  mono _ h := h
  same hs h := ⟨once_congr hs.claims h.1, (core_congr hs.plans q).trans h.2⟩
  notice _ h := ⟨once_congr (by simp) h.1, (core_congr (by simp) q).trans h.2⟩
  modify k _ hf h := ⟨once_modifyClaim h.1 k fun d => (hf d).1, h.2⟩
  leave _ _ hs h := by
    obtain ⟨once, same⟩ := h
    have left := (core_congr hs.plans q).trans ((core_of_corePlans (corePlans_dropClaim _ _) q).trans same)
    exact ⟨once_congr ((cancelTest_claims _ _).trans hs.claims) (once_dropClaim once _),
      (core_cancelTest (by rwa [left]) _).trans left⟩

end Sys2Proof.Laws
end

section
/-! SUPPORT. The rest of a forward pulse once the Divert Unit's first steps are done: what it leaves of the fire, of the
line, of the records and of the places (R4, R130, R131). -/

namespace Sys2Proof.Laws

open Sys2Proof Sys2Proof.Machine Sys2Proof.Safety

variable {s t u v : State} {j k m n : Nat} {c d x : Claim} {g h : Target} {p q : PlaceId} {f : OutFrame} {r : Nat → Bool}
  {E : List CounterEvent}

/-! ### The rest of a pulse -/

/-- The tests and the fire at the position c, and the passage of the slot there (R114, R118, R130 step 4, R18). -/
def pulseRest (d : State) (c : Nat) : State :=
  passSlot (fireReached (if d.loop.aligned then testClaims d else d) (fun f => decide (f = c)))

/-- The state of a pulse after the Divert Unit's first three steps (R130). -/
def atTests (s : State) : State := divertPulse (gatePulse (atGate s))

theorem forwardPulse_atTests (hs : s.part.state ≠ .start) :
    forwardPulse s = sampleBoundary (runSearch (pulseRest (atTests s) (reached s))) := by
  obtain ⟨m, loop⟩ := atGate_loop s
  have counter : (atGate s).loop.counter = reached s := by rw [loop]
  rw [forwardPulse_atGate hs]
  unfold pulseRest atTests reachPosition
  rw [counter]

/-- The pulse's own tests leave the Divert Unit. -/
theorem tested_divert (d : State) : (if d.loop.aligned then testClaims d else d).divert = d.divert := by
  split <;> simp

/-- No window is open. -/
def NoWindow (u : State) : Prop := ∀ f, u.divert.fire = some f → f.window = none

theorem closeEarlierFire_noWindow (h : NoWindow u) : closeEarlierFire u = setFire u none := by
  unfold closeEarlierFire
  cases hf : u.divert.fire with
  | none =>
    show u = u.setDivert { u.divert with fire := none }
    rw [← hf]
    rfl
  | some f =>
    dsimp only
    rw [h f hf]
    rfl

/-- With no window open an entry fires, or none does, and no fire is closed (R131). -/
theorem fireReached_noWindow (h : NoWindow u) (r : Nat → Bool) : fireReached u r = u ∨ ∃ z ∈ u.contest.claims,
    z.firesAt r = true ∧ fireReached u r = modifyClaim (setFire (setOutput (setFire u none) true)
      (some { slot := z.slot, place := z.target.place, dwell := some 0, window := some 0 })) z.slot
        (fun d => { d with state := .firing }) := by
  unfold fireReached
  split
  · split
    next z hz =>
      refine .inr ⟨z, List.mem_of_find?_eq_some hz, List.find?_some hz, ?_⟩
      unfold fireClaim
      rw [closeEarlierFire_noWindow h]
    next => exact .inl rfl
  · exact .inl rfl

theorem fireReached_deglitch (u : State) (r : Nat → Bool) : (fireReached u r).divert.deglitch = u.divert.deglitch := by
  unfold fireReached
  split
  · split
    · exact fireClaim_deglitch u _
    · rfl
  · rfl

theorem passSlot_divert (u : State) : (passSlot u).divert = u.divert := by simp

theorem pulseRest_deglitch (d : State) (c : Nat) : (pulseRest d c).divert.deglitch = d.divert.deglitch := by
  unfold pulseRest
  rw [passSlot_divert, fireReached_deglitch, tested_divert]

theorem runSearch_divert (u : State) : (runSearch u).divert = u.divert := by simp
theorem sampleBoundary_divert (u : State) : (sampleBoundary u).divert = u.divert := by simp

/-- What the rest of a pulse leaves of the fire's outcome, when no window is open. -/
structure Rested (d t : State) : Prop where
  staging : t.staging = d.staging
  frames : ∀ f, Lasting f = true → HasFrame f d → HasFrame f t
  kept : Kept claimEvents d t

theorem rested_tests (d : State) : Rested d (if d.loop.aligned then testClaims d else d) := by
  have refl := kept_refl claimEvents d
  split
  · exact ⟨by simp, fun _ hf hd => hasFrame_testClaims hf hd, kept_testClaims (List.Subset.refl _) refl⟩
  · exact ⟨rfl, fun _ _ => id, refl⟩

theorem rested_fireReached {d₀ : State} (hr : Rested d₀ t) (h : NoWindow t) (r : Nat → Bool) :
    Rested d₀ (fireReached t r) := by
  obtain ⟨staging, frames, kept⟩ := hr
  rcases fireReached_noWindow h r with e | ⟨z, -, -, e⟩
  · rw [e]
    exact ⟨staging, frames, kept⟩
  · rw [e]
    refine ⟨?_, fun f hf hd => hasFrame_congr (frames f hf hd) (by simp [setFire, setOutput]), ?_⟩
    · simpa [setFire, setOutput] using staging
    · exact kept_modifyClaim (kept_setFire (kept_setOutput (kept_setFire kept _) _) _) _ _

theorem rested_passSlot {d₀ : State} (hr : Rested d₀ t) : Rested d₀ (passSlot t) := by
  obtain ⟨staging, frames, kept⟩ := hr
  refine ⟨(by simp : (passSlot t).staging = t.staging).trans staging, fun f hf hd => ?_,
    kept_passSlot (List.Subset.refl _) kept⟩
  unfold passSlot
  split
  · exact hasFrame_inductionPassage hf (frames f hf hd) _
  · exact frames f hf hd

theorem rested_runSearch {d₀ : State} (hr : Rested d₀ t) : Rested d₀ (runSearch t) := by
  obtain ⟨staging, frames, kept⟩ := hr
  exact ⟨(by simp : (runSearch t).staging = t.staging).trans staging,
    fun f hf hd => hasFrame_runSearch hf (frames f hf hd), kept_runSearch (List.Subset.refl _) kept⟩

theorem rested_pulseRest (h : NoWindow u) (c : Nat) : Rested u (runSearch (pulseRest u c)) := by
  have none : NoWindow (if u.loop.aligned then testClaims u else u) := fun f hf => h f (tested_divert u ▸ hf)
  exact rested_runSearch (rested_passSlot (rested_fireReached (rested_tests u) none _))

/-! ### The places and the claims through the rest of a pulse -/

theorem coreIs_pulseRest {y : Place} (hy : y.state ≠ .cancelling) (hb : CoreIs q y u) (c : Nat) :
    CoreIs q y (pulseRest u c) := by
  have fired := closed_testsAndFire (n := 0) (closed_core hy) hb (fun f => decide (f = c))
  exact (closed_core (q := q) hy).same (n := 0) (same_passSlot _) fired

theorem core_afterRest {y : Place} (hy : y.state ≠ .cancelling) (hb : CoreIs q y u) (c : Nat) :
    core (sampleBoundary (runSearch (pulseRest u c))) q = y := by
  have same := core_congr (same_sampleBoundary (runSearch (pulseRest u c))).plans q
  exact same.trans ((core_of_corePlans (corePlans_runSearch _) q).trans (coreIs_pulseRest hy hb c).2)

/-- A line of a place that stands but for its claimed counts. -/
theorem line_of_place (e : core t g.place = core s g.place) {l : Line} (hl : s.lineAt g = some l) :
    ∃ n, t.lineAt g = some { l with claimed := n } := by
  have line : (t.lineAt g).map unclaimed = (s.lineAt g).map unclaimed := by
    unfold State.lineAt
    rw [← line?_mapLines, ← line?_mapLines]
    exact congrArg (fun pl : Place => pl.line? g.tier g.line) e
  rw [hl, Option.map_some, Option.map_eq_some_iff] at line
  obtain ⟨k, hk, same⟩ := line
  simp only [unclaimed, Line.mk.injEq, true_and] at same
  obtain ⟨case, quantity, staged, placed⟩ := same
  exact ⟨k.claimed, by rw [hk, ← case, ← quantity, ← staged, ← placed]⟩

/-! ### The claims that no step of a pulse makes fire -/

theorem claimsFrom_endAndTest (h : ClaimsFrom s t) (k : Nat) (e : PendingEnd) : ClaimsFrom s (endAndTest t k e) := by
  unfold endAndTest
  split
  · exact h
  · refine claimsFrom_subset (claimsFrom_endUncommitted h k e) fun z hz => ?_
    rwa [cancelTest_claims] at hz

theorem claimsFrom_testClaim (h : ClaimsFrom s t) (k : Nat) : ClaimsFrom s (testClaim t k) := by
  have late := claimsFrom_modifyClaim h k (f := fun d => { d with late := true }) fun _ => ⟨rfl, rfl, rfl⟩
  unfold testClaim
  split
  · exact h
  · split
    · split
      · exact h
      · exact claimsFrom_endAndTest late k _
    · split
      · exact h
      · exact late
    · split
      · exact claimsFrom_modifyClaim h k fun _ => ⟨rfl, rfl, rfl⟩
      · exact h
    all_goals exact h

theorem claimsFrom_tests (h : ClaimsFrom s t) : ClaimsFrom s (if t.loop.aligned then testClaims t else t) := by
  split
  · exact foldl_induct (P := ClaimsFrom s) (fun _ k hu => claimsFrom_testClaim hu k) _ h
  · exact h

/-- R129: a position that no claim fires at makes no fire. -/
theorem fireReached_elsewhere (h : ClaimsFrom s t) {c : Nat} (hc : ∀ x ∈ s.contest.claims, x.firePos ≠ some c) :
    fireReached t (fun f => decide (f = c)) = t := by
  refine fireReached_none fun z hz => ?_
  obtain ⟨x, hx, -, -, e⟩ := h z hz
  have other := hc x hx
  unfold Claim.firesAt
  rw [← e]
  cases hp : x.firePos with
  | none => simp
  | some n =>
    have : n ≠ c := fun e => other (e ▸ hp)
    simp [this]

theorem pulseRest_divert (h : ClaimsFrom s u) {c : Nat} (hc : ∀ x ∈ s.contest.claims, x.firePos ≠ some c) :
    (pulseRest u c).divert = u.divert := by
  unfold pulseRest
  rw [passSlot_divert, fireReached_elsewhere (claimsFrom_tests h) hc, tested_divert]

end Sys2Proof.Laws
end

section
/-! SUPPORT. The Divert Unit's own steps at a forward pulse: a confirm edge accepted in a window, a confirm edge with no
fire, the end of the dwell, and the end of a window without a confirm edge (R130 to R136). -/

namespace Sys2Proof.Laws

open Sys2Proof Sys2Proof.Machine Sys2Proof.Safety

variable {s t u v : State} {j k m n : Nat} {c d x : Claim} {g h : Target} {p q : PlaceId} {f : Fire} {e : CounterEvent}

/-! ### What a pulse leaves until the Divert Unit -/

/-- The state of a pulse when it comes to the Divert Unit. -/
def atDivert (s : State) : State := gatePulse (atGate s)

theorem atTests_eq (s : State) : atTests s = divertPulse (atDivert s) := rfl

/-- With no MISSING slip the travel and the gate leave what the Divert Unit works on. -/
theorem atDivert_onTime (h : ¬MissesMark s) : (atDivert s).plans = s.plans ∧ (atDivert s).contest = s.contest ∧
    (atDivert s).view = s.view ∧ (atDivert s).divert = s.divert ∧ (atDivert s).staging = s.staging := by
  unfold atDivert
  rw [atGate_of_not_miss h]
  simp

theorem timing_atDivert (s : State) : (atDivert s).timing = s.timing := timing_of_config (by simp [atDivert])

theorem kept_atDivert (h : ¬MissesMark s) : Kept (.noRead :: claimEvents) s (atDivert s) := by
  unfold atDivert
  rw [atGate_of_not_miss h]
  exact kept_gatePulse List.mem_cons_self (kept_countPulse (kept_noteTravel (kept_refl _ s)))

theorem notices_atDivert (h : ¬MissesMark s) : (atDivert s).port.notices.length ≤ s.port.notices.length + 1 := by
  unfold atDivert
  rw [atGate_of_not_miss h]
  simpa using length_noteTravel s

theorem stopDivert_deglitch (s : State) : (stopDivert s).divert.deglitch = s.divert.deglitch := by
  unfold stopDivert
  dsimp only
  split
  · split <;> simp [setFire, setOutput]
  · rfl

theorem immediateWithdraw_divert (s : State) (r : Nat) :
    (immediateWithdraw s r).divert = (stopDivert (offerWithdraw (moveTo s .withdrawn) r)).divert := by
  unfold immediateWithdraw
  simp

/-- The deglitch state of the confirm eye stands until the Divert Unit, at a MISSING slip too (R141). -/
theorem atDivert_deglitch (s : State) : (atDivert s).divert.deglitch = s.divert.deglitch := by
  by_cases h : MissesMark s
  · have gate : (atDivert s).divert = (atGate s).divert := by simp [atDivert]
    rw [gate, atGate_of_miss h]
    unfold raiseSlip
    dsimp only
    rw [immediateWithdraw_divert, stopDivert_deglitch]
    simp [windowPassed]
  · rw [(atDivert_onTime h).2.2.2.1]

/-! ### The counts and the confirm eye (R130 steps 1 and 2, R133, R134, R136) -/

/-- A fire one pulse older. -/
def aged (f : Fire) : Fire := { f with dwell := f.dwell.map (· + 1), window := f.window.map (· + 1) }

theorem fireCountsPulse_fire (hf : s.divert.fire = some f) : fireCountsPulse s = setFire s (some (aged f)) := by
  unfold fireCountsPulse
  rw [hf]
  rfl

theorem fireCountsPulse_deglitch (s : State) : (fireCountsPulse s).divert.deglitch = s.divert.deglitch := by
  unfold fireCountsPulse
  split <;> rfl

theorem fireCountsPulse_timing (s : State) : (fireCountsPulse s).timing = s.timing := timing_of_config (by simp)

theorem confirmPulse_accepts (hd : s.divert.deglitch = .blocking n) (hn : s.timing.confirmDeglitch ≤ n + 1) :
    confirmPulse s = judgeConfirm (setConfirm s .blocked) := by
  unfold confirmPulse
  rw [hd]
  dsimp only
  rw [if_pos hn]

theorem confirmPulse_clears (hd : s.divert.deglitch = .clearing n) (hn : s.timing.confirmDeglitch ≤ n + 1) :
    confirmPulse s = setConfirm s .clear := by
  unfold confirmPulse
  rw [hd]
  dsimp only
  rw [if_pos hn]

/-- A pulse that accepts no confirm edge moves the deglitch alone. -/
theorem confirmPulse_early (h : ∀ n, s.divert.deglitch = .blocking n → ¬s.timing.confirmDeglitch ≤ n + 1) :
    ∃ d, confirmPulse s = setConfirm s d := by
  unfold confirmPulse
  split
  next n hd => exact ⟨_, if_neg (h n hd)⟩
  · split <;> exact ⟨_, rfl⟩
  all_goals exact ⟨_, rfl⟩

/-- R134: the window of a fire closed as TAKEN, counted for its place. -/
def takenTold (s : State) (f : Fire) : State := reportPlace (setFire s (some { f with window := none })) .taken f.place

theorem judgeConfirm_window (hf : s.divert.fire = some f) (hw : f.window = some n) :
    judgeConfirm s = outcomeTaken (takenTold s f) f.slot := by
  unfold judgeConfirm
  rw [hf]
  dsimp only
  rw [hw]
  rfl

theorem judgeConfirm_noFire (hf : s.divert.fire = none) : judgeConfirm s = reportPlain s .confirmStray := by
  unfold judgeConfirm
  rw [hf]

/-! ### The end of the dwell and of the window (R130 step 3, R132, R135) -/

/-- With no window open these steps move the fire and the output alone, and open none. -/
theorem fireEnd_noWindow (h : NoWindow s) : ∃ x : DivertUnit, discardFire (endWindow (endDwell s)) = s.setDivert x ∧
    x.deglitch = s.divert.deglitch ∧ ∀ f, x.fire = some f → f.window = none := by
  have dwelt : ∃ x : DivertUnit, endDwell s = s.setDivert x ∧ x.deglitch = s.divert.deglitch ∧
      ∀ f, x.fire = some f → f.window = none := by
    unfold endDwell
    split
    next f hf =>
      split
      · split
        · refine ⟨_, rfl, rfl, fun g hg => ?_⟩
          cases hg
          exact h f hf
        · exact ⟨s.divert, rfl, rfl, h⟩
      · exact ⟨s.divert, rfl, rfl, h⟩
    · exact ⟨s.divert, rfl, rfl, h⟩
  obtain ⟨x, e, deglitch, none⟩ := dwelt
  have window : endWindow (s.setDivert x) = s.setDivert x := by
    unfold endWindow
    split
    next f hf => rw [none f hf]
    · rfl
  rw [e, window]
  unfold discardFire
  split
  · split
    · exact ⟨{ x with fire := .none }, rfl, deglitch, fun _ hf => nomatch hf⟩
    · exact ⟨x, rfl, deglitch, none⟩
  · exact ⟨x, rfl, deglitch, none⟩

theorem endWindow_closes (hf : s.divert.fire = some f) (hw : f.window = some n) (hn : s.timing.confirmWindow ≤ n) :
    endWindow s = outcomeMissed (missTold s f) f.slot := by
  unfold endWindow
  rw [hf]
  dsimp only
  rw [hw]
  dsimp only
  rw [if_pos hn]
  rfl

/-- The end of the dwell leaves the window and the slot of the fire. -/
theorem endDwell_fire (hf : s.divert.fire = some f) : ∃ g, (endDwell s).divert.fire = some g ∧ g.slot = f.slot ∧
    g.place = f.place ∧ g.window = f.window := by
  unfold endDwell
  rw [hf]
  dsimp only
  split
  · split
    · exact ⟨_, rfl, rfl, rfl, rfl⟩
    · exact ⟨f, hf, rfl, rfl, rfl⟩
  · exact ⟨f, hf, rfl, rfl, rfl⟩

theorem discardFire_noWindow (h : NoWindow s) : NoWindow (discardFire s) := by
  unfold discardFire
  split
  next f hf =>
    split
    · exact fun _ hg => nomatch hg
    · exact h
  next => exact h

/-- The end of the dwell and of the window leave the confirm eye. -/
theorem fireEnd_deglitch (s : State) :
    (discardFire (endWindow (endDwell s))).divert.deglitch = s.divert.deglitch := by
  have dwell : (endDwell s).divert.deglitch = s.divert.deglitch := by
    unfold endDwell
    (repeat' split) <;> rfl
  have window : ∀ u, (endWindow u).divert.deglitch = u.divert.deglitch := fun u => by
    unfold endWindow
    (repeat' split) <;> simp [closeMissed, setFire]
  have discard : ∀ u, (discardFire u).divert.deglitch = u.divert.deglitch := fun u => by
    unfold discardFire
    (repeat' split) <;> rfl
  rw [discard, window, dwell]

/-! ### The counters through a pulse -/

/-- A sample of the pitch boundary leaves the count of an event. -/
theorem countedOnce_sampled {E : List CounterEvent} (he : ¬IsSum e) (hk : Counted E s.counters u.counters)
    (h : CountedOnce s u e p) : CountedOnce s (sampleBoundary u) e p := by
  intro i hi
  rw [sampleBoundary_silent he ((hk.event i).trans hi.1)]
  exact h i hi

/-! ### The dwell -/

/-- The output is OFF, and a fire in progress is that of slot k, its dwell over. -/
def DwellOver (k : Nat) (x : DivertUnit) : Prop := x.output = false ∧ ∀ g, x.fire = some g → g.slot = k ∧ g.dwell = none

/-- A fire of slot k whose dwell has run for n pulses. -/
def Dwells (k n : Nat) (x : DivertUnit) : Prop := ∃ g, x.fire = some g ∧ g.slot = k ∧ g.dwell = some n

theorem dwells_confirmPulse (h : Dwells k n s.divert) : Dwells k n (confirmPulse s).divert := by
  obtain ⟨g, hg, slot, dwell⟩ := h
  have judged : ∀ d, Dwells k n (judgeConfirm (setConfirm s d)).divert := by
    intro d
    unfold judgeConfirm
    rw [show (setConfirm s d).divert.fire = some g from hg]
    dsimp only
    split
    · refine ⟨{ g with window := none }, ?_, slot, dwell⟩
      simp [confirmTaken, setFire]
    · exact ⟨g, hg, slot, dwell⟩
  have held : ∀ d, Dwells k n (setConfirm s d).divert := fun d => ⟨g, hg, slot, dwell⟩
  unfold confirmPulse
  split
  · split
    · exact judged _
    · exact held _
  · split <;> exact held _
  all_goals exact ⟨g, hg, slot, dwell⟩

theorem dwellOver_endDwell (h : Dwells k n s.divert) (hn : s.timing.dwell ≤ n) : DwellOver k (endDwell s).divert := by
  obtain ⟨g, hg, slot, dwell⟩ := h
  unfold endDwell
  rw [hg]
  dsimp only
  rw [dwell]
  dsimp only
  rw [if_pos hn]
  refine ⟨rfl, fun g' hg' => ?_⟩
  cases hg'
  exact ⟨slot, rfl⟩

theorem dwellOver_endWindow (h : DwellOver k s.divert) : DwellOver k (endWindow s).divert := by
  obtain ⟨off, ended⟩ := h
  unfold endWindow
  split
  next f hf =>
    split
    · split
      · refine ⟨by simpa [closeMissed, setFire] using off, fun g hg => ?_⟩
        have : g = { f with window := none } := by simpa [closeMissed, setFire] using hg.symm
        rw [this]
        exact ended f hf
      · exact ⟨off, ended⟩
    · exact ⟨off, ended⟩
  · exact ⟨off, ended⟩

theorem dwellOver_discardFire (h : DwellOver k s.divert) : DwellOver k (discardFire s).divert := by
  obtain ⟨off, ended⟩ := h
  unfold discardFire
  split
  · split
    · exact ⟨off, fun _ hg => nomatch hg⟩
    · exact ⟨off, ended⟩
  · exact ⟨off, ended⟩

/-- R132: the pulse that brings the dwell count to the dwell ends it. -/
theorem dwellOver_divertPulse (hf : s.divert.fire = some f) (hw : f.dwell = some n) (hn : s.timing.dwell ≤ n + 1) :
    DwellOver f.slot (divertPulse s).divert := by
  have counted : Dwells f.slot (n + 1) (fireCountsPulse s).divert := by
    rw [fireCountsPulse_fire hf]
    exact ⟨aged f, rfl, rfl, by simp [aged, hw]⟩
  have timing : (confirmPulse (fireCountsPulse s)).timing = s.timing := timing_of_config (by simp)
  have ended := dwellOver_endDwell (dwells_confirmPulse counted) (by rwa [timing])
  exact dwellOver_discardFire (dwellOver_endWindow ended)

/-- R132: and nothing of the pulse turns the output ON again, unless a claim fires where it ends. -/
theorem dwellOver_forwardPulse (hs : s.part.state ≠ .start) (hf : s.divert.fire = some f) (hw : f.dwell = some n)
    (hn : s.timing.dwell ≤ n + 1) (hc : ∀ x ∈ s.contest.claims, x.firePos ≠ some (reached s)) :
    DwellOver f.slot (forwardPulse s).divert := by
  by_cases hm : MissesMark s
  · obtain ⟨-, -, withdrawn⟩ := forwardPulse_missing hs hm
    exact ⟨withdrawn.output, fun g hg => nomatch withdrawn.fire.symm.trans hg⟩
  · obtain ⟨-, contest, -, divert, -⟩ := atDivert_onTime hm
    have ended := dwellOver_divertPulse (s := atDivert s) (by rw [divert]; exact hf) hw (by rwa [timing_atDivert])
    have from_ : ClaimsFrom s (atTests s) := by
      refine claimsFrom_subset (claimsFrom_refl s) fun z hz => ?_
      rw [← contest]
      exact (fireEnds_divertPulse (fireEnds_refl (atDivert s))).fewer z hz
    rw [forwardPulse_atTests hs, sampleBoundary_divert, runSearch_divert, pulseRest_divert from_ hc]
    exact ended

end Sys2Proof.Laws
end

section
/-! SUPPORT. The outcomes of a fire at a forward pulse: TAKEN, a stray, and MISSED (R120, R134 to R136, R145, R146). -/

namespace Sys2Proof.Laws

open Sys2Proof Sys2Proof.Machine Sys2Proof.Safety

variable {s t u v : State} {j k m n : Nat} {c d x : Claim} {g h : Target} {p q : PlaceId} {f : Fire} {e : CounterEvent}

theorem rested_trans {d u : State} (h : Rested d t) (h' : Rested t u) : Rested d u :=
  ⟨h'.staging.trans h.staging, fun f hf hd => h'.frames f hf (h.frames f hf hd), kept_trans h.kept h'.kept⟩

theorem rested_setDivert (u : State) (x : DivertUnit) : Rested u (u.setDivert x) :=
  ⟨rfl, fun _ _ => id, kept_setDivert (kept_refl _ u) x⟩

/-- The claims through the rest of a pulse. -/
theorem claimsFrom_pulseRest (h : NoWindow u) (c : Nat) : ClaimsFrom u (pulseRest u c) := by
  have tests := claimsFrom_tests (claimsFrom_refl u)
  have none : NoWindow (if u.loop.aligned then testClaims u else u) := fun f hf => h f (tested_divert u ▸ hf)
  have fired : ClaimsFrom u (fireReached (if u.loop.aligned then testClaims u else u) (fun f => decide (f = c))) := by
    rcases fireReached_noWindow none (fun f => decide (f = c)) with e | ⟨z, -, -, e⟩
    · rwa [e]
    · rw [e]
      exact claimsFrom_modifyClaim (claimsFrom_subset tests fun _ => id) _ fun _ => ⟨rfl, rfl, rfl⟩
  exact claimsFrom_subset fired fun z hz => (same_passSlot _).claims ▸ hz

/-! ### TAKEN (R120, R134, R145, R146) -/

/-- R120: the case of a taken claim is the view entry's, or the line's where the entry holds none. -/
theorem takenCase_cases (s : State) (x : Claim) : takenCase s x = match s.viewAt x.slot, s.lineAt x.target with
    | .free (some d) _, _ => d
    | .claimed (some d) _ _ _, _ => d
    | .disputed d _, _ => d
    | _, some l => l.case
    | _, none => takenCase s x := by
  cases hl : s.lineAt x.target with
  | none =>
    cases hv : s.viewAt x.slot with
    | empty => rfl
    | free d y => cases d <;> simp [takenCase, hv]
    | claimed d y z w => cases d <;> simp [takenCase, hv]
    | disputed d y => simp [takenCase, hv]
  | some l =>
    cases hv : s.viewAt x.slot with
    | empty => simp [takenCase, hv, hl]
    | free d y => cases d <;> simp [takenCase, hv, hl]
    | claimed d y z w => cases d <;> simp [takenCase, hv, hl]
    | disputed d y => simp [takenCase, hv]

theorem takenCase_congr (view : t.view = s.view) (plans : t.plans = s.plans) (x : Claim) : takenCase t x = takenCase s x := by
  unfold takenCase
  rw [lineAt_congr plans, show t.viewAt x.slot = s.viewAt x.slot by unfold State.viewAt; rw [view]]

/-- The state in which the outcome TAKEN of a fire f is decided: the edge accepted, the window closed, the event counted. -/
def takenAt (s : State) (f : Fire) : State := takenTold (setConfirm (setFire (atDivert s) (some (aged f))) .blocked) (aged f)

theorem takenAt_onTime (h : ¬MissesMark s) (f : Fire) : (takenAt s f).plans = s.plans ∧
    (takenAt s f).contest = s.contest ∧ (takenAt s f).view = s.view ∧ (takenAt s f).staging = s.staging := by
  obtain ⟨plans, contest, view, -, staging⟩ := atDivert_onTime h
  unfold takenAt takenTold
  simp [setFire, setConfirm, plans, contest, view, staging]

theorem takenAt_divert (s : State) (f : Fire) : (takenAt s f).divert.deglitch = .blocked ∧ NoWindow (takenAt s f) := by
  unfold takenAt takenTold
  refine ⟨by simp [setFire, setConfirm], fun g hg => ?_⟩
  have : g = { aged f with window := none } := by simpa [setFire, setConfirm] using hg.symm
  rw [this]

theorem firingClaim_congr (h : t.contest = s.contest) (k : Nat) : firingClaim t k = firingClaim s k := by
  unfold firingClaim
  rw [h]

/-- R134: the pulse that accepts a confirm edge in an open window. -/
theorem forwardPulse_taken (hs : s.part.state ≠ .start) (hm : ¬MissesMark s) (hd : s.divert.deglitch = .blocking n)
    (hn : s.timing.confirmDeglitch ≤ n + 1) (hf : s.divert.fire = some f) (hw : f.window = some m) :
    ∃ x, forwardPulse s = sampleBoundary (runSearch (pulseRest ((outcomeTaken (takenAt s f) f.slot).setDivert x) (reached s))) ∧
      x.deglitch = .blocked ∧
      Rested (outcomeTaken (takenAt s f) f.slot)
        (runSearch (pulseRest ((outcomeTaken (takenAt s f) f.slot).setDivert x) (reached s))) := by
  have divert := (atDivert_onTime hm).2.2.2.1
  have timing := timing_atDivert s
  generalize hv : atDivert s = v at divert timing
  have accepts : confirmPulse (fireCountsPulse v) = outcomeTaken (takenAt s f) f.slot := by
    rw [confirmPulse_accepts (n := n) (by rw [fireCountsPulse_deglitch, divert, hd])
      (by rw [fireCountsPulse_timing, timing]; exact hn), fireCountsPulse_fire (f := f) (by rw [divert, hf]),
      judgeConfirm_window (n := m + 1) (f := aged f) rfl (by simp [aged, hw])]
    unfold takenAt
    rw [hv]
    rfl
  obtain ⟨deglitch, none⟩ := takenAt_divert s f
  have same : (outcomeTaken (takenAt s f) f.slot).divert = (takenAt s f).divert := by simp
  obtain ⟨x, ended, kept, shut⟩ := fireEnd_noWindow (s := outcomeTaken (takenAt s f) f.slot)
    (fun g hg => none g (same ▸ hg))
  have tests : atTests s = (outcomeTaken (takenAt s f) f.slot).setDivert x := by
    rw [atTests_eq, hv, ← ended]
    unfold divertPulse
    rw [accepts]
  refine ⟨x, by rw [forwardPulse_atTests hs, tests], by rw [kept, same, deglitch], ?_⟩
  exact rested_trans (rested_setDivert _ x) (rested_pulseRest (u := (outcomeTaken (takenAt s f) f.slot).setDivert x) shut _)

/-- The state of a taken case once it is staged. -/
def staged (u : State) (x : Claim) : State := stageTaken (dropClaim u x) x (takenCase u x)

theorem outcomeTaken_firing (hx : firingClaim u k = some x) : outcomeTaken u k =
    cancelTest (offerFrame (staged u x) (.taken k x.target.place)) x.target.place := by
  unfold outcomeTaken
  rw [hx]
  rfl

theorem kept_afterStaged (hx : firingClaim u k = some x) : Kept claimEvents (staged u x) (outcomeTaken u k) := by
  rw [outcomeTaken_firing hx]
  exact kept_cancelTest (kept_offerFrame (List.Subset.refl _) (kept_refl _ _) _) _

theorem hasFrame_outcomeTaken (hx : firingClaim u k = some x) :
    HasFrame (.taken k x.target.place) (outcomeTaken u k) := by
  rw [outcomeTaken_firing hx]
  exact hasFrame_cancelTest (hasFrame_offered rfl _) _

/-- R145: the state of the record made of a taken claim. -/
def takenState (s : State) (x : Claim) : RecordState :=
  if x.suspect then .suspect
  else if (s.place x.target.place).state = .building ∧ (s.place x.target.place).currentTier = some x.target.tier
  then .placeable else .waiting

theorem header_dropClaim (u : State) (x : Claim) (q : PlaceId) : header ((dropClaim u x).place q) = header (u.place q) :=
  header_of_core (corePlans_dropClaim u x) q

theorem newRecordState_dropClaim (u : State) (x : Claim) : newRecordState (dropClaim u x) x.target x.suspect = takenState u x := by
  unfold newRecordState takenState
  rw [state_of_header (header_dropClaim u x _), currentTier_of_header (header_dropClaim u x _)]

/-- R145: a case staged for a place BUILDING or SUSPENDED. -/
theorem staged_for (h : (u.place x.target.place).state = .building ∨ (u.place x.target.place).state = .suspended) :
    staged u x = offerNotice (modifyLine (makeRecord (dropClaim u x) x.slot (takenCase u x) (some x.target) (takenState u x))
      x.target (fun l => { l with staged := l.staged + 1 })) (.caseStaged u.staging.nextArrival x.target (takenState u x)) := by
  have state := state_of_header (header_dropClaim u x x.target.place)
  unfold staged stageTaken
  dsimp only
  rw [state, newRecordState_dropClaim]
  rcases h with h | h <;> rw [h] <;> rfl

/-- R146: a case staged for a place that takes none any longer. -/
theorem staged_orphan (hb : (u.place x.target.place).state ≠ .building)
    (hs : (u.place x.target.place).state ≠ .suspended) : staged u x =
    offerNotice (makeRecord (dropClaim u x) x.slot (takenCase u x) none .orphan) (.caseOrphaned u.staging.nextArrival) := by
  have state := state_of_header (header_dropClaim u x x.target.place)
  unfold staged stageTaken
  dsimp only
  rw [state]
  cases hp : (u.place x.target.place).state with
  | building => exact absurd hp hb
  | suspended => exact absurd hp hs
  | empty | loading | complete | cancelling => rfl

theorem makeRecord_records (u : State) (k : Nat) (a : CaseId) (o : Option Target) (st : RecordState) :
    (makeRecord u k a o st).staging.records = u.staging.records ++ [⟨u.staging.nextArrival, k, a, o, st⟩] := rfl

theorem offerNotice_plans (s : State) (x : Notice) : (offerNotice s x).plans = s.plans := by simp

/-- R27, R145: the line of the case staged. -/
theorem staged_line (h : (u.place x.target.place).state = .building ∨ (u.place x.target.place).state = .suspended)
    {l : Line} (hl : u.lineAt x.target = some l) :
    ∃ n, (staged u x).lineAt x.target = some { l with claimed := n, staged := l.staged + 1 } := by
  obtain ⟨n, hn⟩ := line_of_core (corePlans_dropClaim u x) hl
  refine ⟨n, ?_⟩
  rw [staged_for h, lineAt_congr (offerNotice_plans _ _), lineAt_modifyLine_self,
    lineAt_congr (s := dropClaim u x) (by simp), hn]
  rfl

theorem header_staged (u : State) (x : Claim) (q : PlaceId) : header ((staged u x).place q) = header (u.place q) := by
  have dropped := header_dropClaim u x q
  have made : ∀ a b st, header ((makeRecord (dropClaim u x) a (takenCase u x) b st).place q) = header (u.place q) := by
    intro a b st
    rw [place_congr (s := dropClaim u x) (by simp)]
    exact dropped
  have told : ∀ (w : State) (y : Notice), header ((offerNotice w y).place q) = header (w.place q) := fun w y => by
    rw [place_congr (s := w) (by simp)]
  unfold staged stageTaken
  dsimp only
  split
  iterate 2 rw [told, header_modifyLine]; exact made _ _ _
  all_goals rw [told]; exact made _ _ _

/-! ### The line of an outcome -/

/-- The books of a part within its laws (Running, CountLaw) for a line of a place that is open. -/
theorem book_of_laws (hr : Running s) (hc : CountLaw s) (hx : x ∈ s.contest.claims)
    (hp : (s.place x.target.place).state = .building ∨ (s.place x.target.place).state = .suspended) : Book x.target s := by
  obtain ⟨tier, line, isSome, -⟩ := hc.claims x hx
  obtain ⟨l, hl⟩ := Option.isSome_iff_exists.1 isSome
  refine ⟨hr.tables.once, ?_, fun c hm => ?_, fun p t hb ht => ?_, l, hl, (hc.lines _ l tier line hl).1⟩
  · rcases hp with hp | hp <;> rw [hp] <;> decide
  · obtain ⟨tier, line, -⟩ := hc.claims c hm
    exact ⟨tier, line⟩
  · obtain ⟨t', n, current, -, first, -⟩ := (hc.tiers p).building (.inl hb)
    rw [ht, Option.some.injEq] at current
    exact current ▸ first

end Sys2Proof.Laws
end

section
/-! SUPPORT. The rows of the Divert Unit, each read off the forward pulse it names (R130 to R136). -/

namespace Sys2Proof.Laws

open Sys2Proof Sys2Proof.Machine Sys2Proof.Safety

variable {s t u v : State} {j k m n : Nat} {c d x : Claim} {g h : Target} {p q : PlaceId} {f : Fire} {e : CounterEvent}

theorem sampleBoundary_staging (u : State) : (sampleBoundary u).staging = u.staging := by simp
theorem sampleBoundary_notices (u : State) : (sampleBoundary u).port.notices = u.port.notices := by simp

theorem kept_mono {E F : List CounterEvent} (hE : E ⊆ F) (h : Kept E s t) : Kept F s t :=
  ⟨h.config, h.started, h.aligned, h.mismatch, h.counted.mono hE, h.notices⟩

/-! ### The rows -/

theorem execConfirmEdge_due (hs : s.part.state ≠ .start) (hd : s.divert.deglitch = .blocking n)
    (hn : s.timing.confirmDeglitch ≤ n + 1) : exec .confirmEdge s = .next (forwardPulse s) := by
  have due : confirmEdgeDue s = true := by
    unfold confirmEdgeDue
    rw [hd]
    simp [State.started, hs, hn]
  exact congrArg Host.Outcome.next (if_pos due)

theorem execConfirmCleared_due (hs : s.part.state ≠ .start) (hd : s.divert.deglitch = .clearing n)
    (hn : s.timing.confirmDeglitch ≤ n + 1) : exec .confirmCleared s = .next (forwardPulse s) := by
  have due : confirmClearDue s = true := by
    unfold confirmClearDue
    rw [hd]
    simp [State.started, hs, hn]
  exact congrArg Host.Outcome.next (if_pos due)

theorem execDwellEnd_due (hs : s.part.state ≠ .start) (hf : s.divert.fire = some f) (hw : f.dwell = some n)
    (hn : s.timing.dwell ≤ n + 1) : exec .dwellEnd s = .next (forwardPulse s) := by
  have due : dwellEndDue s = true := by simp [dwellEndDue, State.started, hs, hf, hw, hn]
  exact congrArg Host.Outcome.next (if_pos due)

theorem execWindowClosedMissed_due (hs : s.part.state ≠ .start) (hf : s.divert.fire = some f) (hw : f.window = some n)
    (hn : s.timing.confirmWindow ≤ n + 1) (he : confirmEdgeDue s = false) :
    exec .windowClosedMissed s = .next (forwardPulse s) := by
  have due : windowMissDue s = true := by simp [windowMissDue, State.started, hs, hf, hw, hn, he]
  exact congrArg Host.Outcome.next (if_pos due)

/-- R13: the MISSING slip, as the rows state its condition. -/
theorem missesMark_of (h : ¬(s.loop.aligned = true ∧ (s.loop.counter + 1) % s.loopLen = s.timing.tolerance + 1 ∧
    (s.loop.markAwaited = true ∨ (s.loop.counter + 1) % s.loopLen + s.timing.tolerance = s.loopLen))) : ¬MissesMark s :=
  fun ⟨aligned, awaited, window⟩ => h ⟨aligned, window, awaited.imp_right And.right⟩

/-! ### TAKEN -/

/-- The pulse that decides TAKEN for the fire f, whose entry is x. -/
structure Takes (s : State) (f : Fire) (x : Claim) : Prop where
  started : s.part.state ≠ .start
  onTime : ¬MissesMark s
  edge : ∃ n, s.divert.deglitch = .blocking n ∧ s.timing.confirmDeglitch ≤ n + 1
  fire : s.divert.fire = some f
  window : ∃ m, f.window = some m
  entry : firingClaim s f.slot = some x

theorem Takes.firing (h : Takes s f x) : firingClaim (takenAt s f) f.slot = some x :=
  (firingClaim_congr (takenAt_onTime h.onTime f).2.1 _).trans h.entry

theorem Takes.place (h : Takes s f x) (q : PlaceId) : (takenAt s f).place q = s.place q :=
  place_congr (takenAt_onTime h.onTime f).1 _

theorem Takes.rested (h : Takes s f x) : ∃ y, forwardPulse s =
      sampleBoundary (runSearch (pulseRest ((outcomeTaken (takenAt s f) f.slot).setDivert y) (reached s))) ∧
    y.deglitch = .blocked ∧ Rested (outcomeTaken (takenAt s f) f.slot)
      (runSearch (pulseRest ((outcomeTaken (takenAt s f) f.slot).setDivert y) (reached s))) := by
  obtain ⟨n, hd, hn⟩ := h.edge
  obtain ⟨m, hw⟩ := h.window
  exact forwardPulse_taken h.started h.onTime hd hn h.fire hw

theorem Takes.deglitch (h : Takes s f x) : (forwardPulse s).divert.deglitch = .blocked := by
  obtain ⟨y, pulse, blocked, -⟩ := h.rested
  rw [pulse, sampleBoundary_divert, runSearch_divert, pulseRest_deglitch]
  exact blocked

theorem Takes.told (h : Takes s f x) : HasFrame (.taken f.slot x.target.place) (forwardPulse s) := by
  obtain ⟨y, pulse, -, after⟩ := h.rested
  rw [pulse]
  exact hasFrame_congr (after.frames _ rfl (hasFrame_outcomeTaken h.firing)) (by simp)

/-- R120: the outcome reports no event but those of the claims that it ends. -/
theorem kept_outcomeTaken (u : State) (k : Nat) : Kept claimEvents u (outcomeTaken u k) := by
  unfold outcomeTaken
  split
  · exact kept_cancelTest (kept_offerFrame (List.Subset.refl _) (kept_stageTaken (kept_dropClaim (kept_refl _ u) _) _ _) _) _
  · exact kept_refl _ u

theorem Takes.counted (h : Takes s f x) : CountedOnce s (forwardPulse s) .taken f.place := by
  obtain ⟨y, pulse, -, after⟩ := h.rested
  have before := kept_setConfirm (kept_setFire (kept_atDivert h.onTime) (some (aged f))) .blocked
  have closed := kept_setFire before (some { aged f with window := none })
  have later : Kept (.noRead :: claimEvents) (takenAt s f) _ :=
    kept_mono (List.subset_cons_self _ _) (kept_trans (kept_outcomeTaken _ f.slot) after.kept)
  have whole : Kept (.taken :: .noRead :: claimEvents) s (takenAt s f) :=
    kept_reportPlace (kept_mono (List.subset_cons_self _ _) closed) List.mem_cons_self _
  rw [pulse]
  exact countedOnce_sampled (by simp [IsSum])
    (whole.counted.trans (kept_mono (List.subset_cons_self _ _) later).counted)
    (countedOnce_between (by decide) closed.counted later.counted)

theorem Takes.staging (h : Takes s f x) : (forwardPulse s).staging = (staged (takenAt s f) x).staging := by
  obtain ⟨y, pulse, -, after⟩ := h.rested
  rw [pulse, sampleBoundary_staging, after.staging, outcomeTaken_firing h.firing]
  simp

theorem Takes.noticed (h : Takes s f x) {y : Notice} (hy : y ∈ (staged (takenAt s f) x).port.notices) :
    y ∈ (forwardPulse s).port.notices := by
  obtain ⟨z, pulse, -, after⟩ := h.rested
  rw [pulse, sampleBoundary_notices]
  exact after.kept.notices.subset ((kept_afterStaged h.firing).notices.subset hy)

theorem Takes.room (h : Takes s f x) (hl : s.port.notices.length + 2 ≤ 32) :
    (takenAt s f).port.notices.length < 32 := by
  have := notices_atDivert h.onTime
  have same : (takenAt s f).port = (atDivert s).port := by simp [takenAt, takenTold, setFire, setConfirm]
  rw [same]
  omega

theorem Takes.records (h : Takes s f x)
    (hp : (s.place x.target.place).state = .building ∨ (s.place x.target.place).state = .suspended) :
    (forwardPulse s).staging.records = s.staging.records ++
      [⟨s.staging.nextArrival, x.slot, takenCase s x, some x.target, takenState s x⟩] ∧
    (s.port.notices.length + 2 ≤ 32 →
      .caseStaged s.staging.nextArrival x.target (takenState s x) ∈ (forwardPulse s).port.notices) := by
  obtain ⟨plans, -, view, staging⟩ := takenAt_onTime h.onTime f
  have case := takenCase_congr view plans x
  have state : takenState (takenAt s f) x = takenState s x := by unfold takenState; rw [h.place]
  have made := staged_for (u := takenAt s f) (x := x) (by rwa [h.place])
  rw [case, state, staging] at made
  constructor
  · rw [h.staging, made]
    simp [makeRecord_records, staging]
  · intro hl
    refine h.noticed ?_
    rw [made]
    exact mem_offerNotice (by simpa using h.room hl) _

theorem Takes.orphaned (h : Takes s f x) (hp : (s.place x.target.place).state = .cancelling) :
    (forwardPulse s).staging.records = s.staging.records ++
      [⟨s.staging.nextArrival, x.slot, takenCase s x, none, .orphan⟩] ∧
    (s.port.notices.length + 2 ≤ 32 → .caseOrphaned s.staging.nextArrival ∈ (forwardPulse s).port.notices) := by
  obtain ⟨plans, -, view, staging⟩ := takenAt_onTime h.onTime f
  have case := takenCase_congr view plans x
  have made := staged_orphan (u := takenAt s f) (x := x) (by rw [h.place, hp]; decide) (by rw [h.place, hp]; decide)
  rw [case, staging] at made
  constructor
  · rw [h.staging, made]
    simp [makeRecord_records, staging]
  · intro hl
    refine h.noticed ?_
    rw [made]
    exact mem_offerNotice (by simpa using h.room hl) _

theorem coreIs_setDivert {y : Place} (h : CoreIs q y u) (z : DivertUnit) : CoreIs q y (u.setDivert z) := h

theorem core_state (u : State) (q : PlaceId) : (core u q).state = (u.place q).state := rfl

theorem once_staged (hn : OncePerSlot u) (x : Claim) : OncePerSlot (staged u x) :=
  once_congr (s := dropClaim u x) (by simp [staged]) (once_dropClaim hn x)

/-- R120, R39: what follows the staging of a case leaves a place that is not CANCELLING. -/
theorem coreIs_outcomeTaken {y : Place} (hx : firingClaim u k = some x) (hy : y.state ≠ .cancelling)
    (h : CoreIs q y (staged u x)) : CoreIs q y (outcomeTaken u k) := by
  obtain ⟨once, same⟩ := h
  have frame := plans_offerFrame (staged u x) (.taken k x.target.place)
  have offered := (core_congr frame q).trans same
  rw [outcomeTaken_firing hx]
  exact ⟨once_congr (by simp) once, (core_cancelTest (by rwa [offered]) _).trans offered⟩

/-- The place of the case staged, but for its claimed counts, through the rest of the pulse. -/
theorem Takes.coreKept (h : Takes s f x) (hn : OncePerSlot s)
    (hp : (s.place x.target.place).state = .building ∨ (s.place x.target.place).state = .suspended) :
    core (forwardPulse s) x.target.place = core (staged (takenAt s f) x) x.target.place := by
  obtain ⟨y, pulse, -, -⟩ := h.rested
  have contest := (takenAt_onTime h.onTime f).2.1
  have state : ((staged (takenAt s f) x).place x.target.place).state = (s.place x.target.place).state := by
    rw [state_of_header (header_staged _ x _), h.place]
  have live : (core (staged (takenAt s f) x) x.target.place).state ≠ .cancelling := by
    rw [core_state, state]
    rcases hp with hp | hp <;> rw [hp] <;> decide
  have once := once_staged (once_congr (congrArg ContestUnit.claims contest) hn) x
  have outcome := coreIs_outcomeTaken (q := x.target.place) h.firing live ⟨once, rfl⟩
  rw [pulse]
  exact core_afterRest live (coreIs_setDivert outcome y) _

theorem Takes.line (h : Takes s f x) (hr : Running s) (hc : CountLaw s)
    (hp : (s.place x.target.place).state = .building ∨ (s.place x.target.place).state = .suspended) {l : Line}
    (hl : s.lineAt x.target = some l) : ∃ l', (forwardPulse s).lineAt x.target = some l' ∧ l'.case = l.case ∧
      l'.quantity = l.quantity ∧ l'.staged = l.staged + 1 ∧ l'.placed = l.placed ∧
      l'.claimed = claimsOn (forwardPulse s) x.target := by
  have hx := (firingClaim_some h.entry).1
  have book := book_of_laws hr hc hx hp
  obtain ⟨l', hl', count⟩ := (book_forwardPulse (book.claims x hx) h.started book).line
  obtain ⟨n, made⟩ := staged_line (u := takenAt s f) (x := x) (by rwa [h.place])
    ((lineAt_congr (takenAt_onTime h.onTime f).1 _).trans hl)
  obtain ⟨n', after⟩ := line_of_place (h.coreKept hr.tables.once hp) made
  obtain rfl : l' = { l with claimed := n', staged := l.staged + 1 } := Option.some.inj (hl'.symm.trans after)
  exact ⟨_, hl', rfl, rfl, rfl, rfl, count⟩

/-! ### A stray (R136) -/

theorem forwardPulse_stray (hs : s.part.state ≠ .start) (hd : s.divert.deglitch = .blocking n)
    (hn : s.timing.confirmDeglitch ≤ n + 1) (hf : s.divert.fire = none) (ha : s.loop.aligned = false)
    (hr : s.loop.running = true) (he : s.gate.edges = []) (hg : s.gate.deglitch = .clear)
    (hq : s.contest.searchDue = false) :
    forwardPulse s = report ((counted s).setDivert { s.divert with deglitch := .blocked }) .confirmStray none none := by
  have gate : gatePulse (counted s) = counted s := gatePulse_quiet (s := counted s) he (.inl hg)
  have timing : (counted s).timing = s.timing := timing_of_config rfl
  have divert : divertPulse (counted s) =
      report ((counted s).setDivert { s.divert with deglitch := .blocked }) .confirmStray none none := by
    rw [divertPulse_noFire (s := counted s) hf, confirmPulse_accepts (s := counted s) hd (by rwa [timing]),
      judgeConfirm_noFire (s := setConfirm (counted s) .blocked) hf]
    rfl
  have tests : atTests s = report ((counted s).setDivert { s.divert with deglitch := .blocked }) .confirmStray none none := by
    rw [atTests_eq, atDivert, atGate_unaligned ha hr, gate, divert]
  rw [forwardPulse_atTests hs, tests]
  generalize hu : report ((counted s).setDivert { s.divert with deglitch := .blocked }) .confirmStray none none = u
  have aligned : u.loop.aligned = false := by
    rw [← hu]
    exact ha
  have due : u.contest.searchDue = false := by
    rw [← hu]
    exact hq
  have boundary : atBoundary u = false := by simp [atBoundary, aligned]
  have rest : pulseRest u (reached s) = u := by
    unfold pulseRest fireReached passSlot
    simp [aligned, boundary]
  rw [rest, runSearch_quiet due]
  unfold sampleBoundary
  rw [boundary, if_neg (by decide)]

/-! ### MISSED (R135) -/

/-- The pulse that completes the window of the fire f, whose entry is x, and accepts no confirm edge. -/
structure Misses (s : State) (f : Fire) (x : Claim) : Prop where
  started : s.part.state ≠ .start
  noEdge : confirmEdgeDue s = false
  fire : s.divert.fire = some f
  window : ∃ n, f.window = some n ∧ s.timing.confirmWindow ≤ n + 1
  entry : s.claimAt f.slot = some x
  firing : x.state = .firing

theorem firingClaim_of_claimAt (h : s.claimAt k = some x) (hx : x.state = .firing) : firingClaim s k = some x := by
  obtain ⟨hk, front, back, split, before⟩ := List.find?_eq_some_iff_append.1 h
  refine List.find?_eq_some_iff_append.2 ⟨by simpa [hx] using hk, front, back, split, fun y hy => ?_⟩
  have := before y hy
  simp only [Bool.not_eq_true'] at this ⊢
  rw [this, Bool.false_and]

theorem Misses.early (h : Misses s f x) (n : Nat) (hd : s.divert.deglitch = .blocking n) :
    ¬s.timing.confirmDeglitch ≤ n + 1 := by
  have := h.noEdge
  unfold confirmEdgeDue at this
  rw [hd] at this
  simpa [State.started, h.started] using this

/-- The state when the window of a fire is judged. -/
def atWindow (s : State) : State := endDwell (confirmPulse (fireCountsPulse (atDivert s)))

theorem atTests_window (s : State) : atTests s = discardFire (endWindow (atWindow s)) := rfl

theorem Misses.confirm (h : Misses s f x) : ∃ d, confirmPulse (fireCountsPulse (atDivert s)) =
    setConfirm (fireCountsPulse (atDivert s)) d := by
  refine confirmPulse_early fun n hd => ?_
  rw [fireCountsPulse_timing, timing_atDivert]
  exact h.early n (by rwa [fireCountsPulse_deglitch, atDivert_deglitch] at hd)

theorem Misses.atWindow_kept (h : Misses s f x) (hm : ¬MissesMark s) : Kept (.noRead :: claimEvents) s (atWindow s) := by
  obtain ⟨d, confirm⟩ := h.confirm
  unfold atWindow
  rw [confirm]
  exact kept_endDwell (kept_setConfirm (kept_fireCountsPulse (kept_atDivert hm)) d)

theorem Misses.atWindow_frame (h : Misses s f x) (hm : ¬MissesMark s) : (atWindow s).contest = s.contest ∧
    (atWindow s).port = (atDivert s).port ∧ (atWindow s).timing = s.timing ∧
    ∃ g n, (atWindow s).divert.fire = some g ∧ g.slot = f.slot ∧ g.place = f.place ∧ g.window = some n ∧
      s.timing.confirmWindow ≤ n := by
  obtain ⟨d, confirm⟩ := h.confirm
  obtain ⟨-, contest, -, divert, -⟩ := atDivert_onTime hm
  obtain ⟨n, window, long⟩ := h.window
  unfold atWindow
  rw [confirm, fireCountsPulse_fire (f := f) (by rw [divert, h.fire])]
  have fire : (setConfirm (setFire (atDivert s) (some (aged f))) d).divert.fire = some (aged f) := rfl
  obtain ⟨g, hg, slot, place, same⟩ := endDwell_fire fire
  refine ⟨by simpa [setConfirm, setFire] using contest, by simp [setConfirm, setFire], ?_,
    g, n + 1, hg, slot, place, by rw [same]; simp [aged, window], long⟩
  exact timing_of_config (by simp [setConfirm, setFire, atDivert])

theorem mem_missTold (hl : u.port.notices.length < 32) (g : Fire) :
    .divertMissed g.slot g.place ∈ (missTold u g).port.notices :=
  mem_offerNotice (by simpa [setFire] using hl) _

/-- R135: the window closed as MISSED, and what follows in the pulse. -/
structure Misses.Closed (s : State) (g : Fire) (f : Fire) : Prop where
  slot : g.slot = f.slot
  place : g.place = f.place
  fire : (atWindow s).divert.fire = some g
  tests : atTests s = discardFire (outcomeMissed (missTold (atWindow s) g) f.slot)
  noWindow : NoWindow (atTests s)

theorem Misses.closed (h : Misses s f x) (hm : ¬MissesMark s) : ∃ g, Misses.Closed s g f := by
  obtain ⟨-, -, timing, g, n, fire, slot, place, window, long⟩ := h.atWindow_frame hm
  have tests : atTests s = discardFire (outcomeMissed (missTold (atWindow s) g) f.slot) := by
    rw [atTests_window, endWindow_closes fire window (by rwa [timing]), slot]
  refine ⟨g, slot, place, fire, tests, ?_⟩
  rw [tests]
  refine discardFire_noWindow fun g' hg' => ?_
  have : g' = { g with window := none } := by simpa [missTold, setFire] using hg'.symm
  rw [this]

theorem Misses.entry_told (h : Misses s f x) (hm : ¬MissesMark s) (g : Fire) :
    firingClaim (missTold (atWindow s) g) f.slot = some x := by
  have contest : (missTold (atWindow s) g).contest = s.contest := by
    rw [← (h.atWindow_frame hm).1]
    simp [missTold, setFire]
  exact (firingClaim_congr contest _).trans (firingClaim_of_claimAt h.entry h.firing)

theorem Misses.rested (h : Misses s f x) (hm : ¬MissesMark s) :
    Rested (atTests s) (runSearch (pulseRest (atTests s) (reached s))) :=
  let ⟨_, shut⟩ := h.closed hm
  rested_pulseRest shut.noWindow _

theorem Misses.told (h : Misses s f x) : HasFrame (.missed f.slot) (forwardPulse s) := by
  by_cases hm : MissesMark s
  · obtain ⟨-, -, withdrawn⟩ := forwardPulse_missing h.started hm
    exact withdrawn.missed f.slot x h.entry h.firing
  · obtain ⟨g, shut⟩ := h.closed hm
    have missed : HasFrame (.missed f.slot) (atTests s) := by
      rw [shut.tests]
      exact hasFrame_congr (outcomeMissed_firing (h.entry_told hm g)).1 (by simp)
    rw [forwardPulse_atTests h.started]
    exact hasFrame_congr ((h.rested hm).frames _ rfl missed) (by simp)

theorem Misses.counted (h : Misses s f x) : CountedOnce s (forwardPulse s) .missed f.place ∧
    (s.port.notices.length + 4 ≤ 32 → .divertMissed f.slot f.place ∈ (forwardPulse s).port.notices) := by
  by_cases hm : MissesMark s
  · obtain ⟨-, -, withdrawn⟩ := forwardPulse_missing h.started hm
    obtain ⟨n, window, -⟩ := h.window
    exact withdrawn.window f n h.fire window
  · obtain ⟨g, shut⟩ := h.closed hm
    have closed := kept_setFire (h.atWindow_kept hm) (some { g with window := none })
    have told : Kept claimEvents (reportPlace (setFire (atWindow s) (some { g with window := none })) .missed g.place)
        (missTold (atWindow s) g) := kept_offerNotice (kept_refl _ _) _
    have ended : Kept claimEvents (missTold (atWindow s) g) (atTests s) := by
      rw [shut.tests]
      exact kept_discardFire (kept_outcomeMissed (List.Subset.refl _) (kept_refl _ _) _)
    have after := kept_trans ended (h.rested hm).kept
    have later := kept_mono (List.subset_cons_self .noRead _) (kept_trans told after)
    have whole : Kept (.missed :: .noRead :: claimEvents) s
        (reportPlace (setFire (atWindow s) (some { g with window := none })) .missed g.place) :=
      kept_reportPlace (kept_mono (List.subset_cons_self _ _) closed) List.mem_cons_self _
    rw [forwardPulse_atTests h.started]
    constructor
    · rw [← shut.place]
      exact countedOnce_sampled (by simp [IsSum])
        (whole.counted.trans (kept_mono (List.subset_cons_self _ _) later).counted)
        (countedOnce_between (by decide) closed.counted later.counted)
    · intro hl
      have room : (atWindow s).port.notices.length < 32 := by
        have := notices_atDivert hm
        rw [(h.atWindow_frame hm).2.1]
        omega
      have noticed : .divertMissed f.slot f.place ∈ (missTold (atWindow s) g).port.notices := by
        rw [← shut.slot, ← shut.place]
        exact mem_missTold room g
      rw [sampleBoundary_notices]
      exact after.notices.subset noticed

theorem Misses.fires (h : Misses s f x) : ∀ d ∈ (forwardPulse s).contest.claims, d.state = .firing → d.slot ≠ f.slot := by
  by_cases hm : MissesMark s
  · obtain ⟨-, -, withdrawn⟩ := forwardPulse_missing h.started hm
    rw [withdrawn.claims]
    exact fun d hd => absurd hd List.not_mem_nil
  · obtain ⟨g, shut⟩ := h.closed hm
    have none : (atTests s).claimAt f.slot = none := by
      rw [shut.tests, claimAt_congr (s := outcomeMissed (missTold (atWindow s) g) f.slot) (by simp)]
      exact (outcomeMissed_firing (h.entry_told hm g)).2
    intro d hd firing
    rw [forwardPulse_atTests h.started, (same_sampleBoundary _).claims] at hd
    rcases mem_runSearch hd with hd | queued
    · obtain ⟨z, hz, slot, -⟩ := claimsFrom_pulseRest shut.noWindow _ d hd
      rw [← slot]
      exact not_mem_of_claimAt_none none hz
    · rw [queued] at firing
      cases firing

theorem Misses.staging (h : Misses s f x) : (forwardPulse s).staging = s.staging := by
  by_cases hm : MissesMark s
  · obtain ⟨-, -, withdrawn⟩ := forwardPulse_missing h.started hm
    exact withdrawn.staging
  · obtain ⟨g, shut⟩ := h.closed hm
    obtain ⟨d, confirm⟩ := h.confirm
    obtain ⟨-, -, -, -, staging⟩ := atDivert_onTime hm
    have window : (atWindow s).staging = s.staging := by
      unfold atWindow
      rw [confirm]
      simpa [setConfirm] using staging
    have tests : (atTests s).staging = s.staging := by
      rw [shut.tests, ← window]
      simp [missTold, setFire]
    rw [forwardPulse_atTests h.started, sampleBoundary_staging, (h.rested hm).staging, tests]

/-- A place that is not CANCELLING stands but for its claimed counts. -/
theorem Misses.coreKept (h : Misses s f x) (hn : OncePerSlot s) (hq : (s.place q).state ≠ .cancelling) :
    core (forwardPulse s) q = core s q := by
  have live : (core s q).state ≠ .cancelling := hq
  have laws := closed_core (q := q) live
  obtain ⟨d, confirm⟩ := h.confirm
  have divert : CoreIs q (core s q) (atDivert s) :=
    laws.same (n := 4) (by constructor <;> simp [atDivert]) (closed_atGate (n := 0) laws ⟨hn, rfl⟩)
  have window : CoreIs q (core s q) (atWindow s) := by
    unfold atWindow
    rw [confirm]
    exact closed_endDwell (n := 0) laws (laws.same (n := 0) (by constructor <;> simp [setConfirm]) divert)
  have tests : CoreIs q (core s q) (atTests s) :=
    laws.same (n := 1) (same_discardFire _) (closed_endWindow (n := 0) laws window)
  rw [forwardPulse_atTests h.started]
  exact core_afterRest live tests _

theorem Misses.line (h : Misses s f x) (hr : Running s) (hc : CountLaw s)
    (hp : (s.place x.target.place).state = .building ∨ (s.place x.target.place).state = .suspended) {l : Line}
    (hl : s.lineAt x.target = some l) : ∃ l', (forwardPulse s).lineAt x.target = some l' ∧ l'.case = l.case ∧
      l'.quantity = l.quantity ∧ l'.staged = l.staged ∧ l'.placed = l.placed ∧
      l'.claimed = claimsOn (forwardPulse s) x.target := by
  have hx := claimAt_mem h.entry
  have book := book_of_laws hr hc hx hp
  obtain ⟨l', hl', count⟩ := (book_forwardPulse (book.claims x hx) h.started book).line
  obtain ⟨n, after⟩ := line_of_place (h.coreKept hr.tables.once book.place) hl
  obtain rfl : l' = { l with claimed := n } := Option.some.inj (hl'.symm.trans after)
  exact ⟨_, hl', rfl, rfl, rfl, rfl, count⟩

end Sys2Proof.Laws

open Sys2Proof Sys2Proof.Machine Sys2Proof.Safety Sys2Proof.Laws

/-- Settles O44: each row is the forward pulse that it names, and each outcome is that pulse's own. -/
theorem divertPulsesDecideTheFire : Obligations.DivertPulsesDecideTheFire := by
  unfold Obligations.DivertPulsesDecideTheFire
  intro s hs c slips
  refine ⟨takenCase_cases s, fun n hd hn => ⟨fun f m x hf hw hx hm => ?_, fun hf ha hr he hg hq => ?_⟩, fun n hd hn => ?_,
    fun f n hf hw hn => ?_, fun f n x hf hw hn he hx firing => ?_, ?_, ?_, ?_, ?_⟩
  · have takes : Takes s f x := ⟨hs, missesMark_of hm, ⟨n, hd, hn⟩, hf, ⟨m, hw⟩, hx⟩
    refine ⟨_, execConfirmEdge_due hs hd hn, takes.deglitch, takes.told, takes.counted, fun hp => ?_, takes.orphaned⟩
    obtain ⟨records, noticed⟩ := takes.records hp
    exact ⟨records, noticed, fun hr hc l hl => takes.line hr hc hp hl⟩
  · exact (execConfirmEdge_due hs hd hn).trans (congrArg _ (forwardPulse_stray hs hd hn hf ha hr he hg hq))
  · refine ⟨_, execConfirmCleared_due hs hd hn, ?_⟩
    rw [forwardPulse_atTests hs, sampleBoundary_divert, runSearch_divert, pulseRest_deglitch, atTests_eq, divertPulse]
    rw [fireEnd_deglitch, confirmPulse_clears (n := n) (by rw [fireCountsPulse_deglitch, atDivert_deglitch, hd])
      (by rw [fireCountsPulse_timing, timing_atDivert]; exact hn)]
    rfl
  · refine ⟨_, execDwellEnd_due hs hf hw hn, fun away => ?_⟩
    exact dwellOver_forwardPulse hs hf hw hn away
  · have misses : Misses s f x := ⟨hs, he, hf, ⟨n, hw, hn⟩, hx, firing⟩
    obtain ⟨counted, noticed⟩ := misses.counted
    exact ⟨_, execWindowClosedMissed_due hs hf hw hn he, misses.told, counted, misses.fires,
      fun hr hc hp l hl => misses.line hr hc hp hl, by rw [misses.staging], noticed⟩
  all_goals
    intro h
    exact congrArg Host.Outcome.next (if_neg (by simp [h]))
end

section
/-! SUPPORT. The end of a cancellation (R37, R39): what an event leaves of a place that is CANCELLING, and what its
last claim's leaving makes of it. -/

namespace Sys2Proof.Laws

open Sys2Proof Sys2Proof.Machine Sys2Proof.Safety

variable {s t u v : State} {j k m n : Nat} {c d x : Claim} {p q : PlaceId}

/-! ### An operation beside a place -/

/-- Between s and u the place p, CANCELLING or EMPTY, stands with its claims, and no notice is lost. -/
structure Beside (p : PlaceId) (s u : State) : Prop where
  shut : (s.place p).state = .cancelling ∨ (s.place p).state = .empty
  once : OncePerSlot u
  state : (u.place p).state = (s.place p).state
  empty : s.place p = Place.empty → u.place p = Place.empty
  claims : ∀ c : Claim, c.target.place = p → (c ∈ u.contest.claims ↔ c ∈ s.contest.claims)
  notices : s.port.notices <+: u.port.notices

theorem beside_refl (hn : OncePerSlot s) (hs : (s.place p).state = .cancelling ∨ (s.place p).state = .empty) :
    Beside p s s := ⟨hs, hn, rfl, id, fun _ _ => .rfl, List.prefix_refl _⟩

theorem beside_trans (h : Beside p s u) (h' : Beside p u v) : Beside p s v where
  shut := h.shut
  once := h'.once
  state := h'.state.trans h.state
  empty := h'.empty ∘ h.empty
  claims c hc := (h'.claims c hc).trans (h.claims c hc)
  notices := h.notices.trans h'.notices

theorem Beside.again (h : Beside p s u) : Beside p u u := by
  refine beside_refl h.once ?_
  rw [h.state]
  exact h.shut

/-- A place that builds, waits for its plan or is done is another one. -/
theorem Beside.other (h : Beside p s u) (hc : (u.place q).state ≠ .cancelling) (he : (u.place q).state ≠ .empty) :
    q ≠ p := by
  rintro rfl
  rw [h.state] at hc he
  exact h.shut.elim hc he

theorem Beside.ofBuilding (h : Beside p s u) (hq : (u.place q).state = .building) : q ≠ p :=
  h.other (by rw [hq]; decide) (by rw [hq]; decide)

theorem Beside.ofSuspended (h : Beside p s u) (hq : (u.place q).state = .suspended) : q ≠ p :=
  h.other (by rw [hq]; decide) (by rw [hq]; decide)

theorem beside_frame (h : Beside p s u) (plans : v.plans = u.plans) (claims : v.contest.claims = u.contest.claims)
    (notices : v.port.notices = u.port.notices) : Beside p s v where
  shut := h.shut
  once := once_congr claims h.once
  state := by rw [place_congr plans]; exact h.state
  empty := by rw [place_congr plans]; exact h.empty
  claims := by rw [claims]; exact h.claims
  notices := by rw [notices]; exact h.notices

theorem beside_same (h : Beside p s u) (hv : Same u v) : Beside p s v := beside_frame h hv.plans hv.claims hv.notices

theorem offerNotice_prefix (s : State) (x : Notice) : s.port.notices <+: (offerNotice s x).port.notices := by
  unfold offerNotice
  split
  · exact List.prefix_append _ _
  · exact List.prefix_refl _

theorem beside_offerNotice (h : Beside p s u) (x : Notice) : Beside p s (offerNotice u x) := by
  have told : Beside p u (offerNotice u x) :=
    { h.again with
      once := once_congr (by simp) h.once
      state := congrArg Place.state (place_congr (by simp) p)
      empty := fun e => (place_congr (by simp) p).trans e
      claims := fun c _ => by simp
      notices := offerNotice_prefix u x }
  exact beside_trans h told

theorem beside_offers {α : Type} (f : α → Notice) (l : List α) (h : Beside p s u) :
    Beside p s (l.foldl (fun w a => offerNotice w (f a)) u) :=
  foldl_induct (P := Beside p s) (fun _ a hu => beside_offerNotice hu (f a)) l h

/-- The plans change, but not at the place. -/
theorem beside_plans (h : Beside p s u) (hp : v.place p = u.place p) (claims : v.contest.claims = u.contest.claims)
    (notices : v.port.notices = u.port.notices) : Beside p s v where
  shut := h.shut
  once := once_congr claims h.once
  state := by rw [hp]; exact h.state
  empty := by rw [hp]; exact h.empty
  claims := by rw [claims]; exact h.claims
  notices := by rw [notices]; exact h.notices

theorem beside_setPlace (h : Beside p s u) (hq : q ≠ p) (x : Place) : Beside p s (setPlace u q x) :=
  beside_plans h (by rw [place_setPlace, if_neg hq]) (by simp) (by simp)

theorem modifyLine_empty {g : Target} {f : Line → Line} (h : s.place p = Place.empty) :
    (modifyLine s g f).place p = Place.empty := by
  rw [place_modifyLine]
  split
  next e =>
    rw [e, h]
    simp [Place.empty]
  next => exact h

/-- A line changes; a place EMPTY has none. -/
theorem beside_modifyLine (h : Beside p s u) (g : Target) (f : Line → Line) : Beside p s (modifyLine u g f) where
  shut := h.shut
  once := once_congr (by simp) h.once
  state := (state_of_header (header_modifyLine u g f p)).trans h.state
  empty e := modifyLine_empty (h.empty e)
  claims := by simpa using h.claims
  notices := by simpa using h.notices

/-! ### The claims of other places -/

theorem beside_modifyClaim (h : Beside p s u) (hk : ∀ d, u.claimAt k = some d → d.target.place ≠ p) {f : Claim → Claim}
    (hf : ∀ d, (f d).slot = d.slot ∧ (f d).target = d.target) : Beside p s (modifyClaim u k f) where
  shut := h.shut
  once := once_modifyClaim h.once k fun d => (hf d).1
  state := h.state
  empty := h.empty
  claims c hc := by
    rw [← h.claims c hc]
    have others : ∀ d ∈ u.contest.claims, d.target.place = p → d.slot ≠ k := fun d hd hp e =>
      hk d (e ▸ claimAt_of_mem h.once hd) hp
    show c ∈ u.contest.claims.map _ ↔ _
    rw [List.mem_map]
    constructor
    · rintro ⟨d, hd, rfl⟩
      have hp : d.target.place = p := by
        split at hc
        · rwa [(hf d).2] at hc
        · exact hc
      rwa [if_neg (others d hd hp)]
    · exact fun hm => ⟨c, hm, if_neg (others c hm hc)⟩
  notices := h.notices

theorem beside_dropClaim (h : Beside p s u) (hd : u.claimAt c.slot = some d) (ht : d.target = c.target)
    (hp : c.target.place ≠ p) : Beside p s (dropClaim u c) where
  shut := h.shut
  once := once_dropClaim h.once c
  state := (state_of_header (header_dropClaim u c p)).trans h.state
  empty e := (place_modifyLine_ne (s := u) (f := fun l => { l with claimed := l.claimed - 1 }) (Ne.symm hp)).trans (h.empty e)
  claims y hy := by
    rw [← h.claims y hy, dropClaim_claims, List.mem_filter]
    refine ⟨And.left, fun hm => ⟨hm, decide_eq_true fun e => hp ?_⟩⟩
    have same : some y = some d := by rw [← hd, ← e, claimAt_of_mem h.once hm]
    rw [← ht, ← Option.some.inj same]
    exact hy
  notices := by simpa using h.notices

theorem beside_leaveClaim (h : Beside p s u) (hc : u.claimAt k = some c) (hp : c.target.place ≠ p) :
    Beside p s (leaveClaim u c) :=
  beside_same (beside_dropClaim h (claimAt_slot hc ▸ hc) rfl hp) (same_leaveClaim u c)

theorem beside_endUncommitted (h : Beside p s u) (hk : ∀ d, u.claimAt k = some d → d.target.place ≠ p) (e : PendingEnd) :
    Beside p s (endUncommitted u k e) := by
  unfold endUncommitted
  split
  · exact h
  next c hc =>
    have marked := beside_modifyClaim h hk (f := fun d => { d with pendingEnd := some (c.pendingEnd.getD e) })
      fun _ => ⟨rfl, rfl⟩
    have asked := beside_same marked (same_setTx _ (askWithdrawal (OutFrame.isClaimFor k) u.line.tx))
    have entry : (modifyClaim u k fun d => { d with pendingEnd := some (c.pendingEnd.getD e) }).claimAt k =
        some (ending c e) := claimAt_modified hc fun _ => rfl
    dsimp only
    split
    · split
      · have left := beside_dropClaim (c := c) asked (d := ending c e) (claimAt_slot hc ▸ entry) rfl (hk c hc)
        exact beside_same left (same_leaveWithEnd _ c _)
      · exact asked
    · exact marked
    all_goals exact h

theorem beside_cancelClaim (h : Beside p s u) (hk : ∀ d, u.claimAt k = some d → d.target.place ≠ p) :
    Beside p s (cancelClaim u k) := by
  unfold cancelClaim
  split
  · exact h
  next c hc =>
    split
    · exact beside_endUncommitted h hk _
    · exact beside_endUncommitted h hk _
    · exact beside_same (beside_leaveClaim h hc (hk c hc)) (same_offerFrame _ _)
    all_goals exact h

theorem beside_cancelClaimsOf (h : Beside p s u) (hq : q ≠ p) : Beside p s (cancelClaimsOf u q) := by
  have others : ∀ k ∈ placeSlots u q, ∀ v, Beside p u v → ∀ d, v.claimAt k = some d → d.target.place ≠ p := by
    intro k hk v hv d hd hp
    have entry : u.claimAt k = some d := by
      rw [← claimAt_slot hd]
      exact claimAt_of_mem h.once ((hv.claims d hp).1 (claimAt_mem hd))
    exact hq (((mem_placeSlots h.once entry).1 hk).symm.trans hp)
  have each : ∀ (l : List Nat), (∀ k ∈ l, k ∈ placeSlots u q) → ∀ v, Beside p u v → Beside p u (l.foldl cancelClaim v) := by
    intro l
    induction l with
    | nil => exact fun _ _ hv => hv
    | cons k l ih =>
      intro hl v hv
      rw [List.foldl_cons]
      exact ih (fun j hj => hl j (List.mem_cons_of_mem k hj)) _
        (beside_cancelClaim hv (others k (hl k List.mem_cons_self) v hv))
  exact beside_trans h (each _ (fun _ => id) u h.again)

theorem beside_cancelTest (h : Beside p s u) (hq : q ≠ p) : Beside p s (cancelTest u q) := by
  unfold cancelTest
  split
  · exact beside_offerNotice (beside_setPlace h hq _) _
  · exact h

/-! ### Places suspended and resumed, and a search (R35, R36, R105) -/

theorem same_setWatch (s : State) (q : PlaceId) (w : Watch) : Same s (setWatch s q w) := ⟨rfl, rfl, rfl⟩

theorem same_stopWatch (s : State) (q : PlaceId) : Same s (stopWatch s q) := by
  unfold stopWatch
  split
  iterate 2 exact same_setWatch s q _
  all_goals exact same_refl s

theorem same_setRecords (s : State) (l : List StagingRecord) : Same s (setRecords s l) := ⟨rfl, rfl, rfl⟩

theorem same_markSearch (s : State) : Same s (markSearch s) := ⟨rfl, rfl, rfl⟩

theorem beside_suspendPlace (h : Beside p s u) (q : PlaceId) : Beside p s (suspendPlace u q) := by
  by_cases hb : (u.place q).state = .building
  · have hq := h.ofBuilding hb
    rw [suspendPlace_building hb]
    have stopped := beside_same (beside_setPlace h hq { u.place q with state := .suspended })
      (same_stopWatch (setPlaceState u q .suspended) q)
    exact beside_same (beside_cancelClaimsOf stopped hq) (same_setRecords _ _)
  · rw [suspendPlace_other hb]
    exact h

theorem beside_suspendAll (h : Beside p s u) : Beside p s (allPlaces.foldl suspendPlace u) :=
  foldl_induct (P := Beside p s) (fun _ q hu => beside_suspendPlace hu q) _ h

theorem beside_promoteRecords (h : Beside p s u) (q : PlaceId) (n : Nat) : Beside p s (promoteRecords u q n) :=
  beside_offers _ _ (beside_same h (same_setRecords u _))

theorem beside_queueClaim (h : Beside p s u) (hk : u.claimAt k = none) {g : Target} (hg : g.place ≠ p) (w : Urgency) :
    Beside p s (queueClaim u k g w) where
  shut := h.shut
  once := once_queueClaim h.once hk g w
  state := (state_of_header (header_of_core (corePlans_queueClaim u k g w) p)).trans h.state
  empty e := (queueClaim_place_ne u k w (Ne.symm hg)).trans (h.empty e)
  claims c hc := by
    rw [← h.claims c hc, queueClaim_claims, List.mem_append, List.mem_singleton]
    refine ⟨fun hm => hm.resolve_right ?_, Or.inl⟩
    rintro rfl
    exact hg hc
  notices := by
    have same : (queueClaim u k g w).port = u.port := by
      unfold queueClaim
      simp [setClaims]
    rw [same]
    exact h.notices

theorem beside_runSearch (h : Beside p s u) : Beside p s (runSearch u) := by
  refine runSearch_claims_induct (Q := Beside p s) (beside_frame h rfl rfl rfl) fun v k c g w hk hbest hv => ?_
  obtain ⟨q, -, hm⟩ := bestLine_some hbest
  obtain ⟨rfl, -, t, n, builds, -⟩ := matchingLine_some hm
  exact beside_queueClaim hv hk (hv.ofBuilding builds.state) w

/-! ### The stages of a cancellation (R37, R39) -/

/-- The place is CANCELLING, and a claim targets it. -/
def Stays (p : PlaceId) (u : State) : Prop := (u.place p).state = .cancelling ∧ ∃ c ∈ u.contest.claims, c.target.place = p

/-- The place is EMPTY, and no claim targets it. -/
def Gone (p : PlaceId) (u : State) : Prop := u.place p = Place.empty ∧ ∀ c ∈ u.contest.claims, c.target.place ≠ p

theorem stays_beside (h : Stays p u) (hb : Beside p u v) : Stays p v := by
  obtain ⟨state, c, hc, hp⟩ := h
  exact ⟨hb.state.trans state, c, (hb.claims c hp).2 hc, hp⟩

theorem gone_beside (h : Gone p u) (hb : Beside p u v) : Gone p v := by
  obtain ⟨empty, none⟩ := h
  exact ⟨hb.empty empty, fun c hc hp => none c ((hb.claims c hp).1 hc) hp⟩

/-- The notices and the claims of u are at most those of s and n more: each claim that leaves tells of one place's end. -/
def Within (s : State) (n : Nat) (u : State) : Prop :=
  u.port.notices.length + u.contest.claims.length ≤ s.port.notices.length + s.contest.claims.length + n

/-- The notices of an event that offers n beside those of ended cancellations have room. -/
def Roomy (s : State) (n : Nat) : Prop := s.port.notices.length + 16 ≤ 32 ∧ s.contest.claims.length + n ≤ 16

/-- The cancellation of p runs, or it has ended and was told. -/
structure Cancels (p : PlaceId) (s : State) (n : Nat) (u : State) : Prop where
  once : OncePerSlot u
  stage : (Stays p u ∧ Within s n u) ∨ (Gone p u ∧ (Roomy s n → .cancelDone p ∈ u.port.notices))

theorem cancels_start (hn : OncePerSlot s) (h : Stays p s) : Cancels p s 0 s := ⟨hn, .inl ⟨h, Nat.le_refl _⟩⟩

theorem Cancels.beside (h : Cancels p s n u) : Beside p u u := by
  refine beside_refl h.once ?_
  rcases h.stage with ⟨⟨state, -⟩, -⟩ | ⟨⟨empty, -⟩, -⟩
  · exact .inl state
  · exact .inr (by rw [empty]; rfl)

theorem roomy_mono (h : m ≤ n) (hr : Roomy s n) : Roomy s m :=
  ⟨hr.1, (Nat.add_le_add_left h _).trans hr.2⟩

theorem cancels_mono (hm : m ≤ n) (h : Cancels p s m u) : Cancels p s n u :=
  ⟨h.once, h.stage.imp (fun ⟨stays, within⟩ => ⟨stays, within.trans (Nat.add_le_add_left hm _)⟩)
    fun ⟨gone, told⟩ => ⟨gone, told ∘ roomy_mono hm⟩⟩

/-- An operation beside the place that offers at most m notices more than claims leave with it. -/
theorem cancels_beside (h : Cancels p s n u) (hb : Beside p u v) (hl : Within u m v) : Cancels p s (n + m) v := by
  refine ⟨hb.once, h.stage.imp (fun ⟨stays, within⟩ => ⟨stays_beside stays hb, ?_⟩) fun ⟨gone, told⟩ =>
    ⟨gone_beside gone hb, fun hr => hb.notices.subset (told (roomy_mono (Nat.le_add_right n m) hr))⟩⟩
  unfold Within at within hl ⊢
  omega

theorem length_dropClaim (hd : u.claimAt c.slot = some d) :
    (dropClaim u c).contest.claims.length + 1 ≤ u.contest.claims.length := by
  rw [dropClaim_claims, Nat.add_one_le_iff, List.length_filter_lt_length_iff_exists]
  exact ⟨d, claimAt_mem hd, by simp [claimAt_slot hd]⟩

/-- R39: the last claim of the place leaves. -/
theorem cancels_last (h : Cancels p s n u) (hd : u.claimAt c.slot = some d) (ht : d.target = c.target)
    (hp : c.target.place = p) (hv : Same (dropClaim u c) v) : Cancels p s n (cancelTest v p) := by
  have drop := length_dropClaim hd
  have dropped := once_congr hv.claims (once_dropClaim h.once c)
  have target : d.target.place = p := by rw [ht]; exact hp
  rcases h.stage with ⟨⟨state, -⟩, within⟩ | ⟨⟨-, none⟩, -⟩
  · have here : (v.place p).state = .cancelling := by
      rw [place_congr hv.plans, state_of_header (header_dropClaim u c p), state]
    have claims := congrArg List.length hv.claims
    have notices : v.port.notices.length = u.port.notices.length := by simpa using congrArg List.length hv.notices
    unfold Within at within
    by_cases others : ∃ y ∈ v.contest.claims, y.target.place = p
    · rw [cancelTest_standing others]
      exact ⟨dropped, .inl ⟨⟨here, others⟩, by unfold Within; omega⟩⟩
    · have all : v.contest.claims.all (fun y => decide (y.target.place ≠ p)) = true :=
        List.all_eq_true.2 fun y hy => decide_eq_true fun e => others ⟨y, hy, e⟩
      have ended : cancelTest v p = offerNotice (setPlace v p Place.empty) (.cancelDone p) := if_pos ⟨here, all⟩
      rw [ended]
      refine ⟨once_congr (by simp) dropped, .inr ⟨⟨?_, ?_⟩, fun hr => mem_offerNotice ?_ _⟩⟩
      · rw [place_congr (s := setPlace v p Place.empty) (by simp), place_setPlace, if_pos rfl]
      · intro y hy hp
        exact others ⟨y, by simpa using hy, hp⟩
      · obtain ⟨room, few⟩ := hr
        rw [(by simp : (setPlace v p Place.empty).port = v.port)]
        omega
  · exact absurd target (none d (claimAt_mem hd))

theorem targets_modifyClaim (u : State) (k : Nat) {f : Claim → Claim} (hf : ∀ d, (f d).target = d.target) (g : Target) :
    (∃ c ∈ (modifyClaim u k f).contest.claims, c.target = g) ↔ ∃ c ∈ u.contest.claims, c.target = g := by
  have targets : (modifyClaim u k f).contest.claims.map (·.target) = u.contest.claims.map (·.target) := by
    show List.map _ (List.map _ _) = _
    rw [List.map_map]
    refine List.map_congr_left fun c _ => ?_
    simp only [Function.comp_apply]
    split
    · exact hf c
    · rfl
  have same : g ∈ (modifyClaim u k f).contest.claims.map (·.target) ↔ g ∈ u.contest.claims.map (·.target) := by
    rw [targets]
  rwa [List.mem_map, List.mem_map] at same

theorem cancels_modifyClaim (h : Cancels p s n u) (k : Nat) {f : Claim → Claim}
    (hf : ∀ d, (f d).slot = d.slot ∧ (f d).target = d.target) : Cancels p s n (modifyClaim u k f) := by
  have claims : (modifyClaim u k f).contest.claims.length = u.contest.claims.length := List.length_map _
  have mem := targets_modifyClaim u k fun d => (hf d).2
  refine ⟨once_modifyClaim h.once k fun d => (hf d).1, h.stage.imp (fun ⟨⟨state, c, hc, hp⟩, within⟩ => ?_)
    fun ⟨⟨empty, away⟩, told⟩ => ⟨⟨empty, fun c hc => ?_⟩, told⟩⟩
  · obtain ⟨d, hd, e⟩ := (mem c.target).2 ⟨c, hc, rfl⟩
    exact ⟨⟨state, d, hd, e ▸ hp⟩, by unfold Within at within ⊢; rw [claims]; exact within⟩
  · obtain ⟨d, hd, e⟩ := (mem c.target).1 ⟨c, hc, rfl⟩
    exact e ▸ away d hd

theorem length_cancelTest (s : State) (q : PlaceId) :
    (cancelTest s q).port.notices.length ≤ s.port.notices.length + 1 := by
  unfold cancelTest
  split
  · simpa using length_offerNotice (setPlace s q Place.empty) (.cancelDone q)
  · exact Nat.le_succ _

/-- R39: a claim leaves, of the place or of another one. -/
theorem cancels_leave (h : Cancels p s n u) (hd : u.claimAt c.slot = some d) (ht : d.target = c.target)
    (hv : Same (dropClaim u c) v) : Cancels p s n (cancelTest v c.target.place) := by
  by_cases hp : c.target.place = p
  · rw [hp]
    exact cancels_last h hd ht hp hv
  · have left := beside_same (beside_dropClaim h.beside hd ht hp) hv
    refine cancels_beside (m := 0) h (beside_cancelTest left hp) ?_
    have drop := length_dropClaim hd
    have told := length_cancelTest v c.target.place
    have notices : v.port.notices.length = u.port.notices.length := by simpa using congrArg List.length hv.notices
    unfold Within
    rw [cancelTest_claims, hv.claims]
    omega

theorem closed_cancels (p : PlaceId) (s : State) : Closed (Cancels p s) where
  once h := h.once
  mono hm h := cancels_mono hm h
  same hs h := cancels_beside (m := 0) h (beside_same h.beside hs) (by unfold Within; rw [hs.notices, hs.claims]; omega)
  notice {n u} x h := cancels_beside (m := 1) h (beside_offerNotice h.beside x) (by
    have := length_offerNotice u x
    have claims : (offerNotice u x).contest.claims = u.contest.claims := by simp
    unfold Within
    rw [claims]
    omega)
  modify k _ hf h := cancels_modifyClaim h k hf
  leave hd ht hv h := cancels_leave h hd ht hv

/-! ### What an event leaves -/

/-- The event leads from s, where the cancellation of p runs, to t: it runs still, or it has ended and was told. -/
def Settles (p : PlaceId) (s t : State) : Prop :=
  Stays p t ∨ (Gone p t ∧ (s.port.notices.length + 16 ≤ 32 → .cancelDone p ∈ t.port.notices))

theorem settles_of_cancels (h : Cancels p s n u) (hn : s.contest.claims.length + n ≤ 16) : Settles p s u :=
  h.stage.imp And.left fun ⟨gone, told⟩ => ⟨gone, fun room => told ⟨room, hn⟩⟩

theorem settles_beside (h : Settles p s u) (hb : Beside p u v) : Settles p s v :=
  h.imp (fun stays => stays_beside stays hb) fun ⟨gone, told⟩ =>
    ⟨gone_beside gone hb, fun room => hb.notices.subset (told room)⟩

end Sys2Proof.Laws
end

section
/-! SUPPORT. What the events of the belt, the hall line and the timers keep, where every claim that leaves is followed by
the test of its place (R39): the laws of `Closed`, continued. -/

namespace Sys2Proof.Laws

open Sys2Proof Sys2Proof.Machine Sys2Proof.Safety

variable {s t u v : State} {j k m n : Nat} {c d x : Claim} {p q : PlaceId} {P : Nat → State → Prop} {e : PendingEnd}

/-! ### Operations on other blocks -/

theorem same_setLine (s : State) (x : HallLine) : Same s (s.setLine x) := ⟨rfl, rfl, rfl⟩
theorem same_setPart (s : State) (x : FaultUnit) : Same s (s.setPart x) := ⟨rfl, rfl, rfl⟩
theorem same_setLoop (s : State) (x : LoopTracker) : Same s (s.setLoop x) := ⟨rfl, rfl, rfl⟩
theorem same_setAttempt (s : State) (a : Option Attempt) : Same s (setAttempt s a) := ⟨rfl, rfl, rfl⟩
theorem same_retireFrame (s : State) : Same s (retireFrame s) := ⟨rfl, rfl, rfl⟩
theorem same_enterOwnFrame (s : State) (f : Frame) : Same s (enterOwnFrame s f) := by constructor <;> simp
theorem same_updateRoster (s : State) (f : Frame) : Same s (updateRoster s f) := ⟨rfl, rfl, rfl⟩

/-! ### TAKEN (R120, R145, R146) -/

theorem offerNotice_notices_congr (h : t.port.notices = s.port.notices) (y : Notice) :
    (offerNotice t y).port.notices = (offerNotice s y).port.notices := by
  unfold offerNotice
  rw [h]
  split
  · rfl
  · exact h

/-- R145: a case staged for another place, which is not CANCELLING. -/
theorem cancels_takenFor (h : Cancels p s n u) (hx : firingClaim u j = some x)
    (live : (u.place x.target.place).state = .building ∨ (u.place x.target.place).state = .suspended) :
    Cancels p s (n + 1) (outcomeTaken u j) := by
  have entry := claimAt_of_firing h.once hx
  have away : x.target.place ≠ p := live.elim h.beside.ofBuilding h.beside.ofSuspended
  have state : ((offerFrame (staged u x) (.taken j x.target.place)).place x.target.place).state ≠ .cancelling := by
    rw [place_congr (plans_offerFrame _ _), state_of_header (header_staged u x _)]
    rcases live with h | h <;> rw [h] <;> decide
  have drop := length_dropClaim entry
  have made : Beside p u (staged u x) := by
    rw [staged_for live]
    have recorded := beside_frame (v := makeRecord (dropClaim u x) x.slot (takenCase u x) (some x.target) (takenState u x))
      (beside_dropClaim h.beside entry rfl away) (by simp) (by simp) (by simp)
    exact beside_offerNotice (beside_modifyLine recorded _ _) _
  rw [outcomeTaken_firing hx, cancelTest, if_neg fun ends => state ends.1]
  refine cancels_beside h (beside_same made (same_offerFrame _ _)) ?_
  have claims : (staged u x).contest.claims = (dropClaim u x).contest.claims := by simp [staged]
  have told : (staged u x).port.notices.length ≤ u.port.notices.length + 1 := by
    rw [staged_for live]
    refine (length_offerNotice _ _).trans ?_
    simp
  unfold Within
  simp only [offerFrame_frame]
  rw [claims]
  omega

/-- R146, R39: a case made ORPHAN, its claim perhaps the last of a place CANCELLING. -/
theorem cancels_takenOrphan (h : Cancels p s n u) (hx : firingClaim u j = some x)
    (shut : ¬((u.place x.target.place).state = .building ∨ (u.place x.target.place).state = .suspended)) :
    Cancels p s (n + 1) (outcomeTaken u j) := by
  have noticed := (closed_cancels p s).notice (.caseOrphaned u.staging.nextArrival) h
  have orphan : Same (dropClaim (offerNotice u (.caseOrphaned u.staging.nextArrival)) x)
      (offerFrame (staged u x) (.taken j x.target.place)) := by
    refine same_trans ?_ (same_offerFrame _ _)
    rw [staged_orphan (fun e => shut (.inl e)) (fun e => shut (.inr e))]
    refine ⟨?_, ?_, offerNotice_notices_congr (by simp) _⟩
    · simp [dropClaim, modifyLine, setPlace, State.place]
    · simp [dropClaim_claims]
  have entry : (offerNotice u (.caseOrphaned u.staging.nextArrival)).claimAt x.slot = some x :=
    (claimAt_congr (s := u) (by simp) x.slot).trans (claimAt_of_firing h.once hx)
  rw [outcomeTaken_firing hx]
  exact cancels_leave noticed entry rfl orphan

/-- R39: the taking of a case is a leaving, with one notice beside. -/
theorem takenKept_cancels (p : PlaceId) (s : State) : TakenKept (Cancels p s) := by
  intro n u j h
  cases hx : firingClaim u j with
  | none =>
    unfold outcomeTaken
    rw [hx]
    exact cancels_mono (Nat.le_succ n) h
  | some x =>
    by_cases live : (u.place x.target.place).state = .building ∨ (u.place x.target.place).state = .suspended
    · exact cancels_takenFor h hx live
    · exact cancels_takenOrphan h hx live

/-! ### Attempts and received frames (R63, R72, R78, R79) -/

theorem closed_leaveWithEnd (hP : Closed P) (h : P n s) (hc : s.claimAt k = some c) (e : PendingEnd) :
    P n (cancelTest (leaveWithEnd s c e) c.target.place) :=
  hP.leave (claimAt_slot hc ▸ hc) rfl (same_leaveWithEnd s c e) h

theorem closed_leaveClaim (hP : Closed P) (h : P n s) (hc : s.claimAt k = some c) :
    P n (cancelTest (leaveClaim s c) c.target.place) :=
  hP.leave (claimAt_slot hc ▸ hc) rfl (same_leaveClaim s c) h

theorem closed_tellWithdrawn (hP : Closed P) (h : P n s) (y : TxFrame) : P n (tellWithdrawn s y) := by
  unfold tellWithdrawn
  split
  · exact hP.same (by constructor <;> simp) h
  · split
    · exact h
    · split
      next c hc => exact closed_leaveWithEnd hP h hc _
      next => exact h
  · exact h

theorem closed_loseAttempt (hP : Closed P) (h : P n s) (y : TxFrame) : P n (loseAttempt s y) := by
  unfold loseAttempt
  split
  · exact closed_tellWithdrawn hP (hP.same (same_setTx _ _) h) y
  · exact hP.same (same_setTx _ _) h

theorem closed_claimBeginsSend (hP : Closed P) (h : P n s) (y : TxFrame) : P n (claimBeginsSend s y) := by
  unfold claimBeginsSend
  split
  · split
    · exact hP.same (same_addOrphan s _) h
    · exact hP.modify _ (fun _ => ⟨rfl, rfl⟩) h
  · exact h

theorem closed_beginSend (hP : Closed P) (h : P n s) (y : TxFrame) : P n (beginSend s y) := by
  unfold beginSend
  split
  · exact hP.same (by constructor <;> simp) h
  · exact closed_claimBeginsSend hP (hP.same (same_trans (same_setTx s _) (same_setLine _ _)) h) y

theorem closed_countCheckError (hP : Closed P) (h : P n s) : P (n + 3) (countCheckError s) := by
  unfold countCheckError
  dsimp only
  split
  · exact hP.mono (Nat.le_add_right n 3) (hP.same (same_setLine s _) h)
  · exact closed_raiseImmediate hP (hP.same (same_setLine s _) h) _

theorem closed_receiveBroken (hP : Closed P) (h : P n s) : P (n + 3) (receiveBroken s) :=
  closed_countCheckError hP (hP.same (by constructor <;> simp [setAnswer, setLineState]) h)

theorem closed_settleHeard (hP : Closed P) (h : P n s) : P (n + 3) (settleHeard s) := by
  unfold settleHeard
  split
  · exact closed_receiveBroken hP h
  · exact hP.mono (Nat.le_add_right n 3) h

theorem same_judgeOwn (s : State) (a : Attempt) (b : Bool) : Same s (judgeOwn s a b) := by
  unfold judgeOwn
  dsimp only
  split <;> constructor <;> simp [setAttempt]

theorem same_receiveWhole (s : State) (f : Frame) : Same s (receiveWhole s f) := by
  unfold receiveWhole
  dsimp only
  split <;> constructor <;> simp [setAnswer, setLineState]

theorem closed_receiveHeard (hP : Closed P) (h : P n s) (bytes : List Byte) (b : Bool) :
    P (n + 3) (receiveHeard s bytes b) := by
  unfold receiveHeard
  split
  · exact hP.mono (Nat.le_add_right n 3) (hP.same (same_receiveWhole s _) h)
  · exact closed_receiveBroken hP h

theorem same_countSent (s : State) (f : OutFrame) : Same s (countSent s f) := by
  unfold countSent
  split <;> constructor <;> simp

theorem same_completeSend (s : State) (y : TxFrame) (f : Frame) : Same s (completeSend s y f) := by
  unfold completeSend freeFramePlace
  have sent : Same s (enterOwnFrame (countSent (retireFrame s) y.frame) f) :=
    same_trans (same_trans (same_retireFrame s) (same_countSent _ y.frame)) (same_enterOwnFrame _ f)
  split
  · exact same_trans sent (same_markSearch _)
  · exact sent

/-- R68: an abandoned frame is one notice. -/
theorem closed_abandonSend (hP : Closed P) (h : P n s) (y : TxFrame) (f : Frame) : P (n + 1) (abandonSend s y f) := by
  have recorded := closed_recordFault hP (hP.same (same_retireFrame s) h) .frameAbandoned 0
  have sent := hP.same (same_trans (same_countSent _ y.frame) (same_enterOwnFrame _ f)) recorded
  unfold abandonSend freeFramePlace
  dsimp only
  split
  · exact hP.same (same_markSearch _) sent
  · exact sent

theorem closed_sendOutcome (hP : Closed P) (h : P n s) (y : TxFrame) (f : Frame) (r : Bool) :
    P (n + 1) (sendOutcome s y f r) := by
  unfold sendOutcome
  split
  · split
    · exact closed_abandonSend hP h y f
    · exact hP.mono (Nat.le_succ n) (hP.same (same_setTx _ _) h)
  · exact hP.mono (Nat.le_succ n) (hP.same (same_completeSend s y f) h)

theorem same_afterFrame (s : State) : Same s (afterFrame s) := ⟨rfl, rfl, rfl⟩

theorem closed_settleFrame (hP : Closed P) (h : P n s) : P (n + 3) (settleFrame s) := by
  unfold settleFrame
  split
  iterate 2 exact hP.mono (Nat.le_add_right n 3) h
  all_goals
    split
    · split
      · refine hP.same (same_afterFrame _) (hP.mono (by omega) (closed_sendOutcome hP (n := n) ?_ _ _ _))
        split
        · exact hP.same (same_judgeOwn s _ _) h
        · exact h
      · exact hP.same (same_afterFrame _) (closed_settleHeard hP (closed_loseAttempt hP (hP.same (same_setAttempt s none) h) _))
    · exact hP.same (same_afterFrame _) (closed_settleHeard hP h)

theorem closed_stickLine (hP : Closed P) (h : P n s) : P (n + 4) (stickLine s) :=
  closed_recordFault hP (hP.same (same_setLine _ _) (closed_settleFrame hP h)) .lineStuck 0

/-! ### The handling of a frame (R76, R113 to R119) -/

theorem closed_othersTaken (hP : Closed P) (h : P n s) (k : Nat) : P n (othersTaken s k) := by
  unfold othersTaken
  split
  · exact h
  next c hc =>
    split
    iterate 2 exact closed_endAndTest hP h k _
    · exact closed_leaveWithEnd hP h hc _
    all_goals exact h

theorem closed_disputeClaim (hP : Closed P) (h : P n s) (k : Nat) : P n (disputeClaim s k) := by
  unfold disputeClaim
  split
  · exact h
  next c hc =>
    split
    iterate 2 exact closed_endAndTest hP h k _
    · exact closed_leaveClaim hP h hc
    all_goals exact hP.modify _ (fun _ => ⟨rfl, rfl⟩) h

/-- R115, R116: the win decision ends the claim or keeps it. -/
theorem closed_winDecision (hP : Closed P) (h : P n s) (hc : s.claimAt k = some c) (b : ViewEntry) :
    P n (winDecision s c b) := by
  have entry : s.claimAt c.slot = some c := claimAt_slot hc ▸ hc
  have ended : ∀ e v, Same (leaveWithEnd s c e) v → P n (cancelTest v c.target.place) := fun e v hv =>
    hP.leave entry rfl (same_trans (same_leaveWithEnd s c e) hv) h
  have won : ∀ r, P n (cancelTest (winAndRelease s c r) c.target.place) := fun r => by
    have counted : Same s (reportPlace s .claimWon c.target.place) := by constructor <;> simp
    exact hP.leave entry rfl (same_trans (same_trans (same_dropClaim counted c) (same_leaveClaim _ c))
      (same_offerFrame _ _)) h
  have armed : P n (cancelTest (armClaim s c) c.target.place) := by
    have counted := hP.same (by constructor <;> simp : Same s (reportPlace s .claimWon c.target.place)) h
    have stands : (reportPlace s .claimWon c.target.place).claimAt c.slot = some c :=
      (claimAt_congr (s := s) (by simp) c.slot).trans entry
    have here : (armClaim s c).claimAt c.slot = some { c with state := .armed, firePos := some (firePosition s c.slot) } :=
      claimAt_modified stands fun _ => rfl
    rw [cancelTest_entry here rfl]
    exact hP.modify _ (fun _ => ⟨rfl, rfl⟩) counted
  have lost : P n (cancelTest (loseClaim s c) c.target.place) := by
    unfold loseClaim
    split
    all_goals exact ended _ _ (same_refl _)
  have wins : P n (cancelTest (winClaim s c b) c.target.place) := by
    unfold winClaim
    split
    · split
      · exact ended _ _ (same_refl _)
      all_goals exact ended _ _ (same_offerFrame _ _)
    iterate 3 exact won _
    · split
      · exact won _
      · exact armed
  have decided : ∀ l : Bool, P n (cancelTest (if l then loseClaim s c else winClaim s c b) c.target.place) := fun l => by
    cases l
    · exact wins
    · exact lost
  exact decided _

theorem closed_ownClaimHandled (hP : Closed P) (h : P n s) (k : Nat) (b : ViewEntry) : P n (ownClaimHandled s k b) := by
  have freed : Same s (orphanHandled s k b) := by
    have erased : Same s (s.setContest { s.contest with orphans := s.contest.orphans.erase k }) := ⟨rfl, rfl, rfl⟩
    unfold orphanHandled
    dsimp only
    split
    iterate 2 exact same_trans erased (same_offerFrame _ _)
    all_goals exact erased
  unfold ownClaimHandled
  split
  · exact hP.same freed h
  · split
    next c hc =>
      split
      · exact closed_winDecision hP h hc b
      · exact h
    next => exact h

theorem same_retestAnnounces (s : State) (k : Nat) (b : ViewEntry) : Same s (retestAnnounces s k b) := by
  unfold retestAnnounces
  split
  · exact same_refl s
  · exact same_withdrawAnnounces s _

theorem same_markIfFreed (s : State) (k : Nat) (b : ViewEntry) : Same s (markIfFreed s k b) := by
  unfold markIfFreed
  split
  · exact same_markSearch s
  · exact same_refl s

theorem same_setViewEntry (s : State) (k : Nat) (b : ViewEntry) : Same s (setViewEntry s k b) := ⟨rfl, rfl, rfl⟩

theorem closed_applyAnnounce (hP : Closed P) (h : P n s) (k : Nat) (i : Station) (a : CaseId) :
    P n (applyAnnounce s k i a) := by
  have seen := hP.same (same_setViewEntry s k (viewAnnounce (s.viewAt k) a i)) h
  unfold applyAnnounce
  refine hP.same (same_trans (same_markIfFreed _ k _) (same_retestAnnounces _ k _)) ?_
  split
  · exact closed_disputeClaim hP seen k
  · exact seen

theorem closed_applyClaim (hP : Closed P) (h : P n s) (own : Bool) (k : Nat) (i : Station) (q : PlaceId) :
    P n (applyClaim s own k i q) := by
  have seen := hP.same (same_setViewEntry s k (viewClaim (s.viewAt k) i q)) h
  unfold applyClaim
  refine hP.same (same_retestAnnounces _ k _) ?_
  split
  · exact closed_ownClaimHandled hP seen k _
  · split
    · split
      · exact closed_endAndTest hP seen k _
      · exact seen
    · exact seen

theorem closed_applyTaken (hP : Closed P) (h : P n s) (own : Bool) (k : Nat) : P n (applyTaken s own k) := by
  have seen := hP.same (same_setViewEntry s k (viewTaken (s.viewAt k))) h
  unfold applyTaken
  refine hP.same (same_retestAnnounces _ k _) ?_
  split
  · exact seen
  · exact closed_othersTaken hP seen k

theorem same_applyRelease (s : State) (k : Nat) (i : Station) : Same s (applyRelease s k i) :=
  same_trans (same_setViewEntry s k _) (same_trans (same_markIfFreed _ k _) (same_retestAnnounces _ k _))

theorem closed_applyFrame (hP : Closed P) (h : P n s) (own : Bool) (f : Frame) : P n (applyFrame s own f) := by
  unfold applyFrame
  split
  · exact closed_applyTaken hP h own _
  · exact hP.same (same_applyRelease s _ _) h
  · exact hP.same (same_applyRelease s _ _) h
  · exact closed_applyClaim hP h own _ _ _
  · split
    · exact closed_applyAnnounce hP h _ _ _
    · exact h
  all_goals exact h

theorem closed_applyJoin (hP : Closed P) (h : P n s) (b : RosterEntry) (d : Nat) : P (n + 2) (applyJoin s b d) := by
  have kept := hP.mono (Nat.le_add_right n 2) h
  unfold applyJoin
  split
  · exact kept
  · split
    · exact closed_orderlyWithdraw hP (closed_recordFault hP h _ _) _
    · split
      · exact kept
      · split
        · exact kept
        · exact hP.same (by constructor <;> simp) kept

theorem closed_dispatchFrame (hP : Closed P) (h : P n s) (own : Bool) (f : Frame) : P (n + 2) (dispatchFrame s own f) := by
  have heard : Same s (reportAnnounce s f) := by
    unfold reportAnnounce
    split
    · constructor <;> simp
    · exact same_refl s
  have known := hP.same (same_trans heard (same_updateRoster _ f)) h
  unfold dispatchFrame
  dsimp only
  split
  · exact closed_applyJoin hP known _ _
  · split
    · exact hP.mono (Nat.le_add_right n 2) known
    · exact hP.mono (Nat.le_add_right n 2) (closed_applyFrame hP known own _)

theorem closed_handleFrame (hP : Closed P) (h : P n s) (r : RxFrame) : P (n + 2) (handleFrame s r) := by
  have counted : ∀ e i, P (n + 2) (reportSender s e i) := fun e i =>
    hP.mono (Nat.le_add_right n 2) (hP.same (by constructor <;> simp) h)
  unfold handleFrame
  split
  · exact counted _ _
  · split
    · exact counted _ _
    · split
      · exact counted _ _
      · split
        · exact hP.mono (Nat.le_add_right n 2) h
        · exact closed_dispatchFrame hP h _ _

/-! ### The index mark (R7 to R12, R161) -/

theorem closed_acceptMark (hP : Closed P) (h : P n s) : P (n + 1) (acceptMark s) := by
  have marked : P n (s.setPart { s.part with listeningMarks := s.part.listeningMarks + 1 }) := hP.same (same_setPart s _) h
  unfold acceptMark
  split
  · dsimp only
    split
    · exact hP.same (same_markSearch _) (closed_moveTo hP marked .active)
    · exact hP.mono (Nat.le_succ n) marked
  · exact hP.mono (Nat.le_succ n) h

theorem closed_sweep (hP : Closed P) (h : P n s) (m : Nat) : P n (sweep m s) := by
  induction m with
  | zero => exact h
  | succ m ih =>
    rw [sweep_succ]
    exact closed_testClaims hP (hP.same (same_setLoop _ _) ih)

theorem same_realign (s : State) : Same s (realign s) := ⟨rfl, rfl, rfl⟩

theorem closed_forwardRealignment (hP : Closed P) (h : P n s) : P (n + 1) (forwardRealignment s) := by
  rw [forwardRealignment_eq]
  exact hP.same (same_trans (same_realign _) (same_inductionPassage _ 0)) (closed_sweep hP (closed_fireReached hP h _) _)

theorem closed_slip (hP : Closed P) (h : P n s) : P (n + 3) (slip s) := hP.same (same_realign _) (closed_raiseSlip hP h _)

/-! ### The watchdog (R172) -/

theorem closed_watchdogViolation (hP : Closed P) (h : P n s) : P (n + 2) (watchdogViolation s) := by
  have stopped : P n (s.setPart { s.part with watchdog := .stopped, watchdogTimer := 0 }) := hP.same (same_setPart s _) h
  have recorded := closed_recordFault hP stopped .watchdog 0
  unfold watchdogViolation
  dsimp only
  split
  · exact closed_orderlyWithdraw hP recorded _
  · exact hP.mono (Nat.le_succ _) recorded

theorem same_elapse (s : State) (ms : Nat) : Same s (elapse s ms) := by
  unfold elapse
  dsimp only
  split <;> exact ⟨rfl, rfl, rfl⟩

end Sys2Proof.Laws
end

section
/-! SUPPORT. Suspensions and resumptions beside a place that is CANCELLING, and the resumption of every place by CLEAR
FAULTS, counted in notices (R36, R147, R170, R171, R175). -/

namespace Sys2Proof.Laws

open Sys2Proof Sys2Proof.Machine Sys2Proof.Safety

variable {s t u v : State} {j k m n : Nat} {c d x : Claim} {p q : PlaceId} {e : PendingEnd}

/-! ### A suspension makes no claim -/

theorem length_endUncommitted (s : State) (k : Nat) (e : PendingEnd) :
    (endUncommitted s k e).contest.claims.length ≤ s.contest.claims.length := by
  have marked : ∀ f, (modifyClaim s k f).contest.claims.length = s.contest.claims.length := fun _ => List.length_map _
  unfold endUncommitted
  split
  · exact Nat.le_refl _
  next c _ =>
    dsimp only
    split
    · split
      · rw [leaveWithEnd_claims]
        exact (List.length_filter_le _ _).trans (marked _).le
      · exact (marked _).le
    · exact (marked _).le
    all_goals exact Nat.le_refl _

theorem length_cancelClaim (s : State) (k : Nat) :
    (cancelClaim s k).contest.claims.length ≤ s.contest.claims.length := by
  unfold cancelClaim
  split
  · exact Nat.le_refl _
  · split
    iterate 2 exact length_endUncommitted s k _
    · rw [(same_offerFrame _ _).claims, leaveClaim_claims]
      exact List.length_filter_le _ _
    all_goals exact Nat.le_refl _

theorem length_cancelClaimsOf (s : State) (q : PlaceId) :
    (cancelClaimsOf s q).contest.claims.length ≤ s.contest.claims.length :=
  foldl_induct (P := fun u => u.contest.claims.length ≤ s.contest.claims.length)
    (fun u k hu => (length_cancelClaim u k).trans hu) _ (Nat.le_refl _)

theorem length_suspendPlace (s : State) (q : PlaceId) :
    (suspendPlace s q).contest.claims.length ≤ s.contest.claims.length := by
  by_cases hb : (s.place q).state = .building
  · rw [suspendPlace_building hb]
    refine (length_cancelClaimsOf (stopWatch (setPlaceState s q .suspended) q) q).trans ?_
    rw [(same_stopWatch _ q).claims]
    exact Nat.le_refl _
  · rw [suspendPlace_other hb]

/-- R35, R171: the suspension of every place BUILDING. -/
theorem within_suspendAll (s : State) : Within s 0 (allPlaces.foldl suspendPlace s) := by
  have notices : (allPlaces.foldl suspendPlace s).port = s.port := by simp
  have claims := foldl_induct (P := fun u => u.contest.claims.length ≤ s.contest.claims.length)
    (fun u q hu => (length_suspendPlace u q).trans hu) allPlaces (s := s) (Nat.le_refl _)
  unfold Within
  rw [notices]
  omega

theorem within_suspendPlace (s : State) (q : PlaceId) : Within s 0 (suspendPlace s q) := by
  have notices : (suspendPlace s q).port = s.port := by simp
  have claims := length_suspendPlace s q
  unfold Within
  rw [notices]
  omega

/-! ### PLACE_NOT_READY raised (R168, R170, R171) -/

theorem beside_recordFault (h : Beside p s u) (f : FaultId) (i : Nat) : Beside p s (recordFault u f i) :=
  beside_offerNotice (beside_frame h (by simp) (by simp) (by simp)) _

theorem orderlyWithdraw_again (h : s.part.state = .withdrawn) (r : Nat) : orderlyWithdraw s r = offerWithdraw s r := if_pos h

/-- A raising that withdraws no claim: in PLACE scope, or by a station WITHDRAWN already. -/
theorem beside_raise (h : Beside p s u) (calm : u.policy.scope = .place ∨ u.part.state = .withdrawn) (q : PlaceId) :
    Beside p s (raisePlaceNotReady u q) := by
  have recorded := beside_recordFault h (.placeNotReady q) q.val
  cases hs : u.policy.scope with
  | place =>
    rw [raise_place hs]
    exact beside_suspendPlace recorded q
  | cell =>
    have withdrawn : u.part.state = .withdrawn := calm.resolve_left (by rw [hs]; decide)
    rw [raise_cell hs, orderlyWithdraw_again (by simpa using withdrawn)]
    exact beside_same (beside_suspendAll recorded) (same_offerWithdraw _ _)

theorem cancels_raise (h : Cancels p s n u) (q : PlaceId) : Cancels p s (n + 2) (raisePlaceNotReady u q) := by
  have recorded := closed_recordFault (closed_cancels p s) h (.placeNotReady q) q.val
  cases hs : u.policy.scope with
  | place =>
    rw [raise_place hs]
    exact cancels_mono (m := n + 1) (Nat.le_succ _)
      (cancels_beside (m := 0) recorded (beside_suspendPlace recorded.beside q) (within_suspendPlace _ q))
  | cell =>
    rw [raise_cell hs]
    exact closed_orderlyWithdraw (closed_cancels p s)
      (cancels_beside recorded (beside_suspendAll recorded.beside) (within_suspendAll _)) _

theorem beside_startWatch (h : Beside p s u) (calm : u.policy.scope = .place ∨ u.part.state = .withdrawn) (q : PlaceId) :
    Beside p s (startWatch u q) := by
  unfold startWatch
  split
  · exact beside_same h (same_setWatch u q _)
  iterate 2 exact beside_raise h calm q
  all_goals exact h

theorem cancels_startWatch (h : Cancels p s n u) (q : PlaceId) : Cancels p s (n + 2) (startWatch u q) := by
  have kept := cancels_mono (Nat.le_add_right n 2) h
  unfold startWatch
  split
  · exact (closed_cancels p s).same (same_setWatch u q _) kept
  iterate 2 exact cancels_raise h q
  all_goals exact kept

/-! ### A place resumed (R36, R147) -/

/-- A place resumed, before its watch is looked at. -/
def promotedAt (s : State) (q : PlaceId) : State :=
  promoteRecords (setPlaceState s q .building) q ((s.place q).currentTier.getD 0)

theorem resumePlace_promotedAt (h : (s.place q).state = .suspended) :
    resumePlace s q = markSearch (startWatch (promotedAt s q) q) := resumePlace_suspended h

theorem promotedAt_frame (s : State) (q : PlaceId) : (promotedAt s q).config = s.config ∧
    (promotedAt s q).part.state = s.part.state ∧ (promotedAt s q).contest.claims = s.contest.claims := by
  simp [promotedAt]

theorem beside_promotedAt (h : Beside p s u) (hq : (u.place q).state = .suspended) : Beside p s (promotedAt u q) :=
  beside_promoteRecords (beside_setPlace h (h.ofSuspended hq) _) q _

theorem beside_resumePlace (h : Beside p s u) (calm : u.policy.scope = .place ∨ u.part.state = .withdrawn) (q : PlaceId) :
    Beside p s (resumePlace u q) := by
  by_cases hq : (u.place q).state = .suspended
  · obtain ⟨config, state, -⟩ := promotedAt_frame u q
    rw [resumePlace_promotedAt hq]
    refine beside_same (beside_startWatch (beside_promotedAt h hq) ?_ q) (same_markSearch _)
    rwa [State.policy, config, state]
  · rw [resumePlace_other hq]
    exact h

/-- The records for a place. -/
def placeRecords (s : State) (q : PlaceId) : Nat := (s.staging.records.filter (StagingRecord.forPlace q)).length

theorem promoted_forPlace (q r : PlaceId) (n : Nat) (x : StagingRecord) : (promoted q n x).forPlace r = x.forPlace r := by
  unfold StagingRecord.forPlace
  rw [promoted_target]

theorem placeRecords_promotedAt (s : State) (q r : PlaceId) : placeRecords (promotedAt s q) r = placeRecords s r := by
  have records : (promotedAt s q).staging.records =
      s.staging.records.map (promoted q ((s.place q).currentTier.getD 0)) := by
    rw [promotedAt, promoteRecords_staging]
    rfl
  unfold placeRecords
  rw [records, List.filter_map, List.length_map]
  exact congrArg List.length (List.filter_congr fun x _ => promoted_forPlace q r _ x)

theorem length_offers {α : Type} (f : α → Notice) (l : List α) (s : State) :
    (l.foldl (fun u a => offerNotice u (f a)) s).port.notices.length ≤ s.port.notices.length + l.length := by
  induction l generalizing s with
  | nil => exact Nat.le_refl _
  | cons a l ih =>
    rw [List.foldl_cons, List.length_cons]
    have := ih (offerNotice s (f a))
    have := length_offerNotice s (f a)
    omega

theorem forPlace_of_forTier {r : StagingRecord} (h : r.forTier q n = true) : r.forPlace q = true := by
  unfold StagingRecord.forTier at h
  unfold StagingRecord.forPlace
  split at h
  · exact (Bool.and_eq_true_iff.1 h).1
  · cases h

theorem length_hits (s : State) (q : PlaceId) (n : Nat) :
    (s.staging.records.filter (fun r => r.forTier q n && decide (r.state = .waiting))).length ≤ placeRecords s q :=
  (List.monotone_filter_right _ fun _ hr => forPlace_of_forTier (Bool.and_eq_true_iff.1 hr).1).length_le

theorem within_promotedAt (s : State) (q : PlaceId) : Within s (placeRecords s q) (promotedAt s q) := by
  have told := length_offers (fun r : StagingRecord => .casePlaceable r.arrival)
    (s.staging.records.filter fun r => r.forTier q ((s.place q).currentTier.getD 0) && decide (r.state = .waiting))
    (setRecords (setPlaceState s q .building) (s.staging.records.map (promoted q ((s.place q).currentTier.getD 0))))
  have hits := length_hits s q ((s.place q).currentTier.getD 0)
  have notices : (promotedAt s q).port.notices.length ≤ s.port.notices.length + placeRecords s q :=
    told.trans (Nat.add_le_add_left hits _)
  unfold Within
  rw [(promotedAt_frame s q).2.2]
  omega

/-! ### Every place resumed (R171) -/

theorem Settles.beside (h : Settles p s u) (hn : OncePerSlot u) : Beside p u u := by
  refine beside_refl hn ?_
  rcases h with ⟨state, -⟩ | ⟨⟨empty, -⟩, -⟩
  · exact .inl state
  · exact .inr (by rw [empty]; rfl)

/-- The resumption so far: m records promoted and no claim withdrawn yet, or the station WITHDRAWN, which settles it. -/
def Resumed (p : PlaceId) (s : State) (m : Nat) (u : State) : Prop :=
  (u.part.state ≠ .withdrawn ∧ Cancels p s m u ∧ ∀ r, placeRecords u r = placeRecords s r) ∨
    (u.part.state = .withdrawn ∧ OncePerSlot u ∧ Settles p s u)

theorem startWatch_withdrawn (h : s.part.state = .withdrawn) (q : PlaceId) : (startWatch s q).part.state = .withdrawn := by
  have raised : (raisePlaceNotReady s q).part.state = .withdrawn := by
    cases hs : s.policy.scope with
    | place => rw [(raise_place_effects hs q).1, h]
    | cell => exact (raise_cell_station hs q).1
  unfold startWatch
  split
  · exact h
  iterate 2 exact raised
  all_goals exact h

theorem resumePlace_withdrawn (h : s.part.state = .withdrawn) (q : PlaceId) : (resumePlace s q).part.state = .withdrawn := by
  by_cases hq : (s.place q).state = .suspended
  · rw [resumePlace_promotedAt hq]
    exact startWatch_withdrawn ((promotedAt_frame s q).2.1.trans h) q
  · rwa [resumePlace_other hq]

/-- In CELL scope the watch of a place resumed withdraws the station, or leaves it. -/
theorem startWatch_cases (hs : s.policy.scope = .cell) (q : PlaceId) : (startWatch s q).part.state = .withdrawn ∨
    (Same s (startWatch s q) ∧ (startWatch s q).part.state = s.part.state ∧ (startWatch s q).staging = s.staging) := by
  unfold startWatch
  split
  · exact .inr ⟨same_setWatch s q _, rfl, rfl⟩
  iterate 2 exact .inl (raise_cell_station hs q).1
  all_goals exact .inr ⟨same_refl s, rfl, rfl⟩

theorem resumed_resumePlace (hs : u.policy.scope = .cell) (h : Resumed p s m u) (q : PlaceId)
    (hm : s.contest.claims.length + (m + placeRecords s q) + 2 ≤ 16) :
    Resumed p s (m + placeRecords s q) (resumePlace u q) := by
  rcases h with ⟨active, cancels, records⟩ | ⟨withdrawn, once, settles⟩
  · by_cases hq : (u.place q).state = .suspended
    · obtain ⟨config, state, -⟩ := promotedAt_frame u q
      have promoted := cancels_beside cancels (beside_promotedAt cancels.beside hq) (within_promotedAt u q)
      rw [records q] at promoted
      have watched := (closed_cancels p s).same (same_markSearch _) (cancels_startWatch promoted q)
      rw [resumePlace_promotedAt hq]
      rcases startWatch_cases (s := promotedAt u q) (by rwa [State.policy, config]) q with raised | ⟨same, calm, staging⟩
      · exact .inr ⟨raised, watched.once, settles_of_cancels watched (by omega)⟩
      · refine .inl ⟨?_, (closed_cancels p s).same (same_trans same (same_markSearch _)) promoted, fun r => ?_⟩
        · show (startWatch (promotedAt u q) q).part.state ≠ .withdrawn
          rw [calm, state]
          exact active
        · rw [← records r, ← placeRecords_promotedAt u q r]
          show (List.filter _ (startWatch (promotedAt u q) q).staging.records).length = _
          rw [staging]
          rfl
    · rw [resumePlace_other hq]
      exact .inl ⟨active, cancels_mono (Nat.le_add_right _ _) cancels, records⟩
  · have resumed := beside_resumePlace (settles.beside once) (.inr withdrawn) q
    exact .inr ⟨resumePlace_withdrawn withdrawn q, resumed.once, settles_beside settles resumed⟩

/-- Each record is for one place at most. -/
theorem placeRecords_sum (s : State) : placeRecords s 0 + placeRecords s 1 + placeRecords s 2 + placeRecords s 3 ≤
    s.staging.records.length := by
  unfold placeRecords
  induction s.staging.records with
  | nil => exact Nat.le_refl _
  | cons r l ih =>
    simp only [List.filter_cons, List.length_cons]
    have : ∀ a b : PlaceId, a ≠ b → r.forPlace a = true → r.forPlace b = true → False :=
      fun a b hab ha hb => hab (forPlace_unique ha hb)
    by_cases h0 : r.forPlace 0 = true
    · have h1 : ¬r.forPlace 1 = true := this 0 1 (by decide) h0
      have h2 : ¬r.forPlace 2 = true := this 0 2 (by decide) h0
      have h3 : ¬r.forPlace 3 = true := this 0 3 (by decide) h0
      simp only [if_pos h0, if_neg h1, if_neg h2, if_neg h3, List.length_cons]
      omega
    · by_cases h1 : r.forPlace 1 = true
      · have h2 : ¬r.forPlace 2 = true := this 1 2 (by decide) h1
        have h3 : ¬r.forPlace 3 = true := this 1 3 (by decide) h1
        simp only [if_neg h0, if_pos h1, if_neg h2, if_neg h3, List.length_cons]
        omega
      · by_cases h2 : r.forPlace 2 = true
        · have h3 : ¬r.forPlace 3 = true := this 2 3 (by decide) h2
          simp only [if_neg h0, if_neg h1, if_pos h2, if_neg h3, List.length_cons]
          omega
        · simp only [if_neg h0, if_neg h1, if_neg h2]
          split
          · rw [List.length_cons]
            omega
          · omega

theorem Resumed.settles (h : Resumed p s m u) (hm : s.contest.claims.length + m ≤ 16) : Settles p s u ∧ OncePerSlot u :=
  h.elim (fun ⟨_, cancels, _⟩ => ⟨settles_of_cancels cancels hm, cancels.once⟩)
    fun ⟨_, once, settles⟩ => ⟨settles, once⟩

theorem resumeAll_eq (s : State) : resumeAll s = resumePlace (resumePlace (resumePlace (resumePlace s 0) 1) 2) 3 := by
  simp only [resumeAll, allPlaces, List.foldl_cons, List.foldl_nil]

theorem resumePlace_scope (s : State) (q : PlaceId) : (resumePlace s q).policy.scope = s.policy.scope := by
  simp [State.policy]

/-- R171, R175: the resumption of every place settles a cancellation within 16 notices. -/
theorem settles_resumeAll (hs : s.policy.scope = .cell) (hn : OncePerSlot s)
    (room : s.staging.records.length + s.contest.claims.length ≤ 12) (h : Stays p s) :
    Settles p s (resumeAll s) ∧ OncePerSlot (resumeAll s) := by
  have sum := placeRecords_sum s
  have start : Resumed p s 0 s := by
    by_cases hw : s.part.state = .withdrawn
    · exact .inr ⟨hw, hn, .inl h⟩
    · exact .inl ⟨hw, cancels_start hn h, fun _ => rfl⟩
  have first := resumed_resumePlace hs start 0 (by omega)
  have scope0 := (resumePlace_scope s 0).trans hs
  have second := resumed_resumePlace scope0 first 1 (by omega)
  have scope1 := (resumePlace_scope _ 1).trans scope0
  have third := resumed_resumePlace scope1 second 2 (by omega)
  have scope2 := (resumePlace_scope _ 2).trans scope1
  have last := resumed_resumePlace scope2 third 3 (by omega)
  rw [resumeAll_eq]
  exact last.settles (by omega)

end Sys2Proof.Laws
end

section
/-! SUPPORT. Every command but a reset settles a cancellation: it runs on, or it ends and is told (R37, R39). -/

namespace Sys2Proof.Laws

open Sys2Proof Sys2Proof.Machine Sys2Proof.Safety

variable {s t u v : State} {j k m n : Nat} {c d x : Claim} {p q : PlaceId} {i : Instr}

/-! ### Events as a whole -/

theorem stays_frame (h : Stays p s) (plans : t.plans = s.plans) (claims : t.contest.claims = s.contest.claims) :
    Stays p t := by
  unfold Stays
  rw [place_congr plans, claims]
  exact h

theorem settles_same (h : Settles p s u) (hv : Same u v) : Settles p s v := by
  rcases h with stays | ⟨⟨empty, away⟩, told⟩
  · exact .inl (stays_frame stays hv.plans hv.claims)
  · refine .inr ⟨⟨(place_congr hv.plans p).trans empty, ?_⟩, ?_⟩
    · rw [hv.claims]
      exact away
    · rw [hv.notices]
      exact told

/-- An event that begins with the same notices. -/
theorem settles_from (h : Settles p u v) (hu : u.port.notices = s.port.notices) : Settles p s v := by
  unfold Settles at h ⊢
  rwa [hu] at h

theorem settles_searched (h : Cancels p s n u) (hn : s.contest.claims.length + n ≤ 16) : Settles p s (runSearch u) :=
  settles_beside (settles_of_cancels h hn) (beside_runSearch h.beside)

theorem same_answer (s : State) (r : Result) : Same s (answer s r) := ⟨rfl, rfl, rfl⟩
theorem same_respond (s : State) (r : Result) (b : BitVec 88) : Same s (respond s r b) := ⟨rfl, rfl, rfl⟩

/-- A command whose meaning is a function of the state. -/
theorem settles_of_next (he : exec i s = .next t) (hu : exec i s = .next u) (h : Settles p s u) : Settles p s t := by
  rw [he, Host.Outcome.next.injEq] at hu
  rwa [hu]

/-- What the commands of this file are given: a part within its laws, and a place whose cancellation runs. -/
structure Cancelling (p : PlaceId) (s : State) : Prop where
  running : Running s
  stays : Stays p s

theorem Cancelling.start (h : Cancelling p s) : Cancels p s 0 s := cancels_start h.running.tables.once h.stays

theorem Cancelling.beside (h : Cancelling p s) : Beside p s s := h.start.beside

theorem Cancelling.few (h : Cancelling p s) : s.contest.claims.length ≤ 6 := h.running.tables.bound

theorem Cancelling.quiet (h : Cancelling p s) (plans : t.plans = s.plans)
    (claims : t.contest.claims = s.contest.claims) : Settles p s t := .inl (stays_frame h.stays plans claims)

theorem Cancelling.searched (h : Cancelling p s) (hu : Cancels p s n u) (hn : n ≤ 10) : Settles p s (runSearch u) :=
  settles_searched hu (by have := h.few; omega)

theorem Cancelling.ends (h : Cancelling p s) (hu : Cancels p s n u) (hn : n ≤ 10) : Settles p s u :=
  settles_of_cancels hu (by have := h.few; omega)

theorem Cancelling.aside (h : Cancelling p s) (hb : Beside p s u) : Settles p s u := .inl (stays_beside h.stays hb)

/-! ### The belt (R4 to R14) -/

theorem Cancelling.forwardPulse (h : Cancelling p s) : Settles p s (forwardPulse s) := by
  have before := closed_beforeSearch (closed_cancels p s) (takenKept_cancels p s) h.start
  rw [forwardPulse_atGate h.running.started]
  exact settles_same (h.searched before (by decide)) (same_sampleBoundary _)

/-- The rows that name a forward pulse. -/
theorem Cancelling.pulseIf (h : Cancelling p s) (b : Bool) :
    Settles p s (if b then Machine.forwardPulse s else s) := by
  split
  · exact h.forwardPulse
  · exact .inl h.stays

theorem Cancelling.reversePulse (h : Cancelling p s) : Settles p s (reversePulse s) := by
  have laws := closed_cancels p s
  have travelled := closed_noteTravel laws h.start
  by_cases few : s.loop.reverseTally + 1 < 8
  · rw [reversePulse_tallied h.running.started few]
    exact h.ends (laws.same (same_setLoop _ _) travelled) (by decide)
  · rw [reversePulse_eighth h.running.started (Nat.not_lt.1 few)]
    exact h.searched (closed_raiseImmediate laws (laws.same (same_setLoop _ _) travelled) _) (by decide)

theorem same_sampleRealignment (s : State) : Same s (sampleRealignment s) := by constructor <;> simp

theorem Cancelling.indexMark (h : Cancelling p s) : Settles p s (indexMark s) := by
  have laws := closed_cancels p s
  unfold Machine.indexMark
  split
  · split
    · exact h.searched (closed_acceptMark laws (laws.same (same_setLoop _ _) h.start)) (by decide)
    · split
      · split
        · have swept := closed_acceptMark laws (closed_forwardRealignment laws h.start)
          exact settles_same (h.searched swept (by decide)) (same_sampleRealignment _)
        · exact .inl h.stays
      · split
        · split
          · have tested := closed_testClaims laws (laws.same (same_realign s) h.start)
            exact h.searched (closed_acceptMark laws tested) (by decide)
          · exact .inl h.stays
        · exact h.searched (closed_slip laws h.start) (by decide)
  · exact .inl h.stays

/-! ### The hall line (R63 to R79) -/

theorem same_timeLevels (s : State) (l : List Bool) : Same s (timeLevels s l) := ⟨rfl, rfl, rfl⟩

theorem Cancelling.arbitrationEnd (h : Cancelling p s) (read : List Byte) : Settles p s (arbitrationEnd s read) := by
  have laws := closed_cancels p s
  unfold Machine.arbitrationEnd
  split
  · dsimp only
    split
    · exact .inl h.stays
    · split
      · exact h.searched (closed_loseAttempt laws
          (laws.same (same_trans (same_timeLevels s _) (same_setAttempt _ none)) h.start) _) (by decide)
      · exact h.ends (laws.same (same_setAttempt _ _) (closed_beginSend laws (laws.same (same_timeLevels s _) h.start) _))
          (by decide)
  · exact .inl h.stays

theorem Cancelling.frameReceived (h : Cancelling p s) (bytes : List Byte) (b : Bool) :
    Settles p s (frameReceived s bytes b) := by
  have laws := closed_cancels p s
  have timed : Cancels p s 0 (timeFrame s bytes b) := laws.same (same_timeLevels s _) h.start
  unfold Machine.frameReceived
  split
  iterate 2 exact .inl h.stays
  all_goals
    split
    · split
      · exact h.ends (laws.same (same_judgeOwn _ _ _) timed) (by decide)
      · exact .inl h.stays
    · split
      · exact h.searched (closed_receiveHeard laws timed _ _) (by decide)
      · exact .inl h.stays

theorem same_judged (s : State) (a : Attempt) : Same s (judged s a) := by
  unfold judged
  split
  · exact same_judgeOwn s a false
  · exact same_refl s

theorem Cancelling.frameEnd (h : Cancelling p s) (a r : Bool) : Settles p s (frameEnd s a r) := by
  have laws := closed_cancels p s
  have timed : Cancels p s 0 (timeLevels s [!a, !r]) := laws.same (same_timeLevels s _) h.start
  unfold Machine.frameEnd
  dsimp only
  split
  iterate 3 exact .inl h.stays
  · split
    next b _ =>
      split
      · have judged := laws.same (same_judged (timeLevels s [!a, !r]) b) timed
        unfold endOwnSend
        dsimp only
        split
        · exact h.searched (laws.same (same_afterFrame _) (closed_sendOutcome laws judged _ _ _)) (by decide)
        · exact h.ends (laws.same (same_afterFrame _) judged) (by decide)
      · exact .inl h.stays
    next => exact h.ends (laws.same (same_afterFrame _) timed) (by decide)

theorem Cancelling.lineStuck (h : Cancelling p s) : Settles p s (lineStuck s) := by
  have laws := closed_cancels p s
  unfold Machine.lineStuck
  split
  · exact h.searched (closed_stickLine laws (laws.same (same_elapse s _) h.start)) (by decide)
  · exact .inl h.stays

theorem same_enterHeld (s : State) : Same s (enterHeld s) := by
  unfold enterHeld
  split
  · split
    · exact same_setLine s _
    · exact same_refl s
  · exact same_refl s

theorem Cancelling.frameHandled (h : Cancelling p s) : Settles p s (frameHandled s) := by
  have laws := closed_cancels p s
  unfold Machine.frameHandled
  split
  · exact h.searched (closed_handleFrame laws
      (laws.same (same_trans (same_setLine s _) (same_enterHeld _)) h.start) _) (by decide)
  · exact .inl h.stays

/-! ### Intervals (R139, R169, R172) -/

theorem Cancelling.divertJam (h : Cancelling p s) : Settles p s (divertJam s) := by
  have laws := closed_cancels p s
  unfold Machine.divertJam
  split
  · have jammed : ∀ u : State, Same u (u.setDivert { u.divert with jamTimer := none, jam := true }) :=
      fun _ => ⟨rfl, rfl, rfl⟩
    exact h.searched (closed_raiseImmediate laws (laws.same (same_trans (same_elapse s _) (jammed _)) h.start) _) (by decide)
  · exact .inl h.stays

theorem same_endCondition (s : State) (f : FaultId) : Same s (endCondition s f) := by constructor <;> simp

theorem Cancelling.placeTimer (h : Cancelling p s) (ms : Nat) (q : PlaceId) :
    Settles p s (runSearch (placeTimerEnd (elapse s ms) q)) := by
  have laws := closed_cancels p s
  have elapsed := laws.same (same_elapse s ms) h.start
  unfold placeTimerEnd
  split
  · exact h.searched (cancels_raise (laws.same (same_setWatch _ q _) elapsed) q) (by decide)
  · have ended := laws.same (same_trans (same_endCondition (elapse s ms) (.placeNotReady q)) (same_setWatch _ q
      ⟨if (elapse s ms).building q then .ready else .unwatched, 0⟩)) elapsed
    unfold endPlaceCondition
    dsimp only
    split
    next auto =>
      obtain ⟨scope, -⟩ := auto
      have beside := beside_trans (beside_same (beside_same h.beside (same_elapse s ms)) (same_trans
        (same_endCondition _ (.placeNotReady q)) (same_setWatch _ q _))) ended.beside
      refine h.aside (beside_runSearch (beside_resumePlace beside (.inl ?_) q))
      simpa [State.policy] using scope
    next => exact h.searched ended (by decide)
  all_goals exact h.searched elapsed (by decide)

theorem Cancelling.placeReadyTimer (h : Cancelling p s) (q : PlaceId) : Settles p s (placeReadyTimer s q) := by
  unfold Machine.placeReadyTimer
  split
  · exact h.placeTimer _ q
  · exact .inl h.stays

theorem Cancelling.watchdogExpiry (h : Cancelling p s) : Settles p s (watchdogExpiry s) := by
  have laws := closed_cancels p s
  unfold Machine.watchdogExpiry
  split
  · exact h.searched (closed_watchdogViolation laws (laws.same (same_elapse s _) h.start)) (by decide)
  · exact .inl h.stays

theorem Cancelling.keepalive (h : Cancelling p s) : Settles p s (keepalive s) := by
  have laws := closed_cancels p s
  unfold Machine.keepalive
  split
  · split
    · exact h.quiet rfl rfl
    · exact h.searched (closed_watchdogViolation laws h.start) (by decide)
  · exact .inl h.stays

/-! ### CLEAR FAULTS (R170, R171, R175) -/

theorem same_clearRecord (s : State) : Same s (clearRecord s) :=
  foldl_induct (P := Same s) (fun _ _ hu => same_trans hu (by constructor <;> simp [clearEntry])) _ (same_refl s)

theorem beside_resumeCleared (h : Beside p s u ∧ u.policy.scope = .place) (f : FaultId) :
    Beside p s (resumeCleared u f) ∧ (resumeCleared u f).policy.scope = .place := by
  obtain ⟨beside, scope⟩ := h
  unfold resumeCleared
  split
  · exact ⟨beside_resumePlace beside (.inl scope) _, (resumePlace_scope u _).trans scope⟩
  · exact ⟨beside, scope⟩

theorem Cancelling.clearFaults (h : Cancelling p s) : Settles p s (clearFaults s) := by
  have same := same_clearRecord s
  have cleared := beside_same h.beside same
  have searched : ∀ {u}, Beside p s u → Settles p s (runSearch u) := fun hu => h.aside (beside_runSearch hu)
  unfold Machine.clearFaults clearEffects
  split
  next scope =>
    split
    · exact searched (foldl_induct (P := fun u => Beside p s u ∧ u.policy.scope = .place)
        (fun _ f hu => beside_resumeCleared hu f) s.clearableFaults ⟨cleared, scope⟩).1
    · exact searched cleared
  next scope =>
    split
    · have few := h.running.tables.room.trans h.running.lane
      have records : (clearRecord s).staging = s.staging := by simp
      obtain ⟨settles, once⟩ := settles_resumeAll scope cleared.once (by rw [records, same.claims]; exact few)
        (stays_beside h.stays cleared)
      exact settles_from (settles_beside settles (beside_runSearch (settles.beside once))) same.notices
    · exact searched cleared

/-! ### The plans (R21 to R25, R34, R37) -/

theorem Cancelling.loader (h : Cancelling p s) (hq : s.plans.loader = some q) : q ≠ p := by
  have loading : (s.place q).state = .loading := (h.running.plans.loading q).1 hq
  exact h.beside.other (by rw [loading]; decide) (by rw [loading]; decide)

/-- A place in a state that is not CANCELLING is another one. -/
theorem Cancelling.other (h : Cancelling p s) {st : PlaceState} (hq : (s.place q).state = st) (hs : st ≠ .cancelling) :
    q ≠ p := by
  rintro rfl
  exact hs (hq.symm.trans h.stays.1)

theorem beside_setPlans (h : Beside p s u) {x : PlanStore} (hx : x.places = u.plans.places) : Beside p s (u.setPlans x) :=
  beside_plans h (by show x.places[p] = _; rw [hx]; rfl) rfl rfl

theorem Cancelling.openPlan (h : Cancelling p s) (a : Nat) (r : BitVec 32) (m : Nat) :
    Settles p s (openPlanChecked s a r m) := by
  have refused : ∀ r, Settles p s (answer s r) := fun _ => h.quiet rfl rfl
  unfold openPlanChecked
  split
  · exact refused _
  next q _ =>
    repeat' split
    iterate 3 exact refused _
    next empty =>
      have placed := beside_setPlace h.beside (h.other (not_not.1 empty) (by decide))
        ⟨.loading, some r, some m, none, List.replicate Config.maxTiers []⟩
      have opened := beside_setPlans placed (x := { (setPlace s q ⟨.loading, some r, some m, none,
        List.replicate Config.maxTiers []⟩).plans with loader := some q }) rfl
      exact settles_same (h.aside opened) (same_answer _ _)

theorem Cancelling.addLine (h : Cancelling p s) (a b f m : Nat) : Settles p s (addLineChecked s a b f m) := by
  have refused : ∀ r, Settles p s (answer s r) := fun _ => h.quiet rfl rfl
  unfold addLineChecked
  split
  · exact refused _
  next q loads =>
    repeat' split
    iterate 3 exact refused _
    exact settles_same (h.aside (beside_setPlace h.beside (h.loader loads) _)) (same_answer _ _)

theorem Cancelling.commitPlan (h : Cancelling p s) : Settles p s (commitPlanChecked s) := by
  unfold commitPlanChecked
  split
  · exact h.quiet rfl rfl
  next q loads =>
    split
    · exact h.quiet rfl rfl
    · have placed := beside_setPlace h.beside (h.loader loads) { s.place q with state := .building, currentTier := some 1 }
      have built := beside_setPlans placed (x := { s.plans with
        places := s.plans.places.set q.val { s.place q with state := .building, currentTier := some 1 } q.isLt
        buildOrder := s.plans.buildOrder ++ [q], loader := none }) rfl
      have watched := cancels_startWatch (cancels_beside (m := 0) h.start built (Nat.le_refl _)) q
      exact settles_same (h.searched ((closed_cancels p s).same (same_markSearch _) watched) (by decide)) (same_answer _ _)

theorem Cancelling.abandonPlan (h : Cancelling p s) : Settles p s (abandonPlanChecked s) := by
  unfold abandonPlanChecked
  split
  · exact h.quiet rfl rfl
  next q loads =>
    have emptied := beside_setPlans (beside_setPlace h.beside (h.loader loads) Place.empty)
      (x := { (setPlace s q Place.empty).plans with loader := none }) rfl
    exact settles_same (h.aside emptied) (same_answer _ _)

theorem Cancelling.releasePallet (h : Cancelling p s) (m : Nat) : Settles p s (releasePalletChecked s m) := by
  unfold releasePalletChecked
  split
  · exact h.quiet rfl rfl
  next q _ =>
    split
    next complete =>
      exact settles_same (h.aside (beside_setPlace h.beside (h.other complete (by decide)) _)) (same_answer _ _)
    next => exact h.quiet rfl rfl

theorem beside_leaveBuildOrder (h : Beside p s u) (q : PlaceId) : Beside p s (leaveBuildOrder u q) := beside_setPlans h rfl

theorem beside_orphanRecords (h : Beside p s u) (hq : q ≠ p) : Beside p s (orphanRecords u q) :=
  beside_offers _ _ (beside_setPlace (beside_same h (same_setRecords u _)) hq _)

theorem beside_cancelPlace (h : Beside p s u) (hq : q ≠ p) : Beside p s (cancelPlace u q) := by
  have left := beside_leaveBuildOrder (beside_setPlace h hq { u.place q with state := .cancelling, currentTier := none }) q
  have cancelled := beside_cancelClaimsOf (beside_same left (same_stopWatch _ q)) hq
  exact beside_cancelTest (beside_orphanRecords cancelled hq) hq

theorem Cancelling.cancelPallet (h : Cancelling p s) (m : Nat) : Settles p s (cancelPalletChecked s m) := by
  unfold cancelPalletChecked
  split
  · exact h.quiet rfl rfl
  next q _ =>
    have ended : q ≠ p → Settles p s (answer (runSearch (cancelPlace s q)) .done) := fun hq =>
      settles_same (h.aside (beside_runSearch (beside_cancelPlace h.beside hq))) (same_answer _ _)
    split
    next builds => exact ended (h.other builds (by decide))
    next suspended => exact ended (h.other suspended (by decide))
    all_goals exact h.quiet rfl rfl

/-! ### The records (R151 to R153) -/

theorem beside_tierTest (h : Beside p s u) (hq : (u.place q).currentTier.isSome = true → q ≠ p) :
    Beside p s (tierTest u q) := by
  unfold tierTest
  split
  next t n ht hn =>
    have away := hq (by rw [ht]; rfl)
    split
    · split
      · exact beside_same (beside_promoteRecords (beside_offerNotice (beside_setPlace h away _) _) q _) (same_markSearch _)
      · exact beside_offerNotice (beside_same (beside_leaveBuildOrder (beside_setPlace h away _) q) (same_stopWatch _ q)) _
    · exact h
  next => exact h

theorem Cancelling.tiered (h : Cancelling p s) (e : header (u.place q) = header (s.place q)) :
    (u.place q).currentTier.isSome = true → q ≠ p := by
  intro some
  rw [currentTier_of_header e] at some
  rcases h.running.plans.tier q some with state | state
  · exact h.other state (by decide)
  · exact h.other state (by decide)

theorem same_dropRecord (s : State) (a : Nat) : Same s (dropRecord s a) := same_setRecords s _

theorem same_tallyRemoval (s : State) (b : Bool) : Same s (tallyRemoval s b) := by
  unfold tallyRemoval
  split <;> exact ⟨rfl, rfl, rfl⟩

theorem Cancelling.placed (h : Cancelling p s) (a : Nat) : Settles p s (placedChecked s a) := by
  unfold placedChecked
  split
  · exact h.quiet rfl rfl
  next r _ =>
    split
    · refine settles_same (h.aside (beside_runSearch ?_)) (same_answer _ _)
      have dropped := beside_same h.beside (same_dropRecord s r.arrival)
      unfold placeRecord
      split
      next g _ =>
        refine beside_same (beside_tierTest (beside_modifyLine dropped g Line.place) (h.tiered ?_)) (same_markSearch _)
        exact (header_modifyLine _ g Line.place g.place).trans (congrArg header (place_congr rfl _))
      next => exact beside_same dropped (same_markSearch _)
    · exact h.quiet rfl rfl

theorem Cancelling.removeCase (h : Cancelling p s) (a r : Nat) : Settles p s (removeCaseChecked s a r) := by
  unfold removeCaseChecked
  split
  · exact h.quiet rfl rfl
  · split
    · exact h.quiet rfl rfl
    next x _ =>
      refine settles_same (h.aside (beside_runSearch ?_)) (same_answer _ _)
      have dropped := beside_same h.beside (same_dropRecord s x.arrival)
      unfold removeRecord
      refine beside_same ?_ (same_trans (same_tallyRemoval _ _) (same_markSearch _))
      split
      · exact beside_modifyLine dropped _ _
      · exact dropped

theorem Cancelling.acceptSuspect (h : Cancelling p s) (a : Nat) : Settles p s (acceptSuspectChecked s a) := by
  unfold acceptSuspectChecked
  split
  · exact h.quiet rfl rfl
  · split
    · refine settles_same (h.aside ?_) (same_answer _ _)
      unfold acceptRecord
      dsimp only
      split
      · exact beside_offerNotice (beside_same h.beside (same_setRecords s _)) _
      · exact beside_same h.beside (same_setRecords s _)
    · exact h.quiet rfl rfl

theorem Cancelling.afterGo (h : Cancelling p s) (hu : Settles p s u) : Settles p s (afterGo s u) := by
  unfold Machine.afterGo
  split
  · exact h.quiet rfl rfl
  · exact hu

/-! ### The commands together -/

theorem same_gateRise (s : State) : Same s (gateRise s) := by
  unfold gateRise
  (repeat' split) <;> exact ⟨rfl, rfl, rfl⟩

theorem same_gateFall (s : State) : Same s (gateFall s) := by
  unfold gateFall
  (repeat' split) <;> exact ⟨rfl, rfl, rfl⟩

theorem same_lineStuckEnd (s : State) : Same s (lineStuckEnd s) := by
  unfold lineStuckEnd
  split
  · exact same_trans (same_setLine s _) (same_endCondition _ _)
  · exact same_refl s

theorem same_showFaults (s : State) : Same s (showFaults s) :=
  foldl_induct (P := Same s) (fun _ _ hu => same_trans hu (by constructor <;> simp [showEntry])) _ (same_refl s)

theorem same_setCounterChecked (s : State) (a b c d : Nat) : Same s (setCounterChecked s a b c d) := by
  unfold setCounterChecked
  (repeat' split) <;> exact ⟨rfl, rfl, rfl⟩

/-- R37, R39: every command but a reset settles a cancellation that runs. -/
theorem exec_settles (h : Cancelling p s) (hc : resets i = false) (he : exec i s = .next t) : Settles p s t := by
  have laws := closed_cancels p s
  have one : ∀ {u : State}, exec i s = .next u → Settles p s u → Settles p s t := fun hu => settles_of_next he hu
  have stands : ∀ {u : State}, u.plans = s.plans → u.contest.claims = s.contest.claims → Settles p s u := h.quiet
  have answered : ∀ r b, Settles p s (respond s r b) := fun _ _ => h.quiet rfl rfl
  have reads : ∀ k, Settles p s (readRecord s k) := fun k => by
    unfold readRecord
    split <;> exact answered _ _
  have refused : ∀ a b, Settles p s (configure s a b) := fun a b => by
    unfold configure
    rw [if_pos h.running.started]
    exact answered _ _
  have either : ∀ {q : Prop} [Decidable q] {a b : State}, Settles p s a → Settles p s b → Settles p s (if q then a else b) :=
    fun ha hb => by split <;> assumption
  cases i with
  | powerOnReset | restart => cases hc
  | forwardPulse => exact one rfl h.forwardPulse
  | gateEdgeAccepted | gateCleared | edgeExpired | dwellEnd | windowClosedMissed | confirmEdge | confirmCleared =>
    exact one rfl (h.pulseIf _)
  | reversePulse => exact one rfl h.reversePulse
  | indexMark => exact one rfl h.indexMark
  | loopStopped => exact one rfl (stands (by simp) (by simp))
  | gateEyeRise => exact one rfl (settles_same (.inl h.stays) (same_gateRise s))
  | gateEyeFall => exact one rfl (settles_same (.inl h.stays) (same_gateFall s))
  | scannerReport chars => exact one rfl (either (stands (by simp) (by simp)) (.inl h.stays))
  | scannerCharacter c => exact one rfl (either (stands (by simp) (by simp)) (.inl h.stays))
  | reportGapTimeout => exact one rfl (stands (by simp) (by simp))
  | lineFree => exact one rfl (stands (by simp) (by simp))
  | startBitBegins => exact one rfl (stands (by simp) (by simp))
  | sendAttempt => exact one rfl (stands (by simp) (by simp))
  | arbitrationEnd read => exact one rfl (h.arbitrationEnd read)
  | frameReceived b e => exact one rfl (h.frameReceived b e)
  | frameEnd a r => exact one rfl (h.frameEnd a r)
  | heldOwnFrameEnters => exact one rfl (settles_same (.inl h.stays) (same_enterHeld s))
  | lineStuck => exact one rfl h.lineStuck
  | lineStuckEnd => exact one rfl (settles_same (.inl h.stays) (same_lineStuckEnd s))
  | frameHandled => exact one rfl h.frameHandled
  | confirmEyeRise => exact one rfl (stands (by simp) (by simp))
  | confirmEyeFall => exact one rfl (stands (by simp) (by simp))
  | divertJam => exact one rfl h.divertJam
  | placeReadyRise q => exact one rfl (stands (by simp) (by simp))
  | placeReadyFall q => exact one rfl (stands (by simp) (by simp))
  | placeReadyTimer q => exact one rfl (h.placeReadyTimer q)
  | watchdogExpiry => exact one rfl h.watchdogExpiry
  | transactionStart => exact one rfl (stands rfl rfl)
  | transactionIncomplete n => exact one rfl (answered _ _)
  | checkError f => exact one rfl (answered _ _)
  | unknownCommand n => exact one rfl (answered _ _)
  | nop => exact one rfl (answered _ _)
  | keepalive => exact one rfl (settles_same h.keepalive (same_answer _ _))
  | clearFaults => exact one rfl (settles_same h.clearFaults (same_respond _ _ _))
  | armWatchdog => exact one rfl (either (stands rfl rfl) (answered _ _))
  | hallSize | stationEntry | ownSetup | timing | faultPolicy => exact one rfl (refused _ _)
  | go => exact one rfl (by rw [if_pos h.running.started]; exact answered _ _)
  | withdraw =>
    have gone := settles_same (h.searched (closed_orderlyWithdraw laws h.start 0) (by decide)) (same_answer _ .done)
    refine one rfl ?_
    split
    iterate 2 exact gone
    all_goals exact answered _ _
  | rejoin => exact one rfl (either (stands (by simp) (by simp)) (answered _ _))
  | openPlan a r n => exact one rfl (h.afterGo (h.openPlan _ _ _))
  | addLine t a f q => exact one rfl (h.afterGo (h.addLine _ _ _ _))
  | commitPlan => exact one rfl (h.afterGo h.commitPlan)
  | abandonPlan => exact one rfl (h.afterGo h.abandonPlan)
  | cancelPallet a => exact one rfl (h.afterGo (h.cancelPallet _))
  | releasePallet a => exact one rfl (h.afterGo (h.releasePallet _))
  | placed a => exact one rfl (h.afterGo (h.placed _))
  | removeCase a r => exact one rfl (h.afterGo (h.removeCase _ _))
  | acceptSuspect a => exact one rfl (h.afterGo (h.acceptSuspect _))
  | readNotice =>
    refine one rfl ?_
    split <;> exact stands rfl rfl
  | readPallet q =>
    refine one rfl ?_
    split <;> exact answered _ _
  | readLine q t l =>
    refine one rfl ?_
    unfold readLine
    (repeat' split) <;> exact answered _ _
  | readStagingByArrival v =>
    refine one rfl ?_
    split
    · exact reads _
    · exact answered _ _
  | readStagingByIndex v => exact one rfl (either (answered _ _) (reads _))
  | readStagingSummary m => exact one rfl (either (answered _ _) (answered _ _))
  | readClaims k =>
    refine one rfl (either (answered _ _) ?_)
    split <;> exact answered _ _
  | readView k => exact one rfl (h.afterGo (either (answered _ _) (answered _ _)))
  | readRoster k =>
    refine one rfl ?_
    split <;> exact answered _ _
  | readFaults => exact one rfl (settles_same (.inl h.stays) (same_trans (same_showFaults s) (same_respond _ _ _)))
  | setCounter a b c d => exact one rfl (settles_same (.inl h.stays) (same_setCounterChecked s _ _ _ _))
  | readCounter k =>
    refine one rfl ?_
    split <;> exact answered _ _

end Sys2Proof.Laws
end

section
/-! SUPPORT. CANCEL PALLET (R37, R121, R150): what it makes of the place, of its claims and of its records. -/

namespace Sys2Proof.Laws

open Sys2Proof Sys2Proof.Machine Sys2Proof.Safety

variable {s t u v : State} {j k m n : Nat} {c d x : Claim} {p q : PlaceId}

/-! ### The steps of a cancellation -/

/-- R37: the place CANCELLING, out of the build order, its watch stopped. -/
def cancelStarted (s : State) (p : PlaceId) : State :=
  stopWatch (leaveBuildOrder (setPlace s p { s.place p with state := .cancelling, currentTier := none }) p) p

/-- R37: the claims of the place cancelled and its records made ORPHAN. -/
def orphanedAt (s : State) (p : PlaceId) : State := orphanRecords (cancelClaimsOf (cancelStarted s p) p) p

theorem cancelPlace_eq (s : State) (p : PlaceId) : cancelPlace s p = cancelTest (orphanedAt s p) p := rfl

theorem cancelStarted_frame (s : State) (p : PlaceId) : (cancelStarted s p).contest = s.contest ∧
    (cancelStarted s p).line = s.line ∧ (cancelStarted s p).staging = s.staging ∧ (cancelStarted s p).port = s.port := by
  unfold cancelStarted
  simp [leaveBuildOrder]

theorem cancelStarted_place (s : State) (p : PlaceId) : (cancelStarted s p).place p =
    { s.place p with state := .cancelling, currentTier := none } := by
  unfold cancelStarted
  rw [place_congr (same_stopWatch _ p).plans]
  exact (place_setPlace s p p _).trans (if_pos rfl)

theorem cancelStarted_buildOrder (s : State) (p : PlaceId) : p ∉ (cancelStarted s p).plans.buildOrder := by
  unfold cancelStarted
  rw [(same_stopWatch _ p).plans]
  exact fun hm => of_decide_eq_true (List.mem_filter.1 hm).2 rfl

theorem running_cancelStarted (h : Running s) (hp : (s.place p).state = .building ∨ (s.place p).state = .suspended) :
    Running (cancelStarted s p) := running_stopWatch (running_leave h p hp (Or.inr rfl) rfl) p

/-- R150: a record that loses its place. -/
def orphaned (p : PlaceId) (r : StagingRecord) : StagingRecord :=
  if r.forPlace p then { r with state := .orphan, target := none } else r

theorem orphaned_forPlace (p : PlaceId) (r : StagingRecord) : (orphaned p r).forPlace p = false := by
  unfold orphaned
  split
  · rfl
  next h => exact Bool.eq_false_iff.2 h

theorem orphaned_arrival (p : PlaceId) (r : StagingRecord) : (orphaned p r).arrival = r.arrival := by
  unfold orphaned
  split <;> rfl

theorem orphanRecords_records (s : State) (p : PlaceId) :
    (orphanRecords s p).staging.records = s.staging.records.map (orphaned p) :=
  congrArg StagingTable.records
    (foldl_staging (f := fun u (r : StagingRecord) => offerNotice u (.caseOrphaned r.arrival)) (fun _ _ => by simp) _ _)

theorem offers_plans {α : Type} (f : α → Notice) (l : List α) (s : State) :
    (l.foldl (fun u a => offerNotice u (f a)) s).plans = s.plans :=
  foldl_induct (P := fun u => u.plans = s.plans)
    (fun u a hu => (by simp : (offerNotice u (f a)).plans = u.plans).trans hu) l rfl

theorem orphanRecords_plans (s : State) (p : PlaceId) :
    (orphanRecords s p).plans = (setPlace s p ((s.place p).mapLines fun l => { l with staged := 0 })).plans :=
  offers_plans _ _ _

/-! ### The place and the records once orphaned -/

theorem orphanedAt_claims (s : State) (p : PlaceId) :
    (orphanedAt s p).contest.claims = (cancelClaimsOf (cancelStarted s p) p).contest.claims := by simp [orphanedAt]

theorem orphanedAt_staging (s : State) (p : PlaceId) :
    (orphanedAt s p).staging.records = s.staging.records.map (orphaned p) := by
  rw [orphanedAt, orphanRecords_records, ← (cancelStarted_frame s p).2.2.1]
  simp

theorem setPlace_buildOrder (s : State) (q : PlaceId) (x : Place) :
    (setPlace s q x).plans.buildOrder = s.plans.buildOrder := rfl

theorem orphanedAt_buildOrder (s : State) (p : PlaceId) : p ∉ (orphanedAt s p).plans.buildOrder := by
  have same : (orphanedAt s p).plans.buildOrder = (cancelStarted s p).plans.buildOrder := by
    rw [orphanedAt, orphanRecords_plans, setPlace_buildOrder]
    exact buildOrder_of_core (corePlans_cancelClaimsOf (cancelStarted s p) p)
  rw [same]
  exact cancelStarted_buildOrder s p

theorem orphanedAt_place (s : State) (p : PlaceId) : (orphanedAt s p).place p =
    ((cancelClaimsOf (cancelStarted s p) p).place p).mapLines fun l => { l with staged := 0 } := by
  rw [orphanedAt, place_congr (orphanRecords_plans _ p), place_setPlace, if_pos rfl]

theorem orphanedAt_state (s : State) (p : PlaceId) : ((orphanedAt s p).place p).state = .cancelling := by
  rw [orphanedAt_place]
  show ((cancelClaimsOf (cancelStarted s p) p).place p).state = _
  rw [state_of_core (corePlans_cancelClaimsOf _ p), cancelStarted_place]

theorem orphanedAt_staged (s : State) (p : PlaceId) : ∀ ls ∈ ((orphanedAt s p).place p).tiers, ∀ l ∈ ls, l.staged = 0 := by
  rw [orphanedAt_place]
  intro ls hls l hl
  obtain ⟨old, -, rfl⟩ := List.mem_map.1 hls
  obtain ⟨l', -, rfl⟩ := List.mem_map.1 hl
  rfl

/-- R150: a notice for each record of the place, in arrival order. -/
theorem orphanedAt_notices (h : s.port.notices.length + (s.staging.records.filter (StagingRecord.forPlace p)).length ≤ 32) :
    (orphanedAt s p).port.notices = s.port.notices ++
      (s.staging.records.filter (StagingRecord.forPlace p)).map (fun r => .caseOrphaned r.arrival) := by
  obtain ⟨-, -, staging, port⟩ := cancelStarted_frame s p
  have records : (cancelClaimsOf (cancelStarted s p) p).staging = s.staging := by rw [← staging]; simp
  have notices : (cancelClaimsOf (cancelStarted s p) p).port = s.port := by rw [← port]; simp
  unfold orphanedAt orphanRecords
  dsimp only
  rw [records, offered_notices (fun r : StagingRecord => .caseOrphaned r.arrival)]
  · show (cancelClaimsOf (cancelStarted s p) p).port.notices ++ _ = _
    rw [notices]
  · show (cancelClaimsOf (cancelStarted s p) p).port.notices.length + _ ≤ 32
    rw [notices]
    exact h

/-! ### The claims of the place -/

/-- R121: what the cancellation makes of each claim of the place. -/
theorem cancelledAt_orphanedAt (h : Running s) (hp : (s.place p).state = .building ∨ (s.place p).state = .suspended)
    (hc : s.claimAt k = some x) (hx : x.target.place = p) : CancelledAt k x s (orphanedAt s p) := by
  obtain ⟨contest, line, -, -⟩ := cancelStarted_frame s p
  have begun : SlotKept k s (cancelStarted s p) := slotKept_frame (slotKept_refl k s) ⟨contest, line⟩
  have cancelled := cancelledAt_cancelClaimsOf (running_cancelStarted h hp).tables.once (begun.claim.trans hc) hx
  have recorded : SlotKept k (cancelClaimsOf (cancelStarted s p) p) (orphanedAt s p) :=
    slotKept_frame (slotKept_refl k _) (by simp [orphanedAt])
  exact cancelledAt_later (cancelledAt_earlier cancelled begun) recorded fun hf => hasFrame_congr hf (by simp [orphanedAt])

/-- A claim of the place that is left has been won, or has its end recorded. -/
theorem mem_orphanedAt (h : Running s) (hp : (s.place p).state = .building ∨ (s.place p).state = .suspended)
    (hc : c ∈ (orphanedAt s p).contest.claims) (ht : c.target.place = p) :
    c.state = .committed ∨ c.state = .firing ∨ c.pendingEnd.isSome = true := by
  have once : OncePerSlot (orphanedAt s p) :=
    once_congr (orphanedAt_claims s p) (running_cancelClaimsOf (running_cancelStarted h hp) p).tables.once
  have entry := claimAt_of_mem once hc
  rw [orphanedAt_claims] at hc
  obtain ⟨x, hx, slot, target, -⟩ := claimsFrom_cancelClaimsOf (cancelStarted s p) p c hc
  rw [(cancelStarted_frame s p).1] at hx
  have cancelled := cancelledAt_orphanedAt h hp (claimAt_of_mem h.tables.once hx) (by rw [target, ht])
  rw [slot] at cancelled
  have marked : ∀ e, (orphanedAt s p).claimAt c.slot = some (ending x e) → c.pendingEnd.isSome = true := fun e he => by
    rw [Option.some.inj (entry.symm.trans he)]
    rfl
  have gone : (orphanedAt s p).claimAt c.slot = none → False := fun he => nomatch he.symm.trans entry
  cases hs : x.state with
  | queued =>
    by_cases idle : HasIdle c.slot s
    · exact (gone (cancelled.left hs idle)).elim
    · exact .inr (.inr (marked _ (cancelled.marked (.inr ⟨hs, idle⟩))))
  | sending => exact .inr (.inr (marked _ (cancelled.marked (.inl hs))))
  | armed => exact (gone (cancelled.armed hs).1).elim
  | committed =>
    rw [Option.some.inj (entry.symm.trans (cancelled.standing (.inl hs)))]
    exact .inl hs
  | firing =>
    rw [Option.some.inj (entry.symm.trans (cancelled.standing (.inr hs)))]
    exact .inr (.inl hs)

/-! ### The end of the command -/

/-- The state that CANCEL PALLET leaves, but for its answer. -/
def cancelledPallet (s : State) (p : PlaceId) : State := runSearch (cancelPlace s p)

/-- R39: a place cancelled is EMPTY at once where no claim targets it. -/
theorem cancelPlace_cases (s : State) (p : PlaceId) :
    ((∃ c ∈ (orphanedAt s p).contest.claims, c.target.place = p) ∧ cancelPlace s p = orphanedAt s p) ∨
    ((∀ c ∈ (orphanedAt s p).contest.claims, c.target.place ≠ p) ∧
      cancelPlace s p = offerNotice (setPlace (orphanedAt s p) p Place.empty) (.cancelDone p)) := by
  rw [cancelPlace_eq]
  by_cases h : ∃ c ∈ (orphanedAt s p).contest.claims, c.target.place = p
  · exact .inl ⟨h, cancelTest_standing h⟩
  · have none : ∀ c ∈ (orphanedAt s p).contest.claims, c.target.place ≠ p := fun c hc hp => h ⟨c, hc, hp⟩
    refine .inr ⟨none, if_pos ⟨orphanedAt_state s p, List.all_eq_true.2 fun c hc => decide_eq_true (none c hc)⟩⟩

theorem cancelPlace_shut (s : State) (p : PlaceId) : ((cancelPlace s p).place p).state ≠ .building := by
  rcases cancelPlace_cases s p with ⟨-, e⟩ | ⟨-, e⟩
  · rw [e, orphanedAt_state]
    decide
  · rw [e, place_congr (s := setPlace (orphanedAt s p) p Place.empty) (by simp), place_setPlace, if_pos rfl]
    decide

theorem cancelPlace_claims (s : State) (p : PlaceId) :
    (cancelPlace s p).contest.claims = (orphanedAt s p).contest.claims := by
  rw [cancelPlace_eq, cancelTest_claims]

/-- R105: the search makes no claim for the place. -/
theorem mem_cancelledPallet (hp : c.target.place = p) :
    c ∈ (cancelledPallet s p).contest.claims ↔ c ∈ (orphanedAt s p).contest.claims := by
  have shut := cancelPlace_shut s p
  rw [← cancelPlace_claims, cancelledPallet]
  generalize cancelPlace s p = u at shut
  refine ⟨fun hc => (mem_claims_runSearch hc).resolve_right fun ⟨_, builds⟩ => ?_,
    fun hc => (runSearch_claims u).subset hc⟩
  rw [hp] at builds
  exact shut builds

theorem cancelledPallet_place (s : State) (p : PlaceId) : (cancelledPallet s p).place p = (cancelPlace s p).place p :=
  runSearch_place (s := cancelPlace s p) (cancelPlace_shut s p)

theorem cancelPlace_staging (s : State) (p : PlaceId) : (cancelPlace s p).staging = (orphanedAt s p).staging := by
  rw [cancelPlace_eq]
  simp

theorem cancelledPallet_records (s : State) (p : PlaceId) :
    (cancelledPallet s p).staging.records = s.staging.records.map (orphaned p) := by
  have same : (cancelledPallet s p).staging = (cancelPlace s p).staging := by simp [cancelledPallet]
  rw [same, cancelPlace_staging, orphanedAt_staging]

theorem buildOrder_of_lists (e : planLists t = planLists s) : t.plans.buildOrder = s.plans.buildOrder := congrArg Prod.fst e

theorem cancelledPallet_buildOrder (s : State) (p : PlaceId) : p ∉ (cancelledPallet s p).plans.buildOrder := by
  have tested : planLists (cancelPlace s p) = planLists (orphanedAt s p) := by
    rw [cancelPlace_eq, planLists_cancelTest]
  have searched : (cancelledPallet s p).plans.buildOrder = (cancelPlace s p).plans.buildOrder :=
    buildOrder_of_core (corePlans_runSearch (cancelPlace s p))
  have same : (cancelPlace s p).plans.buildOrder = (orphanedAt s p).plans.buildOrder := buildOrder_of_lists tested
  rw [searched, same]
  exact orphanedAt_buildOrder s p

theorem cancelledPallet_released (h : Running s) (hp : (s.place p).state = .building ∨ (s.place p).state = .suspended)
    (hc : c ∈ s.contest.claims) (ht : c.target.place = p) (hs : c.state = .armed) :
    HasFrame (.release c.slot .cancelled) (cancelledPallet s p) := by
  have cancelled := cancelledAt_orphanedAt h hp (claimAt_of_mem h.tables.once hc) ht
  exact hasFrame_runSearch rfl (hasFrame_cancelTest (cancelled.armed hs).2 p)

theorem cancelledPallet_notices
    (h : s.port.notices.length + (s.staging.records.filter (StagingRecord.forPlace p)).length + 1 ≤ 32) :
    (cancelledPallet s p).port.notices = s.port.notices ++
      (s.staging.records.filter (StagingRecord.forPlace p)).map (fun r => .caseOrphaned r.arrival) ++
      if (cancelledPallet s p).contest.claims.all (fun c => decide (c.target.place ≠ p)) then [.cancelDone p] else [] := by
  have told := orphanedAt_notices (s := s) (p := p) (by omega)
  have searched : (cancelledPallet s p).port = (cancelPlace s p).port := by simp [cancelledPallet]
  rw [searched, ← told]
  rcases cancelPlace_cases s p with ⟨⟨c, hc, hp⟩, e⟩ | ⟨none, e⟩
  · have left : ¬(cancelledPallet s p).contest.claims.all (fun c => decide (c.target.place ≠ p)) = true := fun all =>
      of_decide_eq_true (List.all_eq_true.1 all c ((mem_cancelledPallet hp).2 hc)) hp
    rw [if_neg left, e, List.append_nil]
  · have all : (cancelledPallet s p).contest.claims.all (fun c => decide (c.target.place ≠ p)) = true :=
      List.all_eq_true.2 fun c hc => decide_eq_true fun hp => none c ((mem_cancelledPallet hp).1 hc) hp
    have room : (setPlace (orphanedAt s p) p Place.empty).port.notices.length < 32 := by
      show (orphanedAt s p).port.notices.length < 32
      rw [told, List.length_append, List.length_map]
      omega
    rw [if_pos all, e, offerNotice_room room]
    rfl

theorem cancelPalletChecked_open (h : (s.place p).state = .building ∨ (s.place p).state = .suspended) :
    cancelPalletChecked s p.val = answer (cancelledPallet s p) .done := by
  unfold cancelPalletChecked
  rw [placeOf?_val]
  rcases h with h | h
  · simp only [h]
    rfl
  · simp only [h]
    rfl

theorem execCancelPallet_taken (hs : s.part.state ≠ .start) (b : BitVec 8) :
    exec (.cancelPallet b) s = .next (cancelPalletChecked s b.toNat) := congrArg Host.Outcome.next (if_neg hs)

/-- R37, R39: the place is CANCELLING while a claim targets it, its lines with nothing staged. -/
theorem cancelledPallet_stays (h : ∃ c ∈ (cancelledPallet s p).contest.claims, c.target.place = p) :
    ((cancelledPallet s p).place p).state = .cancelling ∧
      ∀ ls ∈ ((cancelledPallet s p).place p).tiers, ∀ l ∈ ls, l.staged = 0 := by
  obtain ⟨c, hc, hp⟩ := h
  rw [cancelledPallet_place]
  rcases cancelPlace_cases s p with ⟨-, e⟩ | ⟨none, -⟩
  · rw [e]
    exact ⟨orphanedAt_state s p, orphanedAt_staged s p⟩
  · exact absurd hp (none c ((mem_cancelledPallet hp).1 hc))

theorem cancelledPallet_gone (h : ∀ c ∈ (cancelledPallet s p).contest.claims, c.target.place ≠ p) :
    (cancelledPallet s p).place p = Place.empty := by
  rw [cancelledPallet_place]
  rcases cancelPlace_cases s p with ⟨⟨c, hc, hp⟩, -⟩ | ⟨-, e⟩
  · exact absurd hp (h c ((mem_cancelledPallet hp).2 hc))
  · rw [e, place_congr (s := setPlace (orphanedAt s p) p Place.empty) (by simp), place_setPlace, if_pos rfl]

theorem cancelledPallet_frame (s : State) (p : PlaceId) : (cancelledPallet s p).view = s.view ∧
    (cancelledPallet s p).divert = s.divert ∧ BeltKept s (cancelledPallet s p) := by
  unfold cancelledPallet
  refine ⟨by simp, by simp, ?_⟩
  constructor <;> simp

theorem cancelledPallet_forPlace (s : State) (p : PlaceId) :
    ∀ r ∈ (cancelledPallet s p).staging.records, r.forPlace p = false := by
  rw [cancelledPallet_records]
  intro r hr
  obtain ⟨x, -, rfl⟩ := List.mem_map.1 hr
  exact orphaned_forPlace p x

theorem cancelledPallet_arrivals (s : State) (p : PlaceId) :
    (cancelledPallet s p).staging.records.map (·.arrival) = s.staging.records.map (·.arrival) := by
  rw [cancelledPallet_records, List.map_map]
  exact List.map_congr_left fun r _ => orphaned_arrival p r

end Sys2Proof.Laws

open Sys2Proof Sys2Proof.Machine Sys2Proof.Safety Sys2Proof.Laws

/-- Settles O27: the command is one cancellation and its search, and every event settles a cancellation that runs. -/
theorem cancelPalletEndsThePlace : Obligations.CancelPalletEndsThePlace := by
  unfold Obligations.CancelPalletEndsThePlace
  refine ⟨fun c s t p hr _ state claims hc he => ?_, fun s b hs =>
    ⟨fun hb => ?_, fun p hp => ⟨fun shut => ?_, fun hr live => ?_⟩⟩⟩
  · rcases exec_settles ⟨hr, state, claims⟩ hc he with ⟨stays, x, hx, ht⟩ | ⟨⟨empty, away⟩, told⟩
    · exact ⟨fun _ => stays, fun none => absurd ht (none x hx)⟩
    · exact ⟨fun ⟨x, hx, ht⟩ => absurd ht (away x hx), fun _ => ⟨empty, told⟩⟩
  · rw [execCancelPallet_taken hs, cancelPalletChecked, placeOf?_none hb]
  · rw [execCancelPallet_taken hs, cancelPalletChecked, hp, placeOf?_val]
    rcases shut with h | h | h | h <;> simp only [h]
  · have answered : exec (.cancelPallet b) s = .next (answer (cancelledPallet s p) .done) := by
      rw [execCancelPallet_taken hs, hp, cancelPalletChecked_open live]
    have order := cancelledPallet_buildOrder s p
    have records := cancelledPallet_forPlace s p
    have arrivals := cancelledPallet_arrivals s p
    have claims : ∀ c ∈ (cancelledPallet s p).contest.claims, c.target.place = p →
        c.state = .committed ∨ c.state = .firing ∨ c.pendingEnd.isSome = true := fun c hc ht =>
      mem_orphanedAt hr live ((mem_cancelledPallet ht).1 hc) ht
    have released : ∀ c ∈ s.contest.claims, c.target.place = p → c.state = .armed →
        HasFrame (.release c.slot .cancelled) (cancelledPallet s p) := fun c hc => cancelledPallet_released hr live hc
    have notices := cancelledPallet_notices (s := s) (p := p)
    have stays := cancelledPallet_stays (s := s) (p := p)
    have gone := cancelledPallet_gone (s := s) (p := p)
    obtain ⟨view, divert, belt⟩ := cancelledPallet_frame s p
    generalize cancelledPallet s p = u at *
    exact ⟨_, answered, rfl, order, records, arrivals, claims, released, fun room => notices (by simpa using room), stays, gone,
      view, divert, ⟨belt.config, belt.pins, belt.loop, belt.gate, belt.pending⟩⟩
end

section
/-! SUPPORT. The rises and falls of the gate and confirm eyes after GO (R44, R133, R139, R140). -/

namespace Sys2Proof.Laws

open Sys2Proof Sys2Proof.Machine

variable {s : State}

theorem next_congr {a b : State} (h : a = b) : (Host.Outcome.next a : Host.Outcome State Fault Refusal) = .next b :=
  congrArg _ h

theorem started_of_state (h : s.part.state ≠ .start) : s.started = true := decide_eq_true h

/-! ### The gate eye (R44) -/

/-- R44: the deglitch after a rise of GEYE, for the counter value and the alignment at that event. -/
def gateRisen (start : Nat) (aligned : Bool) : GateDeglitch → GateDeglitch
  | .clear => .blocking start aligned 0
  | .blocking a b n => .blocking a b n
  | .blocked => .blocked
  | .clearing _ => .blocked

/-- R44: the deglitch after a fall of GEYE. -/
def gateFallen : GateDeglitch → GateDeglitch
  | .clear => .clear
  | .blocking _ _ _ => .clear
  | .blocked => .clearing 0
  | .clearing n => .clearing n

theorem setGateDeglitch_self {d : GateDeglitch} (h : s.gate.deglitch = d) : setGateDeglitch s d = s := by
  subst h
  rfl

theorem gateRise_started (h : s.started = true) : gateRise s =
    setGateDeglitch (s.setPins { s.pins with gateEye := true })
      (gateRisen s.loop.counter s.loop.aligned s.gate.deglitch) := by
  unfold gateRise
  rw [if_pos h]
  cases hd : s.gate.deglitch with
  | clear | clearing n => rfl
  | blocking a b n | blocked => exact (setGateDeglitch_self (by exact hd)).symm

theorem gateFall_started (h : s.started = true) : gateFall s =
    setGateDeglitch (s.setPins { s.pins with gateEye := false }) (gateFallen s.gate.deglitch) := by
  unfold gateFall
  rw [if_pos h]
  cases hd : s.gate.deglitch with
  | blocking a b n | blocked => rfl
  | clear | clearing n => exact (setGateDeglitch_self (by exact hd)).symm

/-! ### The confirm eye (R133, R139, R140) -/

/-- R133: the deglitch after a rise of CEYE. -/
def confirmRisen : ConfirmDeglitch → ConfirmDeglitch
  | .clear => .blocking 0
  | .blocking n => .blocking n
  | .blocked => .blocked
  | .clearing _ => .blocked

/-- R133: the deglitch after a fall of CEYE. -/
def confirmFallen : ConfirmDeglitch → ConfirmDeglitch
  | .clear => .clear
  | .blocking _ => .clear
  | .blocked => .clearing 0
  | .clearing n => .clearing n

theorem setConfirm_self {d : ConfirmDeglitch} (h : s.divert.deglitch = d) : setConfirm s d = s := by
  subst h
  rfl

/-- R133, R139: a rise of CEYE starts the jam timer. -/
theorem confirmRise_started (h : s.started = true) : confirmRise s =
    setConfirm ((s.setPins { s.pins with confirmEye := true }).setDivert { s.divert with jamTimer := some 0 })
      (confirmRisen s.divert.deglitch) := by
  unfold confirmRise
  rw [if_pos h]
  cases hd : s.divert.deglitch with
  | clear | clearing n => rfl
  | blocking n | blocked => exact (setConfirm_self (by exact hd)).symm

/-- CEYE low, and the jam timer halted (R139). -/
def confirmLow (s : State) : State :=
  (s.setPins { s.pins with confirmEye := false }).setDivert { s.divert with jamTimer := none }

/-- R133, R139, R140: a fall of CEYE halts the jam timer, ends a jam and moves the deglitch. -/
theorem confirmFall_started (h : s.started = true) :
    confirmFall s = setConfirm (endJam (confirmLow s)) (confirmFallen s.divert.deglitch) := by
  have stands : ∀ u : State, (endJam u).divert.deglitch = u.divert.deglitch := fun u => by
    unfold endJam
    split <;> rfl
  unfold confirmFall
  rw [if_pos h]
  cases hd : s.divert.deglitch with
  | blocking n | blocked => rfl
  | clear | clearing n => exact (setConfirm_self (by exact (stands _).trans hd)).symm

theorem endJam_off (h : s.divert.jam = false) : endJam s = s.setDivert { s.divert with jam := false } := by
  unfold endJam
  rw [if_neg (by simp [h]), ← h]
  rfl

theorem endJam_on (h : s.divert.jam = true) : endJam s = setFault (s.setDivert { s.divert with jam := false }) .divertJam
    { s.fault .divertJam with condition := false } := if_pos h

end Sys2Proof.Laws

open Sys2Proof Sys2Proof.Machine Sys2Proof.Laws

/-- Settles O41: by the states of the two deglitch tables, and by whether a jam stands. -/
theorem eyesMoveTheDeglitch : Obligations.EyesMoveTheDeglitch := by
  unfold Obligations.EyesMoveTheDeglitch
  intro s hs up down cup cdown
  have started := started_of_state hs
  have rise := gateRise_started started
  have fall := gateFall_started started
  refine ⟨?_, next_congr ((confirmRise_started started).trans ?_),
    fun hj => next_congr ((confirmFall_started started).trans ?_),
    fun hj => next_congr ((confirmFall_started started).trans ?_)⟩
  · cases hd : s.gate.deglitch with
    | clear | clearing n =>
      rw [hd] at rise fall
      exact ⟨next_congr rise, next_congr (fall.trans (setGateDeglitch_self hd))⟩
    | blocking a b n | blocked =>
      rw [hd] at rise fall
      exact ⟨next_congr (rise.trans (setGateDeglitch_self hd)), next_congr fall⟩
  · cases s.divert.deglitch <;> rfl
  · rw [endJam_off (s := confirmLow s) hj]
    simp only [cdown]
    cases s.divert.deglitch <;> rfl
  · rw [endJam_on (s := confirmLow s) hj]
    simp only [cdown]
    cases s.divert.deglitch <;> rfl
end

section
/-! SUPPORT. Scanner characters and reports: when a report is read, when it is complete, and the edge it is paired with
(R49 to R53, R86). -/

namespace Sys2Proof.Laws

open Sys2Proof Sys2Proof.Machine

variable {s : State} {cs : List ScanChar} {e : PendingEdge} {rest : List PendingEdge} {x : CaseId}

/-! ### The bytes of a report (R49) -/

theorem byteSum_concat (bytes : List Byte) (b : Byte) : byteSum (bytes ++ [b]) = byteSum bytes + b.toNat := by
  simp [byteSum]

/-- R49, R61: the check byte is the one that makes the sum 255 mod 256. -/
theorem eq_checkByte_iff (bytes : List Byte) (b : Byte) : b = checkByte bytes ↔ byteSum (bytes ++ [b]) % 256 = 255 := by
  have bound := b.isLt
  rw [byteSum_concat, checkByte, ← BitVec.toNat_inj, BitVec.toNat_ofNat]
  omega

theorem formOfCode_eq_some_iff {n : Nat} {f : Form} : Form.ofCode n = some f ↔ f.code = n := by
  refine ⟨fun h => ?_, fun h => h ▸ formOfCode_code f⟩
  unfold Form.ofCode at h
  split at h <;> cases h <;> rfl

theorem form_code_le (f : Form) : f.code ≤ 5 := by cases f <;> decide

/-- R49: a report that is not malformed has six characters, with their stop bits, and ends in its check byte. -/
theorem reportMalformed_eq_false_iff : reportMalformed cs = false ↔ cs.length = Config.reportLength ∧
    (∀ y ∈ cs, y.stopHigh = true) ∧ ((cs.map (·.data)).headD 0 = 1#8 ∨ (cs.map (·.data)).headD 0 = 2#8) ∧
    BitVec.toNat ((cs.map (·.data)).getD 4 0) < 8 ∧
    (cs.map (·.data)).getD 5 0 = checkByte ((cs.map (·.data)).take 5) := by
  simp only [reportMalformed, Bool.or_eq_false_iff, Bool.not_eq_false', Bool.or_eq_true, beq_iff_eq, ne_eq,
    decide_eq_false_iff_not, not_not, not_le, List.any_eq_false, Bool.not_eq_true', Bool.not_eq_false, and_assoc]

/-- R49, R50: the fields of a report of six characters. -/
theorem reportCase_six (a b₁ b₂ b₃ f k : ScanChar) : reportCase [a, b₁, b₂, b₃, f, k] = some x ↔
    (∀ y ∈ [a, b₁, b₂, b₃, f, k], y.stopHigh = true) ∧ a.data.toNat = 1 ∧
    x.article = b₁.data.toNat * 65536 + b₂.data.toNat * 256 + b₃.data.toNat ∧ x.form.code = f.data.toNat ∧
    byteSum [a.data, b₁.data, b₂.data, b₃.data, f.data, k.data] % 256 = 255 := by
  have kind : a.data = 1#8 ↔ a.data.toNat = 1 := BitVec.toNat_inj.symm
  have article : bytesToNat [b₁.data, b₂.data, b₃.data] =
      b₁.data.toNat * 65536 + b₂.data.toNat * 256 + b₃.data.toNat := by
    simp only [bytesToNat, List.foldl_cons, List.foldl_nil]
    omega
  have whole : reportMalformed [a, b₁, b₂, b₃, f, k] = false ↔ _ := reportMalformed_eq_false_iff
  have checked := eq_checkByte_iff [a.data, b₁.data, b₂.data, b₃.data, f.data] k.data
  have code := form_code_le x.form
  simp only [reportCase, Option.ite_none_right_eq_some, Option.map_eq_some_iff, formOfCode_eq_some_iff]
  constructor
  · rintro ⟨⟨good, one⟩, form, hform, rfl⟩
    obtain ⟨-, stops, -, -, check⟩ := whole.1 good
    exact ⟨stops, kind.1 one, article, hform, checked.1 check⟩
  · rintro ⟨stops, one, harticle, hform, sum⟩
    have few : f.data.toNat < 8 := by omega
    exact ⟨⟨whole.2 ⟨rfl, stops, .inl (kind.2 one), few, checked.2 sum⟩, kind.2 one⟩, x.form, hform,
      by rw [CaseId.mk.injEq]; exact ⟨article.trans harticle.symm, rfl⟩⟩

theorem reportCase_of_length_ne (h : cs.length ≠ 6) : reportCase cs = none :=
  if_neg fun whole => h (reportMalformed_eq_false_iff.1 whole.1).1

theorem reportCase_eq_some_iff : reportCase cs = some x ↔ cs.length = 6 ∧ (∀ y ∈ cs, y.stopHigh = true) ∧
    ((cs.map ScanChar.data).getD 0 0).toNat = 1 ∧
    x.article = ((cs.map ScanChar.data).getD 1 0).toNat * 65536 + ((cs.map ScanChar.data).getD 2 0).toNat * 256 +
      ((cs.map ScanChar.data).getD 3 0).toNat ∧
    x.form.code = ((cs.map ScanChar.data).getD 4 0).toNat ∧ byteSum (cs.map ScanChar.data) % 256 = 255 := by
  by_cases six : cs.length = 6
  · match cs, six with
    | [a, b₁, b₂, b₃, f, k], six => exact (reportCase_six a b₁ b₂ b₃ f k).trans (and_iff_right six).symm
  · rw [reportCase_of_length_ne six]
    exact iff_of_false nofun fun h => six h.1

/-! ### The report taken (R50 to R53) -/

/-- R52, R53: the edge of a slot whose case the announce decision asks for. -/
theorem resolveEdge_wanted (lapped : e.lapped = false) (active : s.part.state = .active)
    (wanted : announceWanted (s.viewAt e.slot) x = true) : resolveEdge s e x = offerFrame s (.announce e.slot x) :=
  if_pos ⟨lapped, active, wanted⟩

theorem resolveEdge_discarded (h : e.lapped = true ∨ s.part.state ≠ .active ∨ announceWanted (s.viewAt e.slot) x = false) :
    resolveEdge s e x = s := by
  refine if_neg ?_
  rintro ⟨lapped, active, wanted⟩
  rcases h with h | h | h
  · simp [h] at lapped
  · exact h active
  · simp [h] at wanted

theorem takeReport_stray (he : s.gate.edges = []) : takeReport s cs = reportPlain s .scanStray := by
  unfold takeReport
  rw [he]

theorem takeReport_noRead (he : s.gate.edges = e :: rest) (hc : reportCase cs = none) :
    takeReport s cs = reportPlain (setEdges s rest) .noRead := by
  unfold takeReport
  rw [he]
  dsimp only
  rw [hc]

theorem takeReport_read (he : s.gate.edges = e :: rest) (hc : reportCase cs = some x) :
    takeReport s cs = resolveEdge (setEdges s rest) e x := by
  unfold takeReport
  rw [he]
  dsimp only
  rw [hc]

/-! ### Characters (R49) -/

/-- The report receiver, with the characters given of a report in progress. -/
def withReport (s : State) (chars : List ScanChar) : State := s.setGate { s.gate with report := chars, gap := 0 }

theorem takeCharacter_short (h : s.gate.report.length + 1 < 6) (c : ScanChar) :
    takeCharacter s c = withReport s (s.gate.report ++ [c]) :=
  if_pos (by simpa [Config.reportLength] using h)

theorem takeCharacter_sixth (h : s.gate.report.length + 1 = 6) (c : ScanChar) :
    takeCharacter s c = takeReport (withReport s []) (s.gate.report ++ [c]) :=
  if_neg (by simp [Config.reportLength]; omega)

/-- R49: the characters that complete a report are taken as the report they make with those before them. -/
theorem foldl_takeCharacter_complete (short : s.gate.report.length < 6) (h : s.gate.report.length + cs.length = 6) :
    cs.foldl takeCharacter s = takeReport (withReport s []) (s.gate.report ++ cs) := by
  induction cs generalizing s with
  | nil => simp only [List.length_nil] at h; omega
  | cons c cs ih =>
    rw [List.length_cons] at h
    rw [List.foldl_cons]
    by_cases last : s.gate.report.length + 1 = 6
    · obtain rfl := List.eq_nil_of_length_eq_zero (l := cs) (by omega)
      exact takeCharacter_sixth last c
    · have joined : (withReport s (s.gate.report ++ [c])).gate.report.length = s.gate.report.length + 1 := by
        simp [withReport]
      rw [takeCharacter_short (by omega), ih (by omega) (by omega)]
      simp [withReport, State.setGate]

/-! ### The gap (R49) -/

theorem reportGapTimeout_idle (h : s.gate.report = []) : reportGapTimeout s = s := if_pos h

theorem reportGapTimeout_report (h : s.gate.report ≠ []) :
    reportGapTimeout s = endReport (elapse s (Config.reportGap - s.gate.gap)) := if_neg h

/-- R49, R51: a report cut short is no read: it consumes the oldest pending edge, or is a stray one. -/
theorem endReport_eq (short : s.gate.report.length < 6) : endReport s =
    report (s.setGate { s.gate with edges := s.gate.edges.drop 1, report := [], gap := 0 })
      (if s.gate.edges = [] then .scanStray else .noRead) none none := by
  have unread := reportCase_of_length_ne short.ne
  unfold endReport
  cases he : s.gate.edges with
  | nil =>
    rw [takeReport_stray (by exact he), if_pos rfl, List.drop_nil, ← he]
    rfl
  | cons e rest =>
    rw [takeReport_noRead (by exact he) unread, if_neg (List.cons_ne_nil e rest)]
    rfl

/-- The gap of a report in progress is all that time changes in the Gate Unit. -/
theorem elapse_gate (s : State) (ms : Nat) : ∃ gap, (elapse s ms).gate = { s.gate with gap := gap } := by
  unfold elapse
  dsimp only
  split
  · exact ⟨s.gate.gap, rfl⟩
  · exact ⟨_, rfl⟩

/-! ### The announce decision (R53, R86) -/

theorem announceWanted_iff (v : ViewEntry) (x : CaseId) : announceWanted v x = true ↔ match v with
    | .empty => True
    | .free d _ => d ≠ some x
    | .claimed d _ _ _ => d ≠ some x
    | .disputed _ _ => False := by
  cases v with
  | empty | disputed => simp [announceWanted]
  | free d | claimed d => cases d <;> simp [announceWanted]

end Sys2Proof.Laws

open Sys2Proof Sys2Proof.Machine Sys2Proof.Laws

/-- Settles O43: a report of six characters is taken at its last one, or at the gap as a report too short to be read. -/
theorem scannerReportsPaired : Obligations.ScannerReportsPaired := by
  unfold Obligations.ScannerReportsPaired
  intro s hs short
  have started := started_of_state hs
  refine ⟨fun c h => next_congr ?_, fun c h => next_congr ?_, fun cs six => ?_, fun all c => reportCase_eq_some_iff,
    fun h => next_congr (reportGapTimeout_idle h), fun h => ⟨_, next_congr (reportGapTimeout_report h), ?_⟩⟩
  · rw [if_pos started, takeCharacter_short h]
    rfl
  · simp only [started, if_true, List.foldl_cons, List.foldl_nil]
  · have whole : exec (.scannerReport cs) s = .next (takeReport (withReport s []) (s.gate.report ++ cs)) :=
      next_congr (by rw [if_pos started, foldl_takeCharacter_complete short six])
    refine ⟨fun he => whole.trans (next_congr ?_), fun e rest he =>
      ⟨fun hc => whole.trans (next_congr ?_), fun c hc => ?_⟩⟩
    · rw [takeReport_stray (s := withReport s []) he, ← he]
      rfl
    · rw [takeReport_noRead (s := withReport s []) he hc]
      rfl
    · have wants := announceWanted_iff (s.viewAt e.slot) c
      have read := whole.trans (next_congr (takeReport_read (s := withReport s []) he hc))
      refine ⟨fun h => read.trans (next_congr (resolveEdge_discarded ?_)), fun lapped active wanted =>
        read.trans (next_congr (resolveEdge_wanted lapped active (wants.2 wanted)))⟩
      exact h.imp_right (Or.imp_right fun unwanted => Bool.eq_false_iff.2 fun hw => unwanted (wants.1 hw))
  · have waited : (elapse s (Config.reportGap - s.gate.gap)).counters = s.counters := elapse_counters _ _
    obtain ⟨gap, gate⟩ := elapse_gate s (Config.reportGap - s.gate.gap)
    rw [endReport_eq (by rw [gate]; exact short), gate]
    simp [report, waited]
end

section
/-! SUPPORT. The waiting commands and the levels of the inputs, through every command (R44, R133, R169, R176). -/

namespace Sys2Proof.Laws

open Sys2Proof Sys2Proof.Machine Sys2Proof.Safety

variable {s t u : State}

/-- What stands outside the part: the commands that wait and the levels of the inputs. -/
def Outside (s t : State) : Prop := t.pending = s.pending ∧ t.pins = s.pins

theorem outside_refl (s : State) : Outside s s := ⟨rfl, rfl⟩

theorem outside_trans (h : Outside s t) (h' : Outside t u) : Outside s u := ⟨h'.1.trans h.1, h'.2.trans h.2⟩

theorem outside_respond (h : Outside s t) (r : Result) (d : BitVec 88) : Outside s (respond t r d) := h

theorem outside_answer (h : Outside s t) (r : Result) : Outside s (answer t r) := h

theorem outside_runSearch (h : Outside s t) : Outside s (runSearch t) := outside_trans h (by simp [Outside])

theorem outside_ite {p : Prop} [Decidable p] (ht : Outside s t) (hu : Outside s u) : Outside s (if p then t else u) := by
  split
  · exact ht
  · exact hu

/-! ### The belt -/

theorem outside_forwardPulse (s : State) : Outside s (forwardPulse s) := by
  by_cases hs : s.part.state = .start
  · rw [forwardPulse, if_neg (by simp [State.started, hs])]
    exact outside_refl s
  · rw [forwardPulse_eq hs]
    simp [Outside]

theorem outside_reversePulse (s : State) : Outside s (reversePulse s) := by
  unfold reversePulse
  dsimp only
  refine outside_ite (outside_ite ?_ ?_) (outside_refl s) <;> simp [Outside]

theorem outside_indexMark (s : State) : Outside s (indexMark s) := by
  have still := outside_refl s
  unfold indexMark
  refine outside_ite (outside_ite ?_ (outside_ite (outside_ite ?_ still) (outside_ite (outside_ite ?_ still) ?_))) still
  · simp [Outside, firstAlignment]
  · simp [Outside]
  · simp [Outside, backwardRealignment]
  · simp [Outside, slip]

/-! ### Upkeep, participation and GO -/

theorem outside_setWatchdog (s : State) (w : WatchdogState) : Outside s (setWatchdog s w) := outside_refl s

theorem outside_keepalive (s : State) : Outside s (keepalive s) := by
  unfold keepalive
  exact outside_ite (outside_ite (outside_setWatchdog s _) (by simp [Outside])) (outside_refl s)

theorem outside_resumeCleared (s : State) (f : FaultId) : Outside s (resumeCleared s f) := by
  unfold resumeCleared
  split
  · simp [Outside]
  · exact outside_refl s

theorem outside_foldl {α : Type} {f : State → α → State} (h : ∀ s a, Outside s (f s a)) (l : List α) (s : State) :
    Outside s (l.foldl f s) :=
  ⟨foldl_pending (fun s a => (h s a).1) l s, foldl_pins (fun s a => (h s a).2) l s⟩

theorem outside_clearFaults (s : State) : Outside s (clearFaults s) := by
  have cleared : Outside s (clearRecord s) := outside_foldl (f := clearEntry) (fun u _ => outside_refl u) _ s
  refine outside_runSearch (outside_trans cleared ?_)
  unfold clearEffects
  split
  · exact outside_ite (outside_foldl outside_resumeCleared _ _) (outside_refl _)
  · exact outside_ite (by simp [Outside]) (outside_refl _)

theorem outside_configure (s : State) (b : Bool) (c : Configuration) : Outside s (configure s b c) :=
  outside_ite (outside_refl s) (outside_ite (outside_refl s) (outside_refl s))

theorem outside_startStation (s : State) : Outside s (startStation (startBlocks s)) := by
  simp [Outside, startStation, startBlocks]

/-! ### Plans and records -/

theorem outside_afterGo (h : Outside s t) : Outside s (afterGo s t) := outside_ite (outside_refl s) h

theorem outside_openPlanChecked (s : State) (p : Nat) (r : BitVec 32) (n : Nat) :
    Outside s (openPlanChecked s p r n) := by
  unfold openPlanChecked
  (repeat' split) <;> exact outside_refl s

theorem outside_addLineChecked (s : State) (t a f q : Nat) : Outside s (addLineChecked s t a f q) := by
  unfold addLineChecked
  (repeat' split) <;> exact outside_refl s

theorem outside_commitPlanChecked (s : State) : Outside s (commitPlanChecked s) := by
  unfold commitPlanChecked
  split
  · exact outside_refl s
  · split
    · exact outside_refl s
    · simp [Outside, commitPlan]

theorem outside_abandonPlanChecked (s : State) : Outside s (abandonPlanChecked s) := by
  unfold abandonPlanChecked
  split <;> exact outside_refl s

theorem outside_releasePalletChecked (s : State) (n : Nat) : Outside s (releasePalletChecked s n) := by
  unfold releasePalletChecked
  (repeat' split) <;> exact outside_refl s

theorem outside_cancelPalletChecked (s : State) (n : Nat) : Outside s (cancelPalletChecked s n) := by
  unfold cancelPalletChecked
  split
  · exact outside_refl s
  · split
    iterate 2 exact outside_answer (outside_runSearch (by simp [Outside])) _
    all_goals exact outside_refl s

theorem outside_placedChecked (s : State) (a : Nat) : Outside s (placedChecked s a) := by
  unfold placedChecked
  split
  · exact outside_refl s
  next r _ =>
    refine outside_ite (outside_answer (outside_runSearch ?_) _) (outside_refl s)
    unfold placeRecord
    split <;> simp [Outside]

theorem outside_removeCaseChecked (s : State) (a r : Nat) : Outside s (removeCaseChecked s a r) := by
  unfold removeCaseChecked
  refine outside_ite (outside_refl s) ?_
  split
  · exact outside_refl s
  next r' _ =>
    obtain ⟨-, pins, -, -, -, -, -, -, pending, -⟩ := removeRecord_frame s r' (decide (r = 0))
    exact outside_answer (outside_runSearch ⟨pending, pins⟩) _

theorem outside_acceptSuspectChecked (s : State) (a : Nat) : Outside s (acceptSuspectChecked s a) := by
  unfold acceptSuspectChecked
  split
  · exact outside_refl s
  · refine outside_ite (outside_answer ?_ _) (outside_refl s)
    unfold acceptRecord
    exact outside_ite (by simp [Outside]) (by simp [Outside])

/-! ### Reads and counters -/

theorem outside_readLine (s : State) (p t l : Nat) : Outside s (readLine s p t l) := by
  unfold readLine
  (repeat' split) <;> exact outside_refl s

theorem outside_readRecord (s : State) (i : Nat) : Outside s (readRecord s i) := by
  unfold readRecord
  split <;> exact outside_refl s

theorem outside_showFaults (s : State) : Outside s (showFaults s) :=
  outside_foldl (f := showEntry) (fun u _ => outside_refl u) _ s

theorem outside_setCounterChecked (s : State) (c e k v : Nat) : Outside s (setCounterChecked s c e k v) := by
  unfold setCounterChecked
  (repeat' split) <;> exact outside_refl s

/-! ### The commands together -/

theorem gateRise_pending (s : State) : (gateRise s).pending = s.pending := by
  unfold gateRise
  (repeat' split) <;> rfl

theorem gateFall_pending (s : State) : (gateFall s).pending = s.pending := by
  unfold gateFall
  (repeat' split) <;> rfl

/-- R44, R133, R169: the rises and falls of the inputs leave the queue. -/
theorem exec_input_pending {c : Instr} (hc : movesInput c = true) (he : exec c s = .next t) : t.pending = s.pending := by
  have one : ∀ {u : State}, exec c s = .next u → u.pending = s.pending → t.pending = s.pending := fun hu h =>
    (congrArg State.pending (Host.Outcome.next.inj (he.symm.trans hu))).trans h
  cases c with
  | gateEyeRise => exact one rfl (gateRise_pending s)
  | gateEyeFall => exact one rfl (gateFall_pending s)
  | confirmEyeRise => exact one rfl (by simp)
  | confirmEyeFall => exact one rfl (by simp)
  | placeReadyRise p => exact one rfl (by simp)
  | placeReadyFall p => exact one rfl (by simp)
  | _ => cases hc

/-- Every other command leaves the queue and the inputs. -/
theorem exec_outside {c : Instr} (hc : movesInput c = false) (he : exec c s = .next t) : Outside s t := by
  have one : ∀ {u : State}, exec c s = .next u → Outside s u → Outside s t := fun hu h =>
    Host.Outcome.next.inj (hu.symm.trans he) ▸ h
  have still := outside_refl s
  have pulse : ∀ due : Bool, Outside s (if due = true then forwardPulse s else s) := fun _ =>
    outside_ite (outside_forwardPulse s) still
  cases c with
  | gateEyeRise | gateEyeFall | confirmEyeRise | confirmEyeFall | placeReadyRise | placeReadyFall => cases hc
  | powerOnReset | restart | transactionStart | transactionIncomplete | checkError | unknownCommand | nop =>
    exact one rfl still
  | forwardPulse => exact one rfl (outside_forwardPulse s)
  | gateEdgeAccepted | gateCleared | edgeExpired | dwellEnd | windowClosedMissed | confirmEdge | confirmCleared =>
    exact one rfl (pulse _)
  | reversePulse => exact one rfl (outside_reversePulse s)
  | indexMark => exact one rfl (outside_indexMark s)
  | scannerReport chars => exact one rfl (outside_ite (outside_foldl (fun _ _ => by simp [Outside]) chars s) still)
  | scannerCharacter c => exact one rfl (outside_ite (by simp [Outside]) still)
  | lineFree | startBitBegins | sendAttempt | arbitrationEnd | frameReceived | frameEnd | heldOwnFrameEnters | lineStuck
  | lineStuckEnd | frameHandled | loopStopped | reportGapTimeout | divertJam | placeReadyTimer | watchdogExpiry =>
    exact one rfl (by simp [Outside])
  | keepalive => exact one rfl (outside_answer (outside_keepalive s) _)
  | clearFaults => exact one rfl (outside_respond (outside_clearFaults s) _ _)
  | armWatchdog => exact one rfl (outside_ite still still)
  | hallSize | stationEntry | ownSetup | timing | faultPolicy => exact one rfl (outside_configure s _ _)
  | go =>
    refine one rfl (outside_ite still ?_)
    split
    · exact still
    · exact outside_answer (outside_startStation s) _
  | withdraw =>
    refine one rfl ?_
    split
    iterate 2 exact outside_answer (outside_runSearch (by simp [Outside])) _
    all_goals exact still
  | rejoin => exact one rfl (outside_ite (outside_answer (by simp [Outside]) _) still)
  | openPlan => exact one rfl (outside_afterGo (outside_openPlanChecked s _ _ _))
  | addLine => exact one rfl (outside_afterGo (outside_addLineChecked s _ _ _ _))
  | commitPlan => exact one rfl (outside_afterGo (outside_commitPlanChecked s))
  | abandonPlan => exact one rfl (outside_afterGo (outside_abandonPlanChecked s))
  | cancelPallet => exact one rfl (outside_afterGo (outside_cancelPalletChecked s _))
  | releasePallet => exact one rfl (outside_afterGo (outside_releasePalletChecked s _))
  | placed => exact one rfl (outside_afterGo (outside_placedChecked s _))
  | removeCase => exact one rfl (outside_afterGo (outside_removeCaseChecked s _ _))
  | acceptSuspect => exact one rfl (outside_afterGo (outside_acceptSuspectChecked s _))
  | readLine => exact one rfl (outside_readLine s _ _ _)
  | readNotice | readPallet | readRoster | readCounter =>
    refine one rfl ?_
    split <;> exact still
  | readStagingByArrival =>
    refine one rfl ?_
    split
    · exact outside_readRecord s _
    · exact still
  | readStagingByIndex => exact one rfl (outside_ite still (outside_readRecord s _))
  | readStagingSummary => exact one rfl (outside_ite still still)
  | readClaims =>
    refine one rfl (outside_ite still ?_)
    split <;> exact still
  | readView => exact one rfl (outside_afterGo (outside_ite still still))
  | readFaults => exact one rfl (outside_respond (outside_showFaults s) _ _)
  | setCounter => exact one rfl (outside_setCounterChecked s _ _ _ _)

end Sys2Proof.Laws

open Sys2Proof Sys2Proof.Machine Sys2Proof.Safety Sys2Proof.Laws

/-- Settles O6: command by command, the events of the inputs apart. -/
theorem commandsKeepQueueAndInputs : Obligations.CommandsKeepQueueAndInputs := by
  unfold Obligations.CommandsKeepQueueAndInputs
  intro c s t he
  cases hc : movesInput c with
  | true => exact ⟨exec_input_pending hc he, nofun⟩
  | false =>
    obtain ⟨pending, pins⟩ := exec_outside hc he
    exact ⟨pending, fun _ => pins⟩
end

section
/-! SUPPORT. The frames of the hall line in bits and bytes: packed fields, the bytes of a number, and the reading back of
both (R59 to R61). -/

namespace Sys2Proof.Laws

open Sys2Proof Sys2Proof.Machine

/-! ### Packed fields (R60) -/

theorem foldl_packWidth (l : List Item) (a : Nat) : l.foldl (fun a i => a + i.1) a = a + packWidth l := by
  unfold packWidth
  induction l generalizing a with
  | nil => rfl
  | cons i l ih =>
    rw [List.foldl_cons, List.foldl_cons, ih, ih (0 + i.1)]
    omega

theorem packWidth_cons (i : Item) (l : List Item) : packWidth (i :: l) = i.1 + packWidth l := by
  rw [← foldl_packWidth l, packWidth, List.foldl_cons, Nat.zero_add]

theorem packWidth_append (a b : List Item) : packWidth (a ++ b) = packWidth a + packWidth b :=
  List.foldl_append.trans (foldl_packWidth b _)

theorem foldl_packNat (l : List Item) (a : Nat) :
    l.foldl (fun a i => a * 2 ^ i.1 + i.2 % 2 ^ i.1) a = a * 2 ^ packWidth l + packNat l := by
  unfold packNat
  induction l generalizing a with
  | nil => exact (Nat.mul_one a).symm
  | cons i l ih =>
    rw [List.foldl_cons, List.foldl_cons, ih, ih (0 * 2 ^ i.1 + i.2 % 2 ^ i.1), packWidth_cons, Nat.pow_add]
    ring

theorem packNat_append (a b : List Item) : packNat (a ++ b) = packNat a * 2 ^ packWidth b + packNat b :=
  List.foldl_append.trans (foldl_packNat b _)

theorem packNat_cons (i : Item) (l : List Item) : packNat (i :: l) = i.2 % 2 ^ i.1 * 2 ^ packWidth l + packNat l := by
  rw [← foldl_packNat l, packNat, List.foldl_cons, Nat.zero_mul, Nat.zero_add]

theorem packNat_lt (l : List Item) : packNat l < 2 ^ packWidth l := by
  induction l with
  | nil => exact Nat.one_pos
  | cons i l ih =>
    have first : i.2 % 2 ^ i.1 + 1 ≤ 2 ^ i.1 := Nat.mod_lt _ (Nat.two_pow_pos _)
    rw [packNat_cons, packWidth_cons, Nat.pow_add]
    calc i.2 % 2 ^ i.1 * 2 ^ packWidth l + packNat l < (i.2 % 2 ^ i.1 + 1) * 2 ^ packWidth l := by
          rw [Nat.add_mul, Nat.one_mul]
          omega
      _ ≤ 2 ^ i.1 * 2 ^ packWidth l := Nat.mul_le_mul_right _ first

/-- A field is read where it was packed. -/
theorem bitField_packNat (a b : List Item) (i : Item) :
    bitField (packWidth (a ++ i :: b)) (packWidth a) i.1 (packNat (a ++ i :: b)) = i.2 % 2 ^ i.1 := by
  have below : packWidth (a ++ i :: b) - packWidth a - i.1 = packWidth b := by
    rw [packWidth_append, packWidth_cons]
    omega
  have split : packNat (a ++ i :: b) = 2 ^ packWidth b * (packNat a * 2 ^ i.1 + i.2 % 2 ^ i.1) + packNat b := by
    rw [packNat_append, packNat_cons, packWidth_cons, Nat.pow_add]
    ring
  rw [bitField, below, split, Nat.mul_add_div (Nat.two_pow_pos _), Nat.div_eq_of_lt (packNat_lt b), Nat.add_zero,
    Nat.mul_add_mod', Nat.mod_mod]

/-- The fields of the given widths that follow one another from an offset. -/
def fieldsFrom (total n : Nat) : Nat → List Nat → List Nat
  | _, [] => []
  | off, w :: ws => bitField total off w n :: fieldsFrom total n (off + w) ws

/-- The fields that follow some packed items are read as they were packed. -/
theorem fieldsFrom_packNat_append (a b : List Item) :
    fieldsFrom (packWidth (a ++ b)) (packNat (a ++ b)) (packWidth a) (b.map (·.1)) = b.map (fun i => i.2 % 2 ^ i.1) := by
  induction b generalizing a with
  | nil => rfl
  | cons i b ih =>
    have rest := ih (a ++ [i])
    rw [packWidth_append a [i], packWidth_cons, List.append_assoc] at rest
    rw [List.map_cons, List.map_cons, fieldsFrom, bitField_packNat]
    exact congrArg _ rest

theorem fieldsFrom_packNat (items : List Item) :
    fieldsFrom (packWidth items) (packNat items) 0 (items.map (·.1)) = items.map (fun i => i.2 % 2 ^ i.1) :=
  fieldsFrom_packNat_append [] items

/-! ### The bytes of a number -/

theorem natBytes_succ (n x : Nat) : natBytes (n + 1) x = natBytes n (x / 256) ++ [BitVec.ofNat 8 x] := by
  unfold natBytes
  rw [List.range_succ, List.map_append]
  congr 1
  · refine List.map_congr_left fun i hi => ?_
    have below : n + 1 - 1 - i = n - 1 - i + 1 := by have := List.mem_range.mp hi; omega
    rw [below, Nat.pow_succ', Nat.div_div_eq_div_mul]
  · simp

theorem natBytes_succ' (n x : Nat) : natBytes (n + 1) x = BitVec.ofNat 8 (x / 256 ^ n) :: natBytes n x := by
  unfold natBytes
  rw [List.range_succ_eq_map, List.map_cons, List.map_map]
  congr 1
  exact List.map_congr_left fun i _ => congrArg (fun e => BitVec.ofNat 8 (x / 256 ^ e)) (by omega)

@[simp] theorem length_natBytes (n x : Nat) : (natBytes n x).length = n := by simp [natBytes]

theorem bytesToNat_concat (bytes : List Byte) (b : Byte) : bytesToNat (bytes ++ [b]) = bytesToNat bytes * 256 + b.toNat := by
  simp [bytesToNat]

theorem bytesToNat_natBytes (n x : Nat) : bytesToNat (natBytes n x) = x % 256 ^ n := by
  induction n generalizing x with
  | zero => simp [natBytes, bytesToNat, Nat.mod_one]
  | succ n ih =>
    rw [natBytes_succ, bytesToNat_concat, ih, BitVec.toNat_ofNat, Nat.pow_succ' (m := 256) (n := n), Nat.mod_mul]
    omega

/-- Bytes are those of the number that they form. -/
theorem natBytes_bytesToNat (bytes : List Byte) : natBytes bytes.length (bytesToNat bytes) = bytes := by
  induction bytes using List.reverseRecOn with
  | nil => rfl
  | append_singleton bytes b ih =>
    have bound := b.isLt
    have low : BitVec.ofNat 8 (bytesToNat bytes * 256 + b.toNat) = b := by
      apply BitVec.eq_of_toNat_eq
      rw [BitVec.toNat_ofNat]
      omega
    have high : (bytesToNat bytes * 256 + b.toNat) / 256 = bytesToNat bytes := by omega
    rw [List.length_append, List.length_singleton, natBytes_succ, bytesToNat_concat, high, low, ih]

/-- A row of bytes packs to the number that they form. -/
theorem packNat_bytes (bytes : List Byte) : packNat (bytes.map (fun b => (8, b.toNat))) = bytesToNat bytes := by
  induction bytes using List.reverseRecOn with
  | nil => rfl
  | append_singleton bytes b ih =>
    have bound := b.isLt
    rw [List.map_append, packNat_append, bytesToNat_concat, ih]
    simp [packWidth, packNat]
    omega

/-- The kind is the first four bits of the bytes of a number. -/
theorem frameKind_natBytes (n x : Nat) (rest : List Byte) : frameKind (natBytes (n + 1) x ++ rest) = x / 256 ^ n % 256 / 16 := by
  rw [natBytes_succ', List.cons_append, frameKind, List.headD_cons, BitVec.toNat_ofNat]

/-! ### A frame and its bytes (R59 to R61) -/

/-- The fields of a frame fill its data bytes with the padding. -/
def FramePacks (f : Frame) : Prop := packWidth f.paddedFields = 8 * frameDataLength f.kind

theorem frameDataLength_pos (kind : Nat) : ∃ n, frameDataLength kind = n + 1 := by
  unfold frameDataLength
  split <;> exact ⟨_, rfl⟩

theorem length_dataBytes (f : Frame) : f.dataBytes.length = frameDataLength f.kind := length_natBytes _ _

theorem length_bytes (f : Frame) : f.bytes.length = frameDataLength f.kind + 1 := by
  rw [Frame.bytes, List.length_append, length_dataBytes, List.length_singleton]

theorem take_bytes (f : Frame) : f.bytes.take (frameDataLength f.kind) = f.dataBytes := by
  rw [Frame.bytes, ← length_dataBytes, List.take_left]

/-- R61: the bytes of a frame pass a receiver's check. -/
theorem frameCheckOk_bytes (f : Frame) : frameCheckOk f.bytes = true :=
  beq_iff_eq.mpr ((eq_checkByte_iff _ _).mp rfl)

theorem bytesToNat_dataBytes {f : Frame} (packs : FramePacks f) : bytesToNat f.dataBytes = packNat f.paddedFields := by
  rw [Frame.dataBytes, bytesToNat_natBytes, show 256 = 2 ^ 8 from rfl, ← Nat.pow_mul, ← packs]
  exact Nat.mod_eq_of_lt (packNat_lt _)

theorem frameKind_bytes {f : Frame} {v : Nat} {rest : List Item} (packs : FramePacks f)
    (first : f.paddedFields = (4, v) :: rest) : frameKind f.bytes = v % 16 := by
  obtain ⟨n, hn⟩ := frameDataLength_pos f.kind
  have read := bitField_packNat [] rest (4, v)
  rw [List.nil_append, ← first, packs, hn] at read
  have top : 8 * (n + 1) - packWidth [] - 4 = 8 * n + 4 := by rw [show packWidth [] = 0 from rfl]; omega
  rw [Frame.bytes, Frame.dataBytes, hn, frameKind_natBytes, show 256 ^ n = 2 ^ (8 * n) by rw [Nat.pow_mul]]
  rw [bitField, top, Nat.pow_add, ← Nat.div_div_eq_div_mul] at read
  change _ / 2 ^ 4 % 2 ^ 4 = v % 2 ^ 4 at read
  omega

/-- The fields of a frame are read back from its data bytes. -/
theorem fieldsFrom_dataBytes {f : Frame} (packs : FramePacks f) :
    fieldsFrom (8 * frameDataLength f.kind) (bytesToNat f.dataBytes) 0 (f.paddedFields.map (·.1)) =
      f.paddedFields.map (fun i => i.2 % 2 ^ i.1) := by
  rw [bytesToNat_dataBytes packs, ← packs, fieldsFrom_packNat]

@[simp] theorem stationField_val (i : Station) : stationField (i.val % 16) = i :=
  Fin.ext (by have := i.isLt; simp only [stationField]; omega)

@[simp] theorem placeField_val (p : PlaceId) : placeField (p.val % 4) = p :=
  Fin.ext (by have := p.isLt; simp only [placeField]; omega)

/-- The frame of a kind that some data bytes carry (R60). -/
def readFrame (kind : Nat) (data : List Byte) : Frame :=
  let g := fun off w => bitField (8 * frameDataLength kind) off w (bytesToNat data)
  match kind with
  | 1 => .taken (g 4 9) (stationField (g 13 4)) (placeField (g 17 2))
  | 2 => .missed (g 4 9) (stationField (g 13 4))
  | 3 => .release (g 4 9) (stationField (g 13 4)) (g 17 3)
  | 4 => .claim (g 4 2) (g 6 9) (stationField (g 15 4)) (g 19 9) (placeField (g 28 2))
  | 5 => .announce (g 4 9) (stationField (g 13 4)) (g 17 24) (g 41 3)
  | 6 => .join (stationField (g 4 4)) (g 8 16)
  | 7 => .withdraw (stationField (g 4 4)) (g 8 4)
  | _ => .unknown data

theorem parseFrame_eq (bytes : List Byte) :
    parseFrame bytes = readFrame (frameKind bytes) (bytes.take (frameDataLength (frameKind bytes))) := rfl

/-- The reading back of a frame of a known kind, by the fields of its data bytes. -/
theorem parseFrame_bytes {f : Frame} {v : Nat} {rest : List Item} (packs : FramePacks f)
    (first : f.paddedFields = (4, v) :: rest) (kind : f.kind = v % 16) : parseFrame f.bytes = readFrame f.kind f.dataBytes := by
  rw [parseFrame_eq, frameKind_bytes packs first, ← kind, take_bytes]

/-- What it is for a frame to be read back from its bytes (R59 to R61). -/
def ReadBack (f : Frame) : Prop :=
  parseFrame f.bytes = f ∧ f.bytes.length = frameDataLength f.kind + 1 ∧ frameCheckOk f.bytes = true

/-- Only the parsing is to be shown: the length and the check byte are right for every frame. -/
theorem readBack_of_parse {f : Frame} (parse : parseFrame f.bytes = f) : ReadBack f :=
  ⟨parse, length_bytes f, frameCheckOk_bytes f⟩

section
variable {u d k a n r : Nat} (i : Station) (p : PlaceId)

theorem readBack_taken (hk : k < 512) : ReadBack (.taken k i p) := by
  have packs : FramePacks (.taken k i p) := rfl
  have read := fieldsFrom_dataBytes packs
  simp [Frame.paddedFields, Frame.fields, fieldsFrom, Frame.kind] at read
  obtain ⟨-, slot, sender, place, -⟩ := read
  refine readBack_of_parse ((parseFrame_bytes packs rfl rfl).trans ?_)
  simp [readFrame, Frame.kind, slot, sender, place, Nat.mod_eq_of_lt hk]

theorem readBack_missed (hk : k < 512) : ReadBack (.missed k i) := by
  have packs : FramePacks (.missed k i) := rfl
  have read := fieldsFrom_dataBytes packs
  simp [Frame.paddedFields, Frame.fields, fieldsFrom, Frame.kind] at read
  obtain ⟨-, slot, sender, -⟩ := read
  refine readBack_of_parse ((parseFrame_bytes packs rfl rfl).trans ?_)
  simp [readFrame, Frame.kind, slot, sender, Nat.mod_eq_of_lt hk]

theorem readBack_release (hk : k < 512) (hr : r < 8) : ReadBack (.release k i r) := by
  have packs : FramePacks (.release k i r) := rfl
  have read := fieldsFrom_dataBytes packs
  simp [Frame.paddedFields, Frame.fields, fieldsFrom, Frame.kind] at read
  obtain ⟨-, slot, sender, reason, -⟩ := read
  refine readBack_of_parse ((parseFrame_bytes packs rfl rfl).trans ?_)
  simp [readFrame, Frame.kind, slot, sender, reason, Nat.mod_eq_of_lt hk, Nat.mod_eq_of_lt hr]

theorem readBack_claim (hu : u < 4) (hd : d < 512) (hk : k < 512) : ReadBack (.claim u d i k p) := by
  have packs : FramePacks (.claim u d i k p) := rfl
  have read := fieldsFrom_dataBytes packs
  simp [Frame.paddedFields, Frame.fields, fieldsFrom, Frame.kind] at read
  obtain ⟨-, urgency, distance, sender, slot, place, -⟩ := read
  refine readBack_of_parse ((parseFrame_bytes packs rfl rfl).trans ?_)
  simp [readFrame, Frame.kind, urgency, distance, sender, slot, place, Nat.mod_eq_of_lt hu, Nat.mod_eq_of_lt hd, Nat.mod_eq_of_lt hk]

theorem readBack_announce (hk : k < 512) (ha : a < 16777216) (hn : n < 8) : ReadBack (.announce k i a n) := by
  have packs : FramePacks (.announce k i a n) := rfl
  have read := fieldsFrom_dataBytes packs
  simp [Frame.paddedFields, Frame.fields, fieldsFrom, Frame.kind] at read
  obtain ⟨-, slot, sender, article, form, -⟩ := read
  refine readBack_of_parse ((parseFrame_bytes packs rfl rfl).trans ?_)
  simp [readFrame, Frame.kind, slot, sender, article, form, Nat.mod_eq_of_lt hk, Nat.mod_eq_of_lt ha, Nat.mod_eq_of_lt hn]

theorem readBack_join (hd : d < 65536) : ReadBack (.join i d) := by
  have packs : FramePacks (.join i d) := rfl
  have read := fieldsFrom_dataBytes packs
  simp [Frame.paddedFields, Frame.fields, fieldsFrom, Frame.kind] at read
  obtain ⟨-, sender, digest, -⟩ := read
  refine readBack_of_parse ((parseFrame_bytes packs rfl rfl).trans ?_)
  simp [readFrame, Frame.kind, sender, digest, Nat.mod_eq_of_lt hd]

theorem readBack_withdraw (hr : r < 16) : ReadBack (.withdraw i r) := by
  have packs : FramePacks (.withdraw i r) := rfl
  have read := fieldsFrom_dataBytes packs
  simp [Frame.paddedFields, Frame.fields, fieldsFrom, Frame.kind] at read
  obtain ⟨-, sender, reason, -⟩ := read
  refine readBack_of_parse ((parseFrame_bytes packs rfl rfl).trans ?_)
  simp [readFrame, Frame.kind, sender, reason, Nat.mod_eq_of_lt hr]

end

/-- A kind outside R59's table has three data bytes. -/
theorem frameDataLength_unknown {kind : Nat} (hk : kind = 0 ∨ 8 ≤ kind) : frameDataLength kind = 3 := by
  unfold frameDataLength
  split
  case h_4 => rfl
  all_goals omega

theorem dataBytes_unknown {d : List Byte} (len : d.length = 3) (hk : frameKind d = 0 ∨ 8 ≤ frameKind d) :
    (Frame.unknown d).dataBytes = d := by
  have n : frameDataLength (Frame.unknown d).kind = 3 := frameDataLength_unknown hk
  have width : packWidth (d.map (fun b => (8, b.toNat))) = 24 := by
    match d, len with
    | [_, _, _], _ => rfl
  have pack : packNat (Frame.unknown d).paddedFields = bytesToNat d := by
    rw [Frame.paddedFields, n, Frame.fields, packNat_append, width, packNat_bytes]
    simp [packWidth, packNat]
  rw [Frame.dataBytes, n, pack, ← len, natBytes_bytesToNat]

theorem readBack_unknown {d : List Byte} (len : d.length = 3) (hk : frameKind d = 0 ∨ 8 ≤ frameKind d) :
    ReadBack (.unknown d) := by
  have kind : frameKind (Frame.unknown d).bytes = frameKind d := by
    rw [Frame.bytes, dataBytes_unknown len hk]
    match d, len with
    | [_, _, _], _ => rfl
  have data : (Frame.unknown d).bytes.take 3 = d := by
    rw [Frame.bytes, dataBytes_unknown len hk, ← len, List.take_left]
  refine readBack_of_parse ?_
  rw [parseFrame_eq, kind, frameDataLength_unknown hk, data]
  unfold readFrame
  split
  case h_8 => rfl
  all_goals omega

end Sys2Proof.Laws

open Sys2Proof Sys2Proof.Machine Sys2Proof.Laws

/-- Settles O48: per kind, the fields of the packed data bytes are those that were packed. -/
theorem hallFramesReadBack : Obligations.HallFramesReadBack :=
  ⟨fun _ i p hk => readBack_taken i p hk, fun _ i hk => readBack_missed i hk, fun _ i _ hk hr => readBack_release i hk hr,
    fun _ _ i _ p hu hd hk => readBack_claim i p hu hd hk, fun _ i _ _ hk ha hn => readBack_announce i hk ha hn,
    fun i _ hd => readBack_join i hd, fun i _ hr => readBack_withdraw i hr, fun _ len hk => readBack_unknown len hk⟩

end

section
/-! SUPPORT. The order of the transmit queue (R69), the levels the stuck timer is told by (R79), and the beginning of an
attempt (R62). -/

namespace Sys2Proof.Laws

open Sys2Proof Sys2Proof.Machine

variable {s : State} {x : TxFrame} {rest : List TxFrame}

/-! ### Sorting by a strict order -/

section
variable {α : Type} {less : α → α → Bool}

/-- What makes `less` a strict order whose incomparability is transitive. -/
structure StrictOrder (less : α → α → Bool) : Prop where
  asymm : ∀ {a b}, less a b = true → less b a = false
  trans : ∀ {a b c}, less b a = false → less c b = false → less c a = false

theorem mem_insertBy {x y : α} {l : List α} : y ∈ insertBy less x l ↔ y = x ∨ y ∈ l :=
  (insertBy_perm less x l).mem_iff.trans List.mem_cons

theorem insertBy_pairwise (order : StrictOrder less) (x : α) {l : List α}
    (hl : l.Pairwise (fun a b => less b a = false)) : (insertBy less x l).Pairwise (fun a b => less b a = false) := by
  induction l with
  | nil => exact List.pairwise_singleton _ x
  | cons y l ih =>
    obtain ⟨first, tail⟩ := List.pairwise_cons.mp hl
    unfold insertBy
    split
    next before =>
      refine List.pairwise_cons.mpr ⟨fun z hz => ?_, hl⟩
      rcases List.mem_cons.mp hz with rfl | hz
      · exact order.asymm before
      · exact order.trans (order.asymm before) (first z hz)
    next behind =>
      refine List.pairwise_cons.mpr ⟨fun z hz => ?_, ih tail⟩
      rcases mem_insertBy.mp hz with rfl | hz
      · exact Bool.eq_false_of_not_eq_true behind
      · exact first z hz

theorem sortBy_pairwise (order : StrictOrder less) (l : List α) :
    (sortBy less l).Pairwise (fun a b => less b a = false) :=
  List.foldlRecOn l _ List.Pairwise.nil fun _ sorted x _ => insertBy_pairwise order x sorted

end

/-! ### The order of R69 -/

theorem lexLess_iff (a b : List Nat) : lexLess a b = true ↔ a < b := by
  induction a generalizing b with
  | nil => cases b <;> simp [lexLess]
  | cons x a ih =>
    cases b with
    | nil => simp [lexLess]
    | cons y b => simp [lexLess, ih, List.cons_lt_cons_iff]

/-- The key of R69 with the SENDING frames first. -/
def rankKey (s : State) (x : TxFrame) : List Nat := (if x.sending then 0 else 1) :: txKey s x.frame

theorem txBefore_iff (s : State) (a b : TxFrame) : txBefore s a b = true ↔
    (a.sending = true ∧ b.sending = false) ∨ (a.sending = b.sending ∧ txKey s a.frame < txKey s b.frame) := by
  unfold txBefore
  cases a.sending <;> cases b.sending <;> simp [lexLess_iff]

theorem txBefore_iff_rankKey (s : State) (a b : TxFrame) : txBefore s a b = true ↔ rankKey s a < rankKey s b := by
  rw [txBefore_iff, rankKey, rankKey, List.cons_lt_cons_iff]
  cases a.sending <;> cases b.sending <;> simp

theorem txBefore_eq_false_iff (s : State) (a b : TxFrame) : txBefore s a b = false ↔ rankKey s b ≤ rankKey s a := by
  rw [Bool.eq_false_iff, ne_eq, txBefore_iff_rankKey, not_lt]

theorem txBefore_strictOrder (s : State) : StrictOrder (txBefore s) where
  asymm h := (txBefore_eq_false_iff s _ _).mpr (le_of_lt ((txBefore_iff_rankKey s _ _).mp h))
  trans h1 h2 := (txBefore_eq_false_iff s _ _).mpr
    (le_trans ((txBefore_eq_false_iff s _ _).mp h1) ((txBefore_eq_false_iff s _ _).mp h2))

theorem txOrder_pairwise (s : State) : (txOrder s).Pairwise (fun a b => txBefore s b a = false) :=
  sortBy_pairwise (txBefore_strictOrder s) _

theorem mem_txOrder : x ∈ txOrder s ↔ x ∈ s.line.tx := (sortBy_perm _ _).mem_iff

/-! ### The rows of the line state (R58) and the beginning of an attempt (R62) -/

theorem startBit_eq (s : State) : startBit s = (match s.line.state with
    | .free => s.setLine { s.line with state := .carrying, recessiveRun := 0, stuckTimer := some (s.line.stuckTimer.getD 0) }
    | .seeking => s.setLine { s.line with recessiveRun := 0, stuckTimer := some (s.line.stuckTimer.getD 0) }
    | .off => s
    | .carrying => s.setLine { s.line with stuckTimer := some (s.line.stuckTimer.getD 0) }) := by
  unfold startBit
  cases hl : s.line.state with
  | seeking => exact congrArg s.setLine (by simp [setLineState, timedBy, ← hl])
  | off | free | carrying => rfl

theorem lineBecomesFree_of_seeking (seeking : s.line.state = .seeking) (sound : s.line.stuck = false) :
    lineBecomesFree s = s.setLine { s.line with state := .free, recessiveRun := 12, stuckTimer := none } :=
  if_pos ⟨seeking, sound⟩

theorem lineBecomesFree_of_not (other : s.line.state ≠ .seeking ∨ s.line.stuck = true) : lineBecomesFree s = s :=
  if_neg fun ⟨seeking, sound⟩ => other.elim (· seeking) (by rw [sound]; nofun)

theorem mayAttempt_iff : mayAttempt s = true ↔
    s.line.state = .free ∧ s.line.stuck = false ∧ s.line.held = none ∧ s.line.attempt = none := by
  simp [mayAttempt, and_assoc]

theorem sendAttempt_of_head (may : mayAttempt s = true) (head : txOrder s = x :: rest) : sendAttempt s = beginAttempt s x := by
  rw [sendAttempt, if_pos may, head]

theorem sendAttempt_of_not (other : mayAttempt s = false ∨ s.line.tx = []) : sendAttempt s = s := by
  unfold sendAttempt
  rcases other with no | empty
  · rw [no]; rfl
  · rw [txOrder, empty]; exact ite_self _

theorem beginAttempt_eq (s : State) (x : TxFrame) : beginAttempt s x = s.setLine { s.line with
    state := .carrying
    recessiveRun := 0
    stuckTimer := some (s.line.stuckTimer.getD 0)
    tx := modifyFirst (fun y => decide (y = x)) (fun y => { y with inAttempt := true }) s.line.tx
    attempt := some ⟨frameForAttempt s x.frame, false, none⟩ } := rfl

end Sys2Proof.Laws

open Sys2Proof Sys2Proof.Machine Sys2Proof.Laws

/-- Settles O49: by the state of the line, and by the sorting of the queue. -/
theorem lineStatesAndAttempts : Obligations.LineStatesAndAttempts := by
  intro s
  refine ⟨congrArg _ (startBit_eq s), fun seeking sound => congrArg _ (lineBecomesFree_of_seeking seeking sound),
    fun other => congrArg _ (lineBecomesFree_of_not other), ?_, ?_, sortBy_perm _ _, txOrder_pairwise s⟩
  · intro free sound noHeld noAttempt x rest head
    refine congrArg _ ((sendAttempt_of_head (mayAttempt_iff.mpr ⟨free, sound, noHeld, noAttempt⟩) head).trans ?_)
    rw [beginAttempt_eq]
    cases x.frame <;> rfl
  · intro other
    refine congrArg _ (sendAttempt_of_not (or_iff_not_imp_right.mpr fun frames => Bool.eq_false_iff.mpr fun may => ?_))
    obtain ⟨free, sound, noHeld, noAttempt⟩ := mayAttempt_iff.mp may
    simp_all

end

section
/-! SUPPORT. The offers to the transmit queue, and the requests to withdraw its frames (R70 to R72). -/

namespace Sys2Proof.Laws

open Sys2Proof Sys2Proof.Machine Sys2Proof.Safety

variable {s t u : State} {f : OutFrame} {x y z : TxFrame} {p : OutFrame → Bool} {k : Nat}

/-! ### Offers (R70) -/

theorem offerFrame_announce (hf : f.isAnnounce = true) : offerFrame s f =
    if 5 ≤ announceCount s ∨ 12 ≤ s.line.tx.length then reportPlain s .announceDropped
    else setTx s (s.line.tx ++ [TxFrame.waiting f]) := by
  rw [offerFrame, if_pos hf]
  rfl

theorem offerFrame_other (hf : f.isAnnounce = false) : offerFrame s f = offerOther s f := by
  rw [offerFrame, if_neg (by rw [hf]; nofun)]

/-- An ANNOUNCE that the room of another frame may cost (R70, log 11). -/
def Spare (s : State) (y : TxFrame) : Prop :=
  y ∈ s.line.tx ∧ y.frame.isAnnounce = true ∧ y.sending = false ∧ y.inAttempt = false

theorem spare_iff : Spare s y ↔ y ∈ (txOrder s).filter (fun t => t.frame.isAnnounce && t.idle) := by
  simp [Spare, TxFrame.idle, mem_txOrder]

/-- The last of a list stands behind each of its elements. -/
theorem pairwise_getLast {α : Type} {r : α → α → Prop} {l : List α} (hl : l.Pairwise r) {a b : α} (last : l.getLast? = some a)
    (hb : b ∈ l) : b = a ∨ r b a := by
  obtain ⟨front, rfl⟩ := List.getLast?_eq_some_iff.mp last
  rcases List.mem_append.mp hb with hb | hb
  · exact .inr ((List.pairwise_append.mp hl).2.2 b hb a (List.mem_singleton_self a))
  · exact .inl (List.mem_singleton.mp hb)

theorem lastWaitingAnnounce_none : lastWaitingAnnounce s = none ↔ ∀ y, ¬Spare s y := by
  rw [lastWaitingAnnounce, List.getLast?_eq_none_iff, List.eq_nil_iff_forall_not_mem]
  simp only [spare_iff]

/-- R70: the frame dropped for room stands last of those that may be. -/
theorem lastWaitingAnnounce_last (last : lastWaitingAnnounce s = some y) :
    Spare s y ∧ ∀ z, Spare s z → txBefore s y z = false := by
  refine ⟨spare_iff.mpr (List.mem_of_getLast? last), fun z hz => ?_⟩
  rcases pairwise_getLast ((txOrder_pairwise s).filter _) last (spare_iff.mp hz) with rfl | before
  · exact (txBefore_eq_false_iff s z z).mpr le_rfl
  · exact before

theorem offerOther_room (room : ¬12 ≤ s.line.tx.length ∨ ∀ y, ¬Spare s y) :
    offerOther s f = setTx s (s.line.tx ++ [TxFrame.waiting f]) := by
  unfold offerOther
  split
  · rfl
  · next full =>
    rw [lastWaitingAnnounce_none.mpr (room.resolve_left fun h => h (Nat.not_lt.mp full))]

theorem offerOther_full (full : 12 ≤ s.line.tx.length) (last : lastWaitingAnnounce s = some y) :
    offerOther s f = setTx (reportPlain s .announceDropped) (eraseLast y s.line.tx ++ [TxFrame.waiting f]) := by
  have noRoom : ¬s.line.tx.length < Config.txCapacity := Nat.not_lt.mpr full
  rw [offerOther, if_neg noRoom, last]

/-! ### Requests to withdraw (R72) -/

/-- What a request makes of a frame that stays. -/
def asked (p : OutFrame → Bool) (x : TxFrame) : TxFrame := if p x.frame && !x.sending then { x with withdrawAsked := true } else x

@[simp] theorem asked_frame (p : OutFrame → Bool) (x : TxFrame) : (asked p x).frame = x.frame := by unfold asked; split <;> rfl
@[simp] theorem asked_sending (p : OutFrame → Bool) (x : TxFrame) : (asked p x).sending = x.sending := by
  unfold asked; split <;> rfl
@[simp] theorem asked_inAttempt (p : OutFrame → Bool) (x : TxFrame) : (asked p x).inAttempt = x.inAttempt := by
  unfold asked; split <;> rfl

theorem mem_askWithdrawal {q : List TxFrame} :
    y ∈ askWithdrawal p q ↔ ∃ x ∈ q, ¬(p x.frame = true ∧ x.idle = true) ∧ asked p x = y := by
  simp only [askWithdrawal, List.mem_map, List.mem_filter, Bool.not_eq_true', ← Bool.not_eq_true, Bool.and_eq_true,
    and_assoc, asked]

/-! ### The JOIN and WITHDRAW frames (R71) -/

/-- The queued JOIN and WITHDRAW frames. -/
def participation (s : State) : List TxFrame := framesBy OutFrame.isParticipation s

theorem participation_congr (h : t.line.tx = s.line.tx) : participation t = participation s := framesBy_congr h

theorem participation_noAnnounce : NoAnnounce OutFrame.isParticipation := by
  intro f hf
  cases f with
  | announce => rfl
  | _ => cases hf

theorem participation_offerFrame_other (hf : f.isParticipation = false) (s : State) :
    participation (offerFrame s f) = participation s := framesBy_offerFrame_other participation_noAnnounce hf

theorem participation_offerWithdraw (s : State) (n : Nat) : participation (offerWithdraw s n) =
    (askWithdrawal OutFrame.isParticipation s.line.tx).filter (fun x => x.frame.isParticipation) ++
      [TxFrame.waiting (.withdraw n)] := framesBy_offerFrame participation_noAnnounce _ _

theorem participation_offerJoin (s : State) : participation (offerJoin s) =
    (askWithdrawal OutFrame.isParticipation s.line.tx).filter (fun x => x.frame.isParticipation) ++
      [TxFrame.waiting (.join (s.part.digest.getD 0))] := framesBy_offerFrame participation_noAnnounce _ _

theorem participation_withdrawAnnounces (s : State) : participation (withdrawAnnounces s OutFrame.isAnnounce) = participation s :=
  framesBy_withdrawAnnounces participation_noAnnounce s

theorem claimFor_not_participation (hf : f.isClaimFor k = true) : f.isParticipation = false := by
  cases f with
  | claim => rfl
  | _ => cases hf

theorem participation_leaveClaim (s : State) (c : Claim) : participation (leaveClaim s c) = participation s :=
  participation_congr (by simp)

theorem participation_leaveWithEnd (s : State) (c : Claim) (e : PendingEnd) :
    participation (leaveWithEnd s c e) = participation s := participation_congr (by simp)

theorem participation_cancelTest (s : State) (p : PlaceId) : participation (cancelTest s p) = participation s :=
  participation_congr (by simp)

theorem participation_endUncommitted (s : State) (k : Nat) (e : PendingEnd) :
    participation (endUncommitted s k e) = participation s := by
  unfold endUncommitted
  split
  · rfl
  next c _ =>
    have request : ∀ u : State, participation (setTx u (askWithdrawal (OutFrame.isClaimFor k) s.line.tx)) = participation s :=
      fun _ => filter_askWithdrawal (p := OutFrame.isParticipation) (fun _ => claimFor_not_participation) _
    dsimp only
    split
    · split
      · rw [participation_leaveWithEnd, request]
      · exact request _
    · exact participation_congr (by simp)
    all_goals rfl

theorem participation_withdrawClaim (s : State) (k : Nat) : participation (withdrawClaim s k) = participation s := by
  unfold withdrawClaim endAndTest
  split
  · rfl
  · split
    case h_1 | h_2 =>
      split
      · rfl
      · rw [participation_cancelTest, participation_endUncommitted]
    case h_3 => rw [participation_cancelTest, participation_offerFrame_other rfl, participation_leaveClaim]
    all_goals rfl

theorem participation_withdrawClaims (s : State) : participation (withdrawClaims s) = participation s :=
  foldl_keeps participation participation_withdrawClaim _ s

theorem participation_orderlyWithdraw (s : State) (n : Nat) : participation (orderlyWithdraw s n) =
    (askWithdrawal OutFrame.isParticipation s.line.tx).filter (fun x => x.frame.isParticipation) ++
      [TxFrame.waiting (.withdraw n)] := by
  unfold orderlyWithdraw
  split
  · exact participation_offerWithdraw s n
  · simp [participation_withdrawAnnounces, participation_withdrawClaims, participation_offerWithdraw]

/-- R71: the queue after a JOIN or WITHDRAW of this station has replaced the waiting one. -/
structure Replaced (s t : State) (f : OutFrame) : Prop where
  sending : ∀ y ∈ s.line.tx, y.frame.isParticipation = true → y.sending = true → y ∈ t.line.tx
  attempted : ∀ y ∈ s.line.tx, y.frame.isParticipation = true → y.sending = false → y.inAttempt = true →
    { y with withdrawAsked := true } ∈ t.line.tx
  waiting : t.line.tx.filter (fun y => y.frame.isParticipation && !y.sending && !y.inAttempt) = [TxFrame.waiting f]

theorem replaced_of_participation (ht : participation t =
    (askWithdrawal OutFrame.isParticipation s.line.tx).filter (fun x => x.frame.isParticipation) ++ [TxFrame.waiting f]) :
    Replaced s t f := by
  have stays : ∀ y ∈ s.line.tx, y.frame.isParticipation = true → y.idle = false →
      asked OutFrame.isParticipation y ∈ t.line.tx := by
    intro y hy hp busy
    refine (mem_framesBy.mp (ht ▸ List.mem_append_left _ (List.mem_filter.mpr ⟨?_, ?_⟩) : _ ∈ participation t)).1
    · exact mem_askWithdrawal.mpr ⟨y, hy, fun waits => Bool.noConfusion (busy.symm.trans waits.2), rfl⟩
    · simpa using hp
  refine ⟨fun y hy hp hs => ?_, fun y hy hp hs ha => ?_, ?_⟩
  · have := stays y hy hp (by simp [TxFrame.idle, hs])
    rwa [asked, hs, Bool.not_true, Bool.and_false, if_neg (by nofun)] at this
  · have := stays y hy hp (by simp [TxFrame.idle, ha])
    rwa [asked, if_pos (by rw [hp, hs]; rfl)] at this
  · have none : ((askWithdrawal OutFrame.isParticipation s.line.tx).filter (fun x => x.frame.isParticipation)).filter
        TxFrame.idle = [] :=
      List.filter_eq_nil_iff.mpr fun y hy => by
        obtain ⟨hy, hp⟩ := List.mem_filter.mp hy
        rw [idle_askWithdrawal hy hp]
        nofun
    have split : t.line.tx.filter (fun y => y.frame.isParticipation && !y.sending && !y.inAttempt) =
        (participation t).filter TxFrame.idle := by
      rw [participation, framesBy, List.filter_filter]
      exact List.filter_congr fun y _ => by rw [TxFrame.idle, Bool.and_assoc, Bool.and_comm]
    rw [split, ht, List.filter_append, none]
    rfl

/-! ### WITHDRAW and REJOIN as rows (R162) -/

theorem exec_withdraw (hs : s.part.state = .listening ∨ s.part.state = .active) :
    exec .withdraw s = .next (answer (runSearch (orderlyWithdraw s 0)) .done) := by
  refine congrArg Host.Outcome.next ?_
  rcases hs with hs | hs <;> rw [hs]

/-- A station that is not ACTIVE makes no search, so the queue stands. -/
theorem line_runSearch_inactive (hs : s.part.state ≠ .active) : (runSearch s).line = s.line := by
  rw [runSearch_inactive hs]
  rfl

theorem exec_rejoin (hs : s.part.state = .withdrawn) (hw : s.withdrawingSet = false) :
    exec .rejoin s = .next (answer (enterListening s) .done) := congrArg Host.Outcome.next (if_pos ⟨hs, hw⟩)

end Sys2Proof.Laws

open Sys2Proof Sys2Proof.Machine Sys2Proof.Safety Sys2Proof.Laws

/-- Settles O50: an offer by the room it finds, the order by its key, and the row WITHDRAW or REJOIN by what it leaves of the
JOIN and WITHDRAW frames. -/
theorem transmitQueueTakesAndOrders : Obligations.TransmitQueueTakesAndOrders := by
  intro s
  refine ⟨fun f hf => ⟨fun room => ?_, fun few room => ?_⟩, fun f hf => ⟨fun room => ?_, fun full spare => ?_⟩,
    fun a b => ?_, fun hs => ?_, fun hs sound => ?_⟩
  · exact (offerFrame_announce hf).trans (if_pos room)
  · exact (offerFrame_announce hf).trans (if_neg (not_or.mpr ⟨few, room⟩))
  · exact (offerFrame_other hf).trans (offerOther_room room)
  · cases last : lastWaitingAnnounce s with
    | none => exact absurd spare (not_exists.mpr (lastWaitingAnnounce_none.mp last))
    | some y =>
      obtain ⟨isSpare, isLast⟩ := lastWaitingAnnounce_last last
      exact ⟨y, isSpare, isLast, (offerFrame_other hf).trans (offerOther_full full last)⟩
  · refine (txBefore_iff s a b).trans ?_
    cases a.frame <;> cases b.frame <;> rfl
  · have line : (answer (runSearch (orderlyWithdraw s 0)) .done).line = (orderlyWithdraw s 0).line := by
      rw [← line_runSearch_inactive (s := orderlyWithdraw s 0) (by rw [orderlyWithdraw_state]; nofun)]
      simp
    have replaced := replaced_of_participation
      ((participation_congr (congrArg (·.tx) line)).trans (participation_orderlyWithdraw s 0))
    exact ⟨_, exec_withdraw hs, fun y hy hp => ⟨replaced.sending y hy hp, replaced.attempted y hy hp⟩, replaced.waiting⟩
  · have entered : participation (enterListening s) = _ := participation_offerJoin _
    have answered : participation (answer (enterListening s) .done) = participation (enterListening s) :=
      participation_congr (by simp)
    have replaced : Replaced s (answer (enterListening s) .done) (.join (s.part.digest.getD 0)) :=
      replaced_of_participation (by simpa [answered] using entered)
    exact ⟨_, exec_rejoin hs sound, fun y hy hp => ⟨replaced.sending y hy hp, replaced.attempted y hy hp⟩, replaced.waiting⟩

end

section
/-! SUPPORT. The hall line apart from its transmit queue: what no offer, no claim that ends and no search touches. -/

namespace Sys2Proof.Laws

open Sys2Proof Sys2Proof.Machine Sys2Proof.Safety

variable {s t : State}

/-- The line with its transmit queue left out. -/
def lineRest (s : State) : HallLine := { s.line with tx := [] }

theorem lineRest_congr (h : t.line = s.line) : lineRest t = lineRest s := by
  unfold lineRest; rw [h]

theorem line_of_lineRest (h : lineRest t = lineRest s) : t.line = { s.line with tx := t.line.tx } :=
  congrArg (fun l : HallLine => { l with tx := t.line.tx }) h

@[simp] theorem lineRest_setTx (s : State) (q : List TxFrame) : lineRest (setTx s q) = lineRest s := rfl

@[simp] theorem lineRest_offerFrame (s : State) (f : OutFrame) : lineRest (offerFrame s f) = lineRest s := by
  unfold offerFrame offerAnnounce offerOther
  split
  · split
    · exact lineRest_congr (by simp)
    · rfl
  · split
    · rfl
    · split
      · exact (lineRest_setTx _ _).trans (lineRest_congr (by simp))
      · rfl

@[simp] theorem lineRest_offerWithdraw (s : State) (n : Nat) : lineRest (offerWithdraw s n) = lineRest s := by
  unfold offerWithdraw; simp

@[simp] theorem lineRest_offerJoin (s : State) : lineRest (offerJoin s) = lineRest s := by
  unfold offerJoin; simp

@[simp] theorem lineRest_offerReplyJoin (s : State) : lineRest (offerReplyJoin s) = lineRest s := by
  unfold offerReplyJoin
  split
  · rfl
  · simp

@[simp] theorem lineRest_withdrawAnnounces (s : State) (p : OutFrame → Bool) :
    lineRest (withdrawAnnounces s p) = lineRest s := by
  have asked := lineRest_setTx s (askWithdrawal p s.line.tx)
  rw [← asked]
  exact lineRest_congr (by simp [withdrawAnnounces])

/-! ### Claims that end -/

@[simp] theorem lineRest_leaveClaim (s : State) (c : Claim) : lineRest (leaveClaim s c) = lineRest s :=
  lineRest_congr (by simp)

@[simp] theorem lineRest_leaveWithEnd (s : State) (c : Claim) (e : PendingEnd) : lineRest (leaveWithEnd s c e) = lineRest s :=
  lineRest_congr (by simp)

@[simp] theorem lineRest_modifyClaim (s : State) (k : Nat) (f : Claim → Claim) : lineRest (modifyClaim s k f) = lineRest s :=
  lineRest_congr (by simp)

@[simp] theorem lineRest_addOrphan (s : State) (k : Nat) : lineRest (addOrphan s k) = lineRest s :=
  lineRest_congr (by simp)

@[simp] theorem lineRest_cancelTest (s : State) (p : PlaceId) : lineRest (cancelTest s p) = lineRest s :=
  lineRest_congr (by simp)

@[simp] theorem lineRest_endUncommitted (s : State) (k : Nat) (e : PendingEnd) :
    lineRest (endUncommitted s k e) = lineRest s := by
  unfold endUncommitted
  split
  · rfl
  · dsimp only
    split
    · split <;> simp
    all_goals simp

@[simp] theorem lineRest_endAndTest (s : State) (k : Nat) (e : PendingEnd) : lineRest (endAndTest s k e) = lineRest s := by
  unfold endAndTest
  split <;> simp

@[simp] theorem lineRest_withdrawClaim (s : State) (k : Nat) : lineRest (withdrawClaim s k) = lineRest s := by
  unfold withdrawClaim
  split
  · rfl
  · split <;> simp

@[simp] theorem lineRest_withdrawClaims (s : State) : lineRest (withdrawClaims s) = lineRest s :=
  foldl_keeps lineRest lineRest_withdrawClaim _ s

@[simp] theorem lineRest_faultClaim (s : State) (k : Nat) : lineRest (faultClaim s k) = lineRest s := by
  unfold faultClaim
  split
  · rfl
  · dsimp only
    split <;> simp

@[simp] theorem lineRest_faultClaims (s : State) : lineRest (faultClaims s) = lineRest s :=
  foldl_keeps lineRest lineRest_faultClaim _ s

/-! ### Searches and withdrawals -/

@[simp] theorem lineRest_queueClaim (s : State) (k : Nat) (t : Target) (u : Urgency) :
    lineRest (queueClaim s k t u) = lineRest s := by
  unfold queueClaim
  rw [lineRest_offerFrame]
  exact lineRest_congr (by simp)

@[simp] theorem lineRest_runSearch (s : State) : lineRest (runSearch s) = lineRest s :=
  runSearch_induct (P := fun u => lineRest u = lineRest s) rfl fun u k g w _ hu => (lineRest_queueClaim u k g w).trans hu

@[simp] theorem lineRest_moveTo (s : State) (st : Participation) : lineRest (moveTo s st) = lineRest s :=
  lineRest_congr (by simp)

@[simp] theorem lineRest_stopDivert (s : State) : lineRest (stopDivert s) = lineRest s := lineRest_congr (by simp)

@[simp] theorem lineRest_emptyView (s : State) : lineRest (emptyView s) = lineRest s := lineRest_congr (by simp)

@[simp] theorem lineRest_recordFault (s : State) (f : FaultId) (d : Nat) : lineRest (recordFault s f d) = lineRest s :=
  lineRest_congr (by simp)

@[simp] theorem lineRest_enterListening (s : State) : lineRest (enterListening s) = lineRest s := by
  unfold enterListening
  rw [lineRest_offerJoin]
  exact lineRest_congr (by simp)

@[simp] theorem lineRest_orderlyWithdraw (s : State) (n : Nat) : lineRest (orderlyWithdraw s n) = lineRest s := by
  unfold orderlyWithdraw
  split <;> simp

@[simp] theorem lineRest_immediateWithdraw (s : State) (n : Nat) : lineRest (immediateWithdraw s n) = lineRest s := by
  unfold immediateWithdraw
  simp

@[simp] theorem lineRest_raiseImmediate (s : State) (f : FaultId) : lineRest (raiseImmediate s f) = lineRest s := by
  unfold raiseImmediate
  simp

end Sys2Proof.Laws
end

section
/-! SUPPORT. An orderly withdrawal (R122, R166): the claims that it leaves, the ANNOUNCE frames, and the notices of places
whose cancellation it ends; and the entry to LISTENING (R160). -/

namespace Sys2Proof.Laws

open Sys2Proof Sys2Proof.Machine Sys2Proof.Safety

variable {s t u : State} {p q : PlaceId} {k : Nat} {x : Claim} {f : OutFrame}

/-! ### One claim withdrawn (R122) -/

/-- What an orderly withdrawal makes of the entry x of slot k. -/
structure WithdrawnAt (k : Nat) (x : Claim) (t : State) : Prop where
  armed : x.state = .armed → t.claimAt k = none ∧ HasFrame (.release k .withdrawn) t
  standing : x.state = .committed ∨ x.state = .firing → t.claimAt k = some x
  ended : x.state = .queued ∨ x.state = .sending → t.claimAt k = none ∨ t.claimAt k = some (ending x .withdrawn)

theorem withdrawClaim_uncommitted (hc : s.claimAt k = some x) (hx : x.state = .queued ∨ x.state = .sending) :
    withdrawClaim s k = cancelTest (endUncommitted s k .withdrawn) x.target.place := by
  unfold withdrawClaim endAndTest
  rw [hc]
  rcases hx with hx | hx <;> simp only [hx]

theorem withdrawClaim_armed (hc : s.claimAt k = some x) (hx : x.state = .armed) :
    withdrawClaim s k = cancelTest (offerFrame (leaveClaim s x) (.release k .withdrawn)) x.target.place := by
  unfold withdrawClaim
  rw [hc]
  simp only [hx]

theorem withdrawClaim_standing (hc : s.claimAt k = some x) (hx : x.state = .committed ∨ x.state = .firing) :
    withdrawClaim s k = s := by
  unfold withdrawClaim
  rw [hc]
  rcases hx with hx | hx <;> simp only [hx]

theorem claimAt_cancelTest (s : State) (p : PlaceId) (k : Nat) : (cancelTest s p).claimAt k = s.claimAt k :=
  claimAt_congr (by simp) k

theorem withdrawnAt_withdrawClaim (hc : s.claimAt k = some x) : WithdrawnAt k x (withdrawClaim s k) where
  armed hx := by
    rw [withdrawClaim_armed hc hx, claimAt_cancelTest]
    have left := slotKept_offerFrame (slotKept_refl k (leaveClaim s x)) (g := .release k .withdrawn) rfl
    exact ⟨left.claim.trans (claimAt_without_self (claimAt_slot hc ▸ leaveClaim_claims s x)),
      hasFrame_cancelTest (hasFrame_offered rfl _) _⟩
  standing hx := by rwa [withdrawClaim_standing hc hx]
  ended hx := by
    rw [withdrawClaim_uncommitted hc hx, claimAt_cancelTest]
    rcases hx with hx | hx
    · by_cases idle : HasIdle k s
      · exact .inl (endUncommitted_leaves hc hx idle)
      · exact .inr (endUncommitted_waits hc hx idle)
    · exact .inr (endUncommitted_sending hc hx)

theorem withdrawnAt_later (h : WithdrawnAt k x t) (hk : SlotKept k t u)
    (hf : HasFrame (.release k .withdrawn) t → HasFrame (.release k .withdrawn) u) : WithdrawnAt k x u where
  armed hx := ⟨hk.claim.trans (h.armed hx).1, hf (h.armed hx).2⟩
  standing hx := hk.claim.trans (h.standing hx)
  ended hx := by rw [hk.claim]; exact h.ended hx

theorem slotKept_withdrawAll {l : List Nat} (hl : k ∉ l) (s : State) : SlotKept k s (l.foldl withdrawClaim s) :=
  slotKept_foldl (fun _ _ hj hu => slotKept_withdrawClaim hu fun e => hl (e ▸ hj)) (slotKept_refl k s)

theorem hasFrame_withdrawAll (hf : Lasting f = true) (h : HasFrame f s) (l : List Nat) : HasFrame f (l.foldl withdrawClaim s) :=
  foldl_induct (P := HasFrame f) (fun _ k hu => hasFrame_withdrawClaim hf hu k) l h

theorem withdrawnAt_withdrawAll {l : List Nat} (hl : l.Nodup) (hk : k ∈ l) (hc : s.claimAt k = some x) :
    WithdrawnAt k x (l.foldl withdrawClaim s) := by
  induction l generalizing s with
  | nil => cases hk
  | cons j l ih =>
    rw [List.nodup_cons] at hl
    rw [List.foldl_cons]
    by_cases hj : j = k
    · subst hj
      exact withdrawnAt_later (withdrawnAt_withdrawClaim hc) (slotKept_withdrawAll hl.1 _) fun h => hasFrame_withdrawAll rfl h l
    · exact ih hl.2 ((List.mem_cons.1 hk).resolve_left (Ne.symm hj))
        ((slotKept_withdrawClaim (slotKept_refl k s) hj).claim.trans hc)

theorem withdrawAnnounces_claims (s : State) (r : OutFrame → Bool) :
    (withdrawAnnounces s r).contest.claims = s.contest.claims := by simp

/-! ### Every claim, in an orderly withdrawal (R122, R166) -/

theorem orderlyWithdraw_of_taking (hs : s.part.state ≠ .withdrawn) (r : Nat) : orderlyWithdraw s r =
    withdrawAnnounces (withdrawClaims (offerWithdraw (moveTo s .withdrawn) r)) OutFrame.isAnnounce := if_neg hs

theorem withdrawnAt_orderlyWithdraw (hs : s.part.state ≠ .withdrawn) (once : OncePerSlot s) (hc : s.claimAt k = some x)
    (r : Nat) : WithdrawnAt k x (orderlyWithdraw s r) := by
  have begun : (offerWithdraw (moveTo s .withdrawn) r).claimAt k = some x := (claimAt_congr (by simp) k).trans hc
  have once : OncePerSlot (offerWithdraw (moveTo s .withdrawn) r) := once_congr (by simp) once
  have all := withdrawnAt_withdrawAll ((claimSlots_perm _).nodup_iff.2 once)
    (mem_claimSlots.2 (by rw [begun]; nofun)) begun
  rw [orderlyWithdraw_of_taking hs]
  exact withdrawnAt_later all (slotKept_withdrawAnnounces (slotKept_refl k _) fun _ => id)
    fun h => hasFrame_withdrawAnnounces rfl h fun _ => id

theorem orderlyWithdraw_none (hs : s.part.state ≠ .withdrawn) (hc : s.claimAt k = none) (r : Nat) :
    (orderlyWithdraw s r).claimAt k = none := by
  have begun : (offerWithdraw (moveTo s .withdrawn) r).claimAt k = none := (claimAt_congr (by simp) k).trans hc
  rw [orderlyWithdraw_of_taking hs]
  exact (claimAt_congr (withdrawAnnounces_claims _ _) k).trans (withdrawClaims_none begun)

/-- R122: an entry left is COMMITTED or FIRING as it was, or QUEUED or SENDING with an end pending. -/
theorem orderlyWithdraw_claims (hs : s.part.state ≠ .withdrawn) (hr : Running s) (r : Nat) :
    ∀ c ∈ (orderlyWithdraw s r).contest.claims,
      c.state ≠ .armed ∧ (c.state = .queued ∨ c.state = .sending → c.pendingEnd.isSome = true) := by
  intro c hc
  have entry := claimAt_of_mem (running_orderlyWithdraw hr r).tables.once hc
  cases before : s.claimAt c.slot with
  | none => cases ((orderlyWithdraw_none hs before r).symm.trans entry)
  | some x =>
    have after := withdrawnAt_orderlyWithdraw hs hr.tables.once before r
    cases state : x.state with
    | queued | sending =>
      rcases after.ended (by simp [state]) with none | some
      · cases (none.symm.trans entry)
      · rw [← Option.some.inj (some.symm.trans entry)]
        exact ⟨by simp [ending, state], fun _ => rfl⟩
    | armed => cases ((after.armed state).1.symm.trans entry)
    | committed | firing =>
      rw [← Option.some.inj ((after.standing (by simp [state])).symm.trans entry), state]
      exact ⟨nofun, by rintro (e | e) <;> cases e⟩

/-- R73, R166: no ANNOUNCE is left that waits outside an attempt. -/
theorem orderlyWithdraw_announces (hs : s.part.state ≠ .withdrawn) (r : Nat) :
    ∀ y ∈ (orderlyWithdraw s r).line.tx, y.frame.isAnnounce = true → y.sending = true ∨ y.inAttempt = true := by
  intro y hy announce
  rw [orderlyWithdraw_of_taking hs, tx_withdrawAnnounces] at hy
  have busy := idle_askWithdrawal hy announce
  unfold TxFrame.idle at busy
  revert busy
  cases y.sending <;> simp

/-! ### The notices of cancellations that end (R39) -/

/-- The places whose cancellation runs. -/
def cancelling (s : State) : Finset PlaceId := Finset.univ.filter fun q => (s.place q).state = .cancelling

theorem cancelling_of_core (h : corePlans t = corePlans s) : cancelling t = cancelling s :=
  Finset.filter_congr fun q _ => by rw [state_of_header (header_of_core h q)]

/-- The fault record is that of s, and the queue has room for the notice of every place whose cancellation may end. -/
structure NoticeRoom (s u : State) : Prop where
  faults : u.part.faults = s.part.faults
  room : u.port.notices.length + (cancelling u).card ≤ 32

theorem noticeRoom_congr (h : NoticeRoom s t) (part : u.part = t.part) (port : u.port = t.port) (plans : corePlans u = corePlans t) :
    NoticeRoom s u := ⟨by rw [part, h.faults], by rw [port, cancelling_of_core plans]; exact h.room⟩

theorem noticeRoom_cancelTest (h : NoticeRoom s t) (p : PlaceId) : NoticeRoom s (cancelTest t p) := by
  unfold cancelTest
  split
  next ends =>
    have mem : p ∈ cancelling t := Finset.mem_filter.mpr ⟨Finset.mem_univ p, ends.1⟩
    have left : cancelling (setPlace t p Place.empty) = (cancelling t).erase p := by
      ext q
      simp only [cancelling, Finset.mem_filter, Finset.mem_univ, true_and, Finset.mem_erase, place_setPlace]
      by_cases e : q = p
      · simp [e, Place.empty]
      · simp [e, Ne.symm e]
    have count := Finset.card_erase_add_one mem
    have room := h.room
    have notices : (setPlace t p Place.empty).port.notices = t.port.notices := by simp
    rw [offerNotice_room (by rw [notices]; omega)]
    refine ⟨h.faults, ?_⟩
    show (List.length (_ ++ _)) + (cancelling (setPlace t p Place.empty)).card ≤ 32
    rw [List.length_append, notices, left, List.length_singleton]
    omega
  next => exact h

theorem noticeRoom_withdrawClaim (h : NoticeRoom s t) (k : Nat) : NoticeRoom s (withdrawClaim t k) := by
  unfold withdrawClaim endAndTest
  split
  · exact h
  · split
    case h_1 | h_2 =>
      split
      · exact h
      · exact noticeRoom_cancelTest (noticeRoom_congr h (by simp) (by simp) (by simp)) _
    case h_3 c _ _ _ =>
      exact noticeRoom_cancelTest (noticeRoom_congr h (by simp) (by simp) ((corePlans_congr (plans_offerFrame _ _)).trans (by simp))) _
    all_goals exact h

theorem noticeRoom_withdrawClaims (h : NoticeRoom s t) : NoticeRoom s (withdrawClaims t) :=
  foldl_induct (P := NoticeRoom s) (fun _ k hu => noticeRoom_withdrawClaim hu k) _ h

theorem card_cancelling_le (s : State) : (cancelling s).card ≤ 4 := Finset.card_le_univ (cancelling s)

theorem moveTo_room {st : Participation} (hs : s.part.state ≠ st) (room : s.port.notices.length < 32) : moveTo s st =
    (s.setPart { s.part with state := st }).setPort
      { s.port with notices := s.port.notices ++ [.participation st], attn := true } :=
  (if_neg hs).trans (offerNotice_room (s := s.setPart { s.part with state := st }) room _)

/-- The fault record stands where the notices of the withdrawal all find room. -/
theorem orderlyWithdraw_faults (hs : s.part.state ≠ .withdrawn) (room : s.port.notices.length + 5 ≤ 32) (r : Nat) :
    (orderlyWithdraw s r).part.faults = s.part.faults := by
  have begun : NoticeRoom s (moveTo s .withdrawn) := by
    have bound := card_cancelling_le s
    have same : cancelling (moveTo s .withdrawn) = cancelling s := cancelling_of_core (corePlans_congr (by simp))
    have moved := moveTo_room hs (by omega)
    refine ⟨by rw [moved]; rfl, ?_⟩
    rw [same, moved, State.setPort_port, List.length_append, List.length_singleton]
    omega
  have offered : NoticeRoom s (offerWithdraw (moveTo s .withdrawn) r) :=
    noticeRoom_congr begun (by simp) (by simp) (corePlans_congr (by simp))
  have all := noticeRoom_withdrawClaims offered
  rw [orderlyWithdraw_of_taking hs, ← all.faults]
  simp

/-- R160: the notice of the withdrawal is queued where there is room. -/
theorem orderlyWithdraw_notice (hs : s.part.state ≠ .withdrawn) (room : s.port.notices.length < 32) (r : Nat) :
    .participation .withdrawn ∈ (orderlyWithdraw s r).port.notices := by
  have noted : .participation .withdrawn ∈ (moveTo s .withdrawn).port.notices := by
    rw [moveTo, if_neg hs]
    exact mem_offerNotice (by exact room) _
  have begun : .participation .withdrawn ∈ (offerWithdraw (moveTo s .withdrawn) r).port.notices := by simpa using noted
  have all := (kept_withdrawClaims (E := claimEvents) (List.Subset.refl _) (kept_refl _ _)).notices.subset begun
  rw [orderlyWithdraw_of_taking hs]
  simpa using all

/-! ### The withdrawing indications (R162) -/

theorem mem_all (f : FaultId) : f ∈ FaultId.all := List.mem_of_getElem? (all_index f)

theorem withdrawingSet_iff : s.withdrawingSet = true ↔ ∃ f, f.withdraws s.policy = true ∧ s.indicated f = true := by
  simp [State.withdrawingSet, mem_all]

/-- R162: the indications that withdraw the station, one by one. -/
theorem withdrawingSet_iff_listed : s.withdrawingSet = true ↔
    s.indicated .cfgMismatch = true ∨ s.indicated .indexSlip = true ∨ s.indicated .loopReverse = true ∨
      s.indicated .divertJam = true ∨ s.indicated .rxErrors = true ∨
      (s.indicated .watchdog = true ∧ s.policy.mode = .withdraw) ∨
      (s.policy.scope = .cell ∧ ∃ p, s.indicated (.placeNotReady p) = true) := by
  rw [withdrawingSet_iff]
  constructor
  · rintro ⟨f, withdraws, indicated⟩
    cases f <;> simp_all [FaultId.withdraws]
    exact .inr (.inr (.inr (.inr (.inr (.inr ⟨_, indicated⟩)))))
  · rintro (h | h | h | h | h | ⟨h, mode⟩ | ⟨scope, p, h⟩)
    · exact ⟨_, rfl, h⟩
    · exact ⟨_, rfl, h⟩
    · exact ⟨_, rfl, h⟩
    · exact ⟨_, rfl, h⟩
    · exact ⟨_, rfl, h⟩
    · exact ⟨.watchdog, decide_eq_true mode, h⟩
    · exact ⟨.placeNotReady p, decide_eq_true scope, h⟩

/-! ### The entry to LISTENING (R160) -/

theorem enterListening_part (s : State) :
    (enterListening s).part.state = .listening ∧ (enterListening s).part.listeningMarks = 0 := by
  unfold enterListening
  simp [moveTo_state]

theorem hasFrame_enterListening (s : State) :
    ∃ x ∈ (enterListening s).line.tx, x.frame = .join (s.part.digest.getD 0) ∧ x.sending = false := by
  have entered : participation (enterListening s) = _ := participation_offerJoin _
  have mem : TxFrame.waiting (.join (s.part.digest.getD 0)) ∈ participation (enterListening s) := by
    rw [entered]
    simp
  exact ⟨_, (mem_framesBy.mp mem).1, rfl, rfl⟩

/-- R160: the notice of the entry, where there is room for it. -/
theorem enterListening_notice (hs : s.part.state = .withdrawn) (room : s.port.notices.length < 32) :
    (enterListening s).port.notices = s.port.notices ++ [.participation .listening] ∧
      (enterListening s).port.attn = true ∧ (enterListening s).part.faults = s.part.faults := by
  rw [enterListening, moveTo_room (by rw [hs]; nofun) room]
  simp

end Sys2Proof.Laws

open Sys2Proof Sys2Proof.Machine Sys2Proof.Safety Sys2Proof.Laws

/-- Settles O17: what an orderly withdrawal leaves slot by slot, and the entry to LISTENING. -/
theorem withdrawAndRejoin : Obligations.WithdrawAndRejoin := by
  intro s
  refine ⟨fun hs => ?_, fun hr hs => ?_, ?_⟩
  · refine congrArg Host.Outcome.next ?_
    rcases hs with hs | hs <;> rw [hs]
  · have taking : s.part.state ≠ .withdrawn := by rcases hs with hs | hs <;> rw [hs] <;> nofun
    have inactive : (orderlyWithdraw s 0).part.state ≠ .active := by rw [orderlyWithdraw_state]; nofun
    have queued : TxFrame.waiting (.withdraw 0) ∈ participation (orderlyWithdraw s 0) := by
      rw [participation_orderlyWithdraw]
      simp
    refine ⟨_, exec_withdraw hs, ?_⟩
    rw [runSearch_inactive inactive]
    refine ⟨orderlyWithdraw_state s 0, rfl, rfl, ⟨_, (mem_framesBy.mp queued).1, rfl, rfl⟩,
      orderlyWithdraw_claims taking hr 0, fun c hc armed => ?_,
      fun c hc standing => ?_, orderlyWithdraw_announces taking 0, by simp, by simp, by simp, ?_, fun q hq => ?_,
      fun room => ?_, fun room => ?_⟩
    · exact ((withdrawnAt_orderlyWithdraw taking hr.tables.once (claimAt_of_mem hr.tables.once hc) 0).armed armed).2
    · exact claimAt_mem ((withdrawnAt_orderlyWithdraw taking hr.tables.once (claimAt_of_mem hr.tables.once hc) 0).standing standing)
    · constructor <;> simp
    · exact state_of_header (orderlyWithdraw_header hq 0)
    · exact orderlyWithdraw_notice taking room 0
    · exact orderlyWithdraw_faults taking room 0
  · rw [← withdrawingSet_iff_listed]
    refine ⟨fun other => congrArg Host.Outcome.next (if_neg fun ⟨hs, sound⟩ => ?_), fun hs sound =>
      ⟨_, exec_rejoin hs (Bool.eq_false_of_not_eq_true sound), ?_⟩⟩
    rotate_left
    · exact other.elim (· hs) (by rw [sound]; nofun)
    · obtain ⟨state, marks⟩ := enterListening_part s
      have line := line_of_lineRest (lineRest_enterListening s)
      refine ⟨state, marks, hasFrame_enterListening s, rfl, rfl, fun room => enterListening_notice hs room, by simp,
        by simp, by simp, by simp, by simp, line, ?_⟩
      constructor <;> simp

end

section
/-! SUPPORT. What a search adds to the transmit queue, to the claim table and to the counters (R104 to R110), and the bits of
the hall line as numbers and levels (R59, R63, R79). -/

namespace Sys2Proof.Laws

open Sys2Proof Sys2Proof.Machine Sys2Proof.Safety

variable {s t u : State} {f : OutFrame} {y : TxFrame} {k : Nat} {z : Claim}

/-! ### The frames of a search -/

theorem notAnnounce_noAnnounce : NoAnnounce (fun f => !f.isAnnounce) := fun _ hf => congrArg (!·) hf

/-- R70: an offer drops no frame but an ANNOUNCE. -/
theorem mem_tx_offerFrame_other (hy : y ∈ s.line.tx) (other : y.frame.isAnnounce = false) (f : OutFrame) :
    y ∈ (offerFrame s f).line.tx := by
  have mem : y ∈ framesBy (fun f => !f.isAnnounce) (offerFrame s f) := by
    rw [framesBy_offerFrame notAnnounce_noAnnounce]
    exact List.mem_append_left _ (mem_framesBy.mpr ⟨hy, by rw [other]; rfl⟩)
  exact (mem_framesBy.mp mem).1

/-- R70: the frame offered joins, unless it is an ANNOUNCE. -/
theorem mem_tx_offerFrame_self (other : f.isAnnounce = false) (s : State) : TxFrame.waiting f ∈ (offerFrame s f).line.tx := by
  have mem : TxFrame.waiting f ∈ framesBy (fun f => !f.isAnnounce) (offerFrame s f) := by
    rw [framesBy_offerFrame notAnnounce_noAnnounce, other]
    simp
  exact (mem_framesBy.mp mem).1

theorem queueClaim_eq_offerFrame (s : State) (k : Nat) (g : Target) (w : Urgency) :
    ∃ v : State, v.line = s.line ∧ v.counters = s.counters ∧ queueClaim s k g w = offerFrame v (.claim w k g.place) :=
  ⟨_, by simp, by simp, rfl⟩

/-- R110: a search queues CLAIM frames with their entries, and no others. -/
theorem mem_tx_runSearch_new (hy : y ∈ (runSearch s).line.tx) : y ∈ s.line.tx ∨ newClaimFrame y := by
  refine runSearch_induct (P := fun u => ∀ y ∈ u.line.tx, y ∈ s.line.tx ∨ newClaimFrame y) (fun y hy => .inl hy)
    (fun u j g w _ hu y hy => ?_) y hy
  obtain ⟨v, line, -, queued⟩ := queueClaim_eq_offerFrame u j g w
  rw [queued] at hy
  rcases mem_tx_offerFrame hy with hy | rfl
  · exact hu y (line ▸ hy)
  · exact .inr ⟨_, _, _, rfl⟩

/-- R70, R110: a search drops no frame but an ANNOUNCE. -/
theorem mem_tx_runSearch_other (hy : y ∈ s.line.tx) (other : y.frame.isAnnounce = false) : y ∈ (runSearch s).line.tx := by
  refine runSearch_induct (P := fun u => y ∈ u.line.tx) hy fun u j g w _ hu => ?_
  obtain ⟨v, line, -, queued⟩ := queueClaim_eq_offerFrame u j g w
  rw [queued]
  exact mem_tx_offerFrame_other (line ▸ hu) other _

/-! ### The counters of a search -/

theorem counted_offerFrame (s : State) (f : OutFrame) : Counted [.announceDropped] s.counters (offerFrame s f).counters := by
  have dropped : Counted [.announceDropped] s.counters (reportPlain s .announceDropped).counters :=
    (kept_reportPlain (kept_refl _ s) (List.mem_singleton_self _)).counted
  unfold offerFrame offerAnnounce offerOther
  split
  · split
    · exact dropped
    · exact .none
  · split
    · exact .none
    · split
      · exact dropped
      · exact .none

/-- R70: a search reports the ANNOUNCE frames that it drops, and nothing else. -/
theorem counted_runSearch (s : State) : Counted [.announceDropped] s.counters (runSearch s).counters :=
  runSearch_induct (P := fun u => Counted [.announceDropped] s.counters u.counters) .none fun u j g w _ hu => by
    obtain ⟨v, -, counters, queued⟩ := queueClaim_eq_offerFrame u j g w
    rw [queued]
    exact hu.trans (counters ▸ counted_offerFrame v _)

/-! ### The claims of a search -/

theorem reachable_congr (config : t.config = s.config) (loop : t.loop = s.loop) (k : Nat) : reachable t k = reachable s k := by
  unfold reachable slotPosition
  rw [divertPos_of_config config, timing_of_config config, loopLen_of_config config, pitch_of_config config, loop]

theorem viewAt_congr (view : t.view = s.view) (k : Nat) : t.viewAt k = s.viewAt k := by
  unfold State.viewAt
  rw [view]

/-- R105, R110: an entry that a search finds is there before it, or is QUEUED, of a candidate slot, in an ACTIVE station. -/
theorem claimAt_runSearch (none : s.claimAt k = none) (hz : (runSearch s).claimAt k = some z) :
    z = ⟨k, z.target, z.urgency, .queued, .none, .none, false, false⟩ ∧ s.part.state = .active ∧ s.contest.searchDue = true ∧
      (s.viewAt k).isFree = true ∧ reachable s k = true := by
  have fresh : ∀ z, (runSearch s).claimAt k = some z → z = ⟨k, z.target, z.urgency, .queued, .none, .none, false, false⟩ := by
    refine runSearch_induct (P := fun u => ∀ z, u.claimAt k = some z →
      z = ⟨k, z.target, z.urgency, .queued, .none, .none, false, false⟩) (fun z hz => ?_) fun u j g w _ hu z hz => ?_
    · cases none.symm.trans hz
    · rw [State.claimAt, queueClaim_claims, List.find?_append] at hz
      rcases Option.or_eq_some_iff.mp hz with old | ⟨-, new⟩
      · exact hu z old
      · obtain ⟨slot, mem⟩ := And.intro (List.find?_some new) (List.mem_of_find?_eq_some new)
        obtain rfl := List.mem_singleton.mp mem
        obtain rfl := of_decide_eq_true slot
        rfl
  have active : s.part.state = .active := by
    by_contra other
    rw [runSearch_inactive other] at hz
    cases none.symm.trans hz
  have due : s.contest.searchDue = true := by
    by_contra quiet
    rw [runSearch_quiet (Bool.eq_false_of_not_eq_true quiet)] at hz
    cases none.symm.trans hz
  have candidate : isCandidate s k = true := by
    by_contra other
    cases (runSearch_claimAt_none none (Bool.eq_false_of_not_eq_true other)).symm.trans hz
  refine ⟨fresh z hz, active, due, ?_⟩
  unfold isCandidate at candidate
  split at candidate
  next view => exact ⟨by rw [view]; rfl, (Bool.and_eq_true_iff.mp candidate).1⟩
  next => cases candidate

/-! ### The bits of bytes (R59) -/

theorem lineBit_append {bytes : List Byte} {i : Nat} (rest : List Byte) (hi : i < 8 * bytes.length) :
    lineBit (bytes ++ rest) i = lineBit bytes i := by
  unfold lineBit
  rw [List.getD_append _ _ _ _ (by omega)]

/-- The bits of some bytes are those of the number that they form, the most significant first. -/
theorem lineBit_eq_testBit (bytes : List Byte) {i : Nat} (hi : i < 8 * bytes.length) :
    lineBit bytes i = (bytesToNat bytes).testBit (8 * bytes.length - 1 - i) := by
  induction bytes using List.reverseRecOn with
  | nil => cases hi
  | append_singleton bytes b ih =>
    have bound := b.isLt
    rw [List.length_append, List.length_singleton] at hi ⊢
    rw [bytesToNat_concat, Nat.mul_comm, show 256 = 2 ^ 8 from rfl, Nat.testBit_two_pow_mul_add _ bound]
    by_cases last : i < 8 * bytes.length
    · rw [lineBit_append _ last, ih last, if_neg (by omega)]
      congr 1
      omega
    · have byte : i / 8 = bytes.length := by omega
      have bit : 8 * (bytes.length + 1) - 1 - i = 8 - 1 - i % 8 := by omega
      rw [if_pos (by omega), lineBit, byte, List.getD_append_right _ _ _ _ le_rfl, Nat.sub_self, List.getD_cons_zero, bit]
      simp [BitVec.getMsbD, BitVec.getLsbD, Nat.mod_lt]

theorem keyBits_le (kind : Nat) : 8 ≤ keyBits kind ∧ keyBits kind ≤ 19 := by
  unfold keyBits
  split <;> decide

/-- A number whose bits are all bits of another one is no greater. -/
theorem le_of_testBit {a b : Nat} (h : ∀ j, a.testBit j = true → b.testBit j = true) : a ≤ b := by
  have both : a &&& b = a := Nat.eq_of_testBit_eq fun j => by
    rw [Nat.testBit_and]
    cases bit : a.testBit j
    · rfl
    · rw [h j bit]; rfl
  exact both ▸ Nat.and_le_right

theorem lostArbitration_iff {kind : Nat} {sent read : List Byte} : lostArbitration kind sent read = true ↔
    ∃ i, i < keyBits kind ∧ lineBit sent i = true ∧ lineBit read i = false := by
  simp [lostArbitration, overridden]

theorem lostArbitration_self (kind : Nat) (sent : List Byte) : lostArbitration kind sent sent = false := by
  rw [Bool.eq_false_iff, ne_eq, lostArbitration_iff]
  rintro ⟨i, -, high, low⟩
  exact Bool.noConfusion (high.symm.trans low)

/-- The first n bits of three bytes or more, as a number. -/
theorem testBit_key {bytes : List Byte} {n j : Nat} (len : 3 ≤ bytes.length) (hn : n ≤ 24) (hj : j < n) :
    (bytesToNat (bytes.take 3) / 2 ^ (24 - n)).testBit j = lineBit bytes (n - 1 - j) := by
  have three : (bytes.take 3).length = 3 := by rw [List.length_take]; omega
  have bit : lineBit bytes (n - 1 - j) = lineBit (bytes.take 3) (n - 1 - j) := by
    conv_lhs => rw [← List.take_append_drop 3 bytes]
    exact lineBit_append _ (by omega)
  rw [bit, lineBit_eq_testBit _ (by omega), three, Nat.testBit_div_two_pow]
  congr 1
  omega

theorem bytesToNat_lt (bytes : List Byte) : bytesToNat bytes < 256 ^ bytes.length := by
  rw [← natBytes_bytesToNat bytes, bytesToNat_natBytes, length_natBytes]
  exact Nat.mod_lt _ (by positivity)

/-- R63: the smaller key wins. -/
theorem lostArbitration_of_key_lt {kind : Nat} {sent read : List Byte} (hs : 3 ≤ sent.length) (hr : 3 ≤ read.length)
    (less : bytesToNat (read.take 3) / 2 ^ (24 - keyBits kind) < bytesToNat (sent.take 3) / 2 ^ (24 - keyBits kind)) :
    lostArbitration kind sent read = true := by
  obtain ⟨-, upper⟩ := keyBits_le kind
  by_contra kept
  rw [lostArbitration_iff] at kept
  refine absurd (le_of_testBit fun j high => ?_) (Nat.not_le.mpr less)
  by_cases inside : j < keyBits kind
  · rw [testBit_key hs (by omega) inside] at high
    rw [testBit_key hr (by omega) inside]
    by_contra low
    exact kept ⟨_, by omega, high, Bool.eq_false_of_not_eq_true low⟩
  · have small : bytesToNat (sent.take 3) / 2 ^ (24 - keyBits kind) < 2 ^ keyBits kind := by
      have bound := bytesToNat_lt (sent.take 3)
      rw [List.length_take, Nat.min_eq_left hs] at bound
      rw [Nat.div_lt_iff_lt_mul (by positivity), ← Nat.pow_add, show keyBits kind + (24 - keyBits kind) = 24 by omega]
      exact bound
    have big := Nat.pow_le_pow_right (Nat.two_pos) (Nat.not_lt.mp inside)
    rw [Nat.testBit_lt_two_pow (Nat.lt_of_lt_of_le small big)] at high
    cases high

/-! ### Levels and the stuck timer (R79) -/

/-- R79: halted where the last level is recessive, at zero where it is dominant after a recessive one, and run on else. -/
theorem timedBy_eq (timer : Option Nat) (levels : List Bool) : timedBy timer levels =
    if levels.getLast? = some true then none
    else if true ∈ levels then some 0
    else if levels = [] then timer else some (timer.getD 0) := by
  induction levels using List.reverseRecOn with
  | nil => rfl
  | append_singleton levels b ih =>
    cases b with
    | true => simp [timedBy_concat_recessive]
    | false =>
      rw [timedBy_concat_dominant, ih]
      by_cases ends : levels.getLast? = some true
      · simp [ends, List.mem_of_getLast? ends]
      · by_cases mem : true ∈ levels
        · simp [ends, mem]
        · by_cases none : levels = [] <;> simp [ends, mem, none]

end Sys2Proof.Laws
end

section
/-! SUPPORT. The end of the arbitration key (R63, R67, R72): an attempt that becomes a send, and one that is lost. -/

namespace Sys2Proof.Laws

open Sys2Proof Sys2Proof.Machine Sys2Proof.Safety

variable {s t u : State} {a : Attempt} {x y : TxFrame} {read : List Byte} {k : Nat} {c z : Claim}

/-- The state with the stuck timer told the levels of the key. -/
def keyTimed (s : State) (a : Attempt) (read : List Byte) : State := timeLevels s (dataLevels (keyBits a.sent.kind) read)

/-- The stuck timer after the levels of some bits. -/
theorem timedBy_dataLevels (timer : Option Nat) {n : Nat} (hn : 0 < n) (read : List Byte) :
    timedBy timer (dataLevels n read) = if lineBit read (n - 1) = true then none
      else if ∃ i, i < n ∧ lineBit read i = true then some 0 else some (timer.getD 0) := by
  obtain ⟨m, rfl⟩ := Nat.exists_eq_add_of_lt hn
  rw [Nat.zero_add]
  have last : (dataLevels (m + 1) read).getLast? = some (lineBit read m) := by
    rw [dataLevels, List.range_succ, List.map_append]
    simp
  have mem : true ∈ dataLevels (m + 1) read ↔ ∃ i, i < m + 1 ∧ lineBit read i = true := by simp [dataLevels]
  have nonempty : dataLevels (m + 1) read ≠ [] := by simp [dataLevels, List.range_succ]
  rw [timedBy_eq, last, if_neg nonempty]
  simp only [mem, Option.some.injEq, Nat.add_sub_cancel]

/-! ### The row by the decision of the key -/

theorem arbitrationEnd_idle (h : s.line.attempt = none ∨ ∃ a, s.line.attempt = some a ∧ a.won = true) :
    arbitrationEnd s read = s := by
  unfold arbitrationEnd
  rcases h with none | ⟨a, some, won⟩
  · rw [none]
  · rw [some]
    cases frameInAttempt s with
    | none => rfl
    | some x => exact if_pos won

theorem arbitrationEnd_kept (ha : s.line.attempt = some a) (undecided : a.won = false) (hx : frameInAttempt s = some x)
    (kept : lostArbitration a.sent.kind a.sent.bytes read = false) :
    arbitrationEnd s read = setAttempt (beginSend (keyTimed s a read) x) (some { a with won := true }) := by
  unfold arbitrationEnd
  rw [ha, hx]
  simp [undecided, kept, keyTimed]

theorem arbitrationEnd_lost (ha : s.line.attempt = some a) (undecided : a.won = false) (hx : frameInAttempt s = some x)
    (lost : lostArbitration a.sent.kind a.sent.bytes read = true) :
    arbitrationEnd s read = runSearch (loseAttempt (setAttempt (keyTimed s a read) none) x) := by
  unfold arbitrationEnd
  rw [ha, hx]
  simp [undecided, lost, keyTimed]

/-! ### A send begins (R67) -/

/-- The state once the frame of a first send is SENDING. -/
def firstSend (s : State) (a : Attempt) (read : List Byte) : State := s.setLine { s.line with
  stuckTimer := timedBy s.line.stuckTimer (dataLevels (keyBits a.sent.kind) read)
  attempt := some { a with won := true }
  repeatCount := 1
  tx := modifyFirst (·.inAttempt) (fun y => { y with sending := true, withdrawAsked := false }) s.line.tx }

theorem setAttempt_claimBeginsSend (s : State) (x : TxFrame) (o : Option Attempt) :
    setAttempt (claimBeginsSend s x) o = claimBeginsSend (setAttempt s o) x := by
  unfold claimBeginsSend
  split
  · split <;> rfl
  · rfl

theorem beginSend_first (waiting : x.sending = false) :
    setAttempt (beginSend (keyTimed s a read) x) (some { a with won := true }) = claimBeginsSend (firstSend s a read) x := by
  rw [beginSend, if_neg (by rw [waiting]; nofun), setAttempt_claimBeginsSend]
  rfl

theorem claimBeginsSend_orphaned {w : Urgency} {p : PlaceId} (hx : x.frame = .claim w k p) (orphaned : x.orphaned = true) :
    claimBeginsSend s x = addOrphan s k := by
  unfold claimBeginsSend
  rw [hx]
  exact if_pos orphaned

theorem claimBeginsSend_entry {w : Urgency} {p : PlaceId} (hx : x.frame = .claim w k p) (entry : x.orphaned = false) :
    claimBeginsSend s x = modifyClaim s k (fun c => { c with state := .sending }) := by
  unfold claimBeginsSend
  rw [hx]
  exact if_neg (by rw [entry]; nofun)

theorem beginSend_again (sending : x.sending = true) :
    setAttempt (beginSend (keyTimed s a read) x) (some { a with won := true }) = (s.setLine { s.line with
      stuckTimer := timedBy s.line.stuckTimer (dataLevels (keyBits a.sent.kind) read)
      attempt := some { a with won := true }
      repeatCount := s.line.repeatCount + 1 }).setCounters (report s .frameRepeated none x.frame.place?).counters := by
  rw [beginSend, if_pos sending]
  rfl

/-! ### An attempt lost (R63, R72) -/

/-- The state once a lost attempt has left the queue to the frame's withdrawal. -/
def attemptOver (s : State) (a : Attempt) (read : List Byte) (q : List TxFrame) : State := s.setLine { s.line with
  stuckTimer := timedBy s.line.stuckTimer (dataLevels (keyBits a.sent.kind) read)
  attempt := none
  tx := q }

theorem loseAttempt_stays (h : x.withdrawAsked = false ∨ x.sending = true) : loseAttempt (setAttempt (keyTimed s a read) none) x =
    attemptOver s a read (modifyFirst (·.inAttempt) (fun y => { y with inAttempt := false }) s.line.tx) := by
  rw [loseAttempt, if_neg (by rcases h with h | h <;> simp [h])]
  rfl

/-- R72, R104: the state after the frame x, withdrawn at a lost key, has left the queue. -/
def frameWithdrawn (s : State) (a : Attempt) (read : List Byte) (x : TxFrame) : State :=
  tellWithdrawn (attemptOver s a read (s.line.tx.eraseP (·.inAttempt))) x

theorem loseAttempt_leaves (asked : x.withdrawAsked = true) (waiting : x.sending = false) :
    loseAttempt (setAttempt (keyTimed s a read) none) x = frameWithdrawn s a read x := by
  rw [loseAttempt, if_pos (by simp [asked, waiting])]
  rfl

theorem tellWithdrawn_announce {n : Nat} {i : CaseId} (hx : x.frame = .announce n i) :
    tellWithdrawn s x = reportPlain s .announceDropped := by
  unfold tellWithdrawn
  rw [hx]

theorem tellWithdrawn_none {w : Urgency} {p : PlaceId} (hx : x.frame = .claim w k p) (none : s.claimAt k = none) :
    tellWithdrawn s x = s := by
  unfold tellWithdrawn
  rw [hx]
  simp [none]

theorem tellWithdrawn_entry {w : Urgency} {p : PlaceId} (hx : x.frame = .claim w k p) (entry : x.orphaned = false)
    (hc : s.claimAt k = some c) :
    tellWithdrawn s x = cancelTest (leaveWithEnd s c (c.pendingEnd.getD .lost)) c.target.place := by
  unfold tellWithdrawn
  rw [hx]
  simp [hc, entry]

/-- A frame that is no CLAIM is withdrawn without a word to the Contest Unit. -/
theorem tellWithdrawn_contest (hx : ∀ w k p, x.frame ≠ .claim w k p) : (tellWithdrawn s x).contest = s.contest := by
  unfold tellWithdrawn
  split
  next => simp
  next frame => exact absurd frame (hx _ _ _)
  next => rfl

theorem tellWithdrawn_claimAt {w : Urgency} {p : PlaceId} (hx : x.frame = .claim w k p) (entry : x.orphaned = false) :
    (tellWithdrawn s x).claimAt k = none := by
  cases hc : s.claimAt k with
  | none => rwa [tellWithdrawn_none hx hc]
  | some c =>
    rw [tellWithdrawn_entry hx entry hc, claimAt_cancelTest]
    exact claimAt_without_self (claimAt_slot hc ▸ leaveWithEnd_claims s c _)

/-- R124: the report that an entry makes as it leaves is counted, whatever search follows. -/
theorem countedOnce_leaves {e : PendingEnd} {v : State} (counters : s.counters = v.counters) :
    (e = .lost → CountedOnce v (runSearch (cancelTest (leaveWithEnd s c e) c.target.place)) .claimLost c.target.place) ∧
      (e = .expired → CountedOnce v (runSearch (cancelTest (leaveWithEnd s c e) c.target.place)) .claimExpired c.target.place) := by
  have search := counted_runSearch (cancelTest (leaveWithEnd s c e) c.target.place)
  have left : (cancelTest (leaveWithEnd s c e) c.target.place).counters = (reportEnd s c e).counters := by
    simp [leaveWithEnd]
  rw [left] at search
  refine ⟨?_, ?_⟩ <;> rintro rfl <;>
    exact countedOnce_between (E := [.announceDropped]) (by decide) (counters ▸ .none) search

/-! ### The search after a lost attempt -/

/-- Nothing is searched where the station is not ACTIVE, or where no reason was met. -/
theorem runSearch_still (h : s.part.state ≠ .active ∨ s.contest.searchDue = false) :
    (runSearch s).line = s.line ∧ (runSearch s).counters = s.counters ∧ (runSearch s).contest.claims = s.contest.claims ∧
      (runSearch s).plans = s.plans := by
  rcases h with h | h
  · rw [runSearch_inactive h]
    exact ⟨rfl, rfl, rfl, rfl⟩
  · rw [runSearch_quiet h]
    exact ⟨rfl, rfl, rfl, rfl⟩

theorem frameWithdrawn_line (s : State) (a : Attempt) (read : List Byte) (x : TxFrame) :
    (frameWithdrawn s a read x).line = (attemptOver s a read (s.line.tx.eraseP (·.inAttempt))).line := by
  simp [frameWithdrawn]

/-- Without an ACTIVE station or a CLAIM that leaves, the queue is what the frame left. -/
theorem frameWithdrawn_still (still : s.part.state ≠ .active ∨ s.contest.searchDue = false)
    (h : s.part.state ≠ .active ∨ ∀ w k p, x.frame ≠ .claim w k p) :
    (frameWithdrawn s a read x).part.state ≠ .active ∨ (frameWithdrawn s a read x).contest.searchDue = false := by
  have state : (frameWithdrawn s a read x).part.state = s.part.state := by simp [frameWithdrawn, attemptOver]
  rw [state]
  rcases still with still | quiet
  · exact .inl still
  · refine h.imp_right fun other => ?_
    rw [frameWithdrawn, tellWithdrawn_contest other]
    exact quiet

/-- R112, R124: the report of the entry that leaves with its frame. -/
theorem frameWithdrawn_counted {w : Urgency} {p : PlaceId} (hx : x.frame = .claim w k p) (entry : x.orphaned = false)
    (hc : s.claimAt k = some c) :
    (c.pendingEnd = none ∨ c.pendingEnd = some .lost →
        CountedOnce s (runSearch (frameWithdrawn s a read x)) .claimLost c.target.place) ∧
      (c.pendingEnd = some .expired →
        CountedOnce s (runSearch (frameWithdrawn s a read x)) .claimExpired c.target.place) := by
  have found : (attemptOver s a read (s.line.tx.eraseP (·.inAttempt))).claimAt k = some c := hc
  obtain ⟨lost, expired⟩ := countedOnce_leaves (s := attemptOver s a read (s.line.tx.eraseP (·.inAttempt))) (c := c)
    (e := c.pendingEnd.getD .lost) (v := s) rfl
  rw [frameWithdrawn, tellWithdrawn_entry hx entry found]
  exact ⟨fun ended => lost (by rcases ended with ended | ended <;> rw [ended] <;> rfl), fun ended => expired (by rw [ended]; rfl)⟩

end Sys2Proof.Laws

open Sys2Proof Sys2Proof.Machine Sys2Proof.Safety Sys2Proof.Laws

/-- Settles O51: the bits of the keys as numbers, and the row by the decision of the key and by what its frame was asked. -/
theorem arbitrationDecides : Obligations.ArbitrationDecides := by
  refine ⟨fun f g => ⟨lostArbitration_self _ _, fun hf hg less => lostArbitration_of_key_lt hf hg less⟩, fun s read =>
    ⟨fun idle => congrArg _ (arbitrationEnd_idle idle), fun a x ha undecided hx => ?_⟩⟩
  have bits := (keyBits_le a.sent.kind).1
  rw [← timedBy_dataLevels s.line.stuckTimer (by omega) read]
  rw [← lostArbitration_iff]
  refine ⟨fun kept waiting => ?_, fun kept sending => ?_, fun lost stays quiet => ?_, fun lost asked waiting still => ?_⟩
  · refine ⟨claimBeginsSend (firstSend s a read) x, ?_, by simp; rfl, fun w k p hf => ⟨fun orphaned => ?_,
      fun entry c hc => ?_⟩, ?_, by simp [firstSend], by simp [firstSend], by simp [firstSend], by simp [firstSend]⟩
    · exact congrArg Host.Outcome.next
        ((arbitrationEnd_kept ha undecided hx (Bool.eq_false_of_not_eq_true kept)).trans (beginSend_first waiting))
    · rw [claimBeginsSend_orphaned hf orphaned]
      rfl
    · rw [claimBeginsSend_entry hf entry]
      exact claimAt_modified hc fun _ => rfl
    · constructor <;> simp [firstSend]
  · refine (congrArg Host.Outcome.next
      ((arbitrationEnd_kept ha undecided hx (Bool.eq_false_of_not_eq_true kept)).trans (beginSend_again sending))).trans ?_
    cases x.frame <;> rfl
  · refine congrArg Host.Outcome.next ((arbitrationEnd_lost ha undecided hx lost).trans ?_)
    rw [loseAttempt_stays stays]
    exact runSearch_quiet quiet
  · have rest : lineRest (runSearch (frameWithdrawn s a read x)) = lineRest (attemptOver s a read _) :=
      (lineRest_runSearch _).trans (lineRest_congr (frameWithdrawn_line s a read x))
    have left : (frameWithdrawn s a read x).line.tx = s.line.tx.eraseP (·.inAttempt) :=
      congrArg (·.tx) (frameWithdrawn_line s a read x)
    refine ⟨runSearch (frameWithdrawn s a read x), ?_, congrArg (·.attempt) rest, congrArg (·.stuckTimer) rest, ?_,
      by simp [frameWithdrawn, attemptOver], by simp [frameWithdrawn, attemptOver], fun other => ?_, fun n i hf => ?_,
      fun y hy => ?_, fun y hy other => ?_, fun w k p hf entry => ⟨fun z hz => ?_, fun c hc =>
        frameWithdrawn_counted hf entry hc⟩⟩
    · rw [← loseAttempt_leaves asked waiting]
      exact congrArg Host.Outcome.next (arbitrationEnd_lost ha undecided hx lost)
    · constructor <;> simp [frameWithdrawn, attemptOver]
    · rw [(runSearch_still (frameWithdrawn_still still other)).1, left]
    · obtain ⟨-, counters, claims, -⟩ :=
        runSearch_still (frameWithdrawn_still (read := read) (a := a) (x := x) still (.inr (by simp [hf])))
      rw [counters, claims, frameWithdrawn, tellWithdrawn_announce hf]
      exact ⟨rfl, rfl⟩
    · rw [← left]
      exact mem_tx_runSearch_new hy
    · rw [← left] at hy
      exact mem_tx_runSearch_other hy other
    · obtain ⟨fresh, active, -, free, near⟩ := claimAt_runSearch (tellWithdrawn_claimAt hf entry) hz
      rw [viewAt_congr (s := s) (by simp [attemptOver])] at free
      rw [reachable_congr (s := s) (by simp [attemptOver]) (by simp [attemptOver])] at near
      exact ⟨fresh, by simpa [frameWithdrawn, attemptOver] using active, free, near⟩

end

section
/-! SUPPORT. The end of a frame's check byte (R65, R66, R78): a heard frame answered, an own send judged, and the eighth error
in a row. -/

namespace Sys2Proof.Laws

open Sys2Proof Sys2Proof.Machine Sys2Proof.Safety

variable {s t u : State} {a : Attempt} {bytes : List Byte} {bad : Bool} {code : Nat}

/-- A frame may be received: the line is FREE or CARRYING (R58). -/
def Receives (s : State) : Prop := s.line.state = .free ∨ s.line.state = .carrying

theorem frameReceived_deaf (h : ¬Receives s) : frameReceived s bytes bad = s := by
  unfold frameReceived
  cases state : s.line.state with
  | off | seeking => rfl
  | free => exact absurd (.inl state) h
  | carrying => exact absurd (.inr state) h

theorem frameReceived_heard (on : Receives s) (noAttempt : s.line.attempt = none) (noAnswer : s.line.answer = none) :
    frameReceived s bytes bad = runSearch (receiveHeard (timeFrame s bytes bad) bytes bad) := by
  unfold frameReceived
  rw [noAttempt, noAnswer]
  rcases on with on | on <;> rw [on] <;> rfl

theorem frameReceived_own (on : Receives s) (ha : s.line.attempt = some a) (won : a.won = true) (unjudged : a.ownRefuse = none) :
    frameReceived s bytes bad = judgeOwn (timeFrame s bytes bad) a (bad || bitErrorAfterKey a.sent.kind a.sent.bytes bytes) := by
  unfold frameReceived
  rw [ha]
  rcases on with on | on <;> rw [on] <;> exact if_pos (by rw [won, unjudged]; rfl)

/-- The stuck timer after the levels of a frame (log 30). -/
theorem timedBy_frameLevels (timer : Option Nat) (bytes : List Byte) (bad : Bool) :
    timedBy timer (frameLevels bytes bad) =
      if bad = false ∨ (dataLevels (8 * bytes.length) bytes).getLast? = some true then none
      else if true ∈ dataLevels (8 * bytes.length) bytes then some 0
      else if dataLevels (8 * bytes.length) bytes = [] then timer else some (timer.getD 0) := by
  unfold frameLevels
  cases bad with
  | false => simp [timedBy_concat_recessive]
  | true => simp [timedBy_eq]

theorem wholeFrame_iff : wholeFrame bytes bad = true ↔
    bad = false ∧ bytes.length = frameDataLength (frameKind bytes) + 1 ∧ byteSum bytes % 256 = 255 := by
  simp [wholeFrame, frameCheckOk, and_assoc]

/-- R66: an own send is judged by its bits and by the room for it. -/
theorem judgeOwn_timeFrame (a : Attempt) (bitError : Bool) {place : Option PlaceId} (hp : a.sent.place? = place) :
    judgeOwn (timeFrame s bytes bad) a bitError =
      if bitError || decide (8 ≤ s.line.rx.length) then
        report (s.setLine { s.line with
          stuckTimer := timedBy s.line.stuckTimer (frameLevels bytes bad)
          attempt := some { a with ownRefuse := some (bitError || decide (8 ≤ s.line.rx.length)) } })
          .frameRefusedByMe (some s.ownId) place
      else s.setLine { s.line with
        stuckTimer := timedBy s.line.stuckTimer (frameLevels bytes bad)
        attempt := some { a with ownRefuse := some (bitError || decide (8 ≤ s.line.rx.length)) } } := by
  subst hp
  rfl

/-! ### The eighth error in a row (R78) -/

/-- The state of a broken frame answered REFUSE, with the number of errors in a row. -/
def refused (s : State) (bytes : List Byte) (bad : Bool) (errors : Nat) : State := (s.setLine { s.line with
  state := .carrying
  recessiveRun := 0
  stuckTimer := timedBy s.line.stuckTimer (frameLevels bytes bad)
  checkErrors := errors
  answer := some .refuse }).setCounters (report s .frameRefusedByMe none none).counters

theorem receiveBroken_few (few : s.line.checkErrors + 1 < 8) :
    receiveBroken (timeFrame s bytes bad) = refused s bytes bad (s.line.checkErrors + 1) := if_pos few

theorem receiveBroken_eighth (many : 8 ≤ s.line.checkErrors + 1) :
    receiveBroken (timeFrame s bytes bad) = raiseImmediate (refused s bytes bad 0) .rxErrors := if_neg (Nat.not_lt.mpr many)

theorem receiveWhole_room {f : Frame} (room : s.line.rx.length < 8) : receiveWhole (timeFrame s bytes bad) f =
    s.setLine { s.line with
      state := .carrying
      recessiveRun := 0
      stuckTimer := timedBy s.line.stuckTimer (frameLevels bytes bad)
      checkErrors := 0
      rx := s.line.rx ++ [⟨f, false⟩]
      answer := some .accept } := if_pos room

theorem receiveWhole_full {f : Frame} (full : 8 ≤ s.line.rx.length) : receiveWhole (timeFrame s bytes bad) f =
    report (s.setLine { s.line with
      state := .carrying
      recessiveRun := 0
      stuckTimer := timedBy s.line.stuckTimer (frameLevels bytes bad)
      checkErrors := 0
      answer := some .refuse }) .frameRefusedByMe (some f.sender) none := if_neg (Nat.not_lt.mpr full)

/-- What an immediate withdrawal leaves of a state, of one that differs in blocks that it does not speak of. -/
theorem withdrawnAtOnce_of_before (h : WithdrawnAtOnce u t code) (same : u.line.tx = s.line.tx ∧ u.contest = s.contest ∧
    u.view = s.view ∧ u.divert = s.divert ∧ u.staging = s.staging ∧ u.config = s.config ∧ u.pins = s.pins ∧
    u.pending = s.pending ∧ u.port = s.port) {E : List CounterEvent} (hE : .missed ∉ E)
    (counted : Counted E s.counters u.counters) : WithdrawnAtOnce s t code := by
  obtain ⟨tx, contest, view, divert, staging, config, pins, pending, port⟩ := same
  have entry : ∀ k, u.claimAt k = s.claimAt k := fun k => claimAt_congr (by rw [contest]) k
  exact {
    state := h.state, output := h.output, fire := h.fire, claims := h.claims, frame := h.frame
    view := view ▸ h.view
    staging := h.staging.trans staging
    config := h.config.trans config
    pins := h.pins.trans pins
    pending := h.pending.trans pending
    released := fun k c hc => h.released k c ((entry k).trans hc)
    missed := fun k c hc => h.missed k c ((entry k).trans hc)
    queued := fun k c hc => h.queued k c ((entry k).trans hc)
    orphans := fun k => by rw [h.orphans, contest, entry]
    window := fun f n hf hn => by
      obtain ⟨once, told⟩ := h.window f n (divert ▸ hf) hn
      refine ⟨fun i hi => ?_, port ▸ told⟩
      have silent := counted.silent hi.1 hE
      rw [← silent]
      exact once i (by unfold countsAt; rwa [silent]) }

theorem withdrawnAtOnce_raiseImmediate (s : State) (f : FaultId) : WithdrawnAtOnce s (raiseImmediate s f) f.code :=
  withdrawnAtOnce_immediateWithdraw (noticed_recordFault (noticed_refl s) (Nat.le_succ _) f 0) f.code

theorem withdrawnAtOnce_searched (h : WithdrawnAtOnce s t code) {E : List CounterEvent} (kept : Kept E s t) :
    WithdrawnAtOnce s (runSearch t) code :=
  withdrawnAtOnce_afterwards h kept (afterwards_runSearch (by rw [h.state]; nofun))

/-- R78: the eighth error withdraws the station at once. -/
theorem withdrawnAtOnce_rxErrors (s : State) (bytes : List Byte) (bad : Bool) :
    WithdrawnAtOnce s (runSearch (raiseImmediate (refused s bytes bad 0) .rxErrors)) 5 := by
  have withdrawn := withdrawnAtOnce_raiseImmediate (refused s bytes bad 0) .rxErrors
  have counted : Counted [.frameRefusedByMe] s.counters (refused s bytes bad 0).counters :=
    (kept_report (kept_refl _ s) (List.mem_singleton_self _) none none).counted
  have searched := withdrawnAtOnce_searched withdrawn
    (kept_raiseImmediate (E := rowEvents) rows_claimEvents (by decide) (kept_refl _ _) _)
  exact withdrawnAtOnce_of_before searched ⟨rfl, rfl, rfl, rfl, rfl, rfl, rfl, rfl, rfl⟩ (by decide) counted

/-- What the eighth error leaves: the line but for its queue as answered, the belt, the fault, and the withdrawal. -/
theorem eighthError (s : State) (bytes : List Byte) (bad : Bool) :
    let t := runSearch (raiseImmediate (refused s bytes bad 0) .rxErrors)
    lineRest t = lineRest (refused s bytes bad 0) ∧ t.loop = s.loop ∧ t.gate = s.gate ∧
      t.fault .rxErrors = ⟨true, false, false⟩ ∧ WithdrawnAtOnce s t 5 := by
  refine ⟨by simp, by simp [refused], by simp [refused], ?_, withdrawnAtOnce_rxErrors s bytes bad⟩
  rw [fault_of_part (runSearch_part _)]
  exact raiseImmediate_fault _ (by decide)

end Sys2Proof.Laws

open Sys2Proof Sys2Proof.Machine Sys2Proof.Safety Sys2Proof.Laws

/-- Settles O52: by what the end of the check byte meets: a line that does not receive, a heard frame that is whole or not, or an
own send. -/
theorem framesReceivedAndAnswered : Obligations.FramesReceivedAndAnswered := by
  intro s bytes bad
  have levels := timedBy_frameLevels s.line.stuckTimer bytes bad
  unfold dataLevels at levels
  dsimp only
  rw [← levels, ← wholeFrame_iff]
  refine ⟨fun deaf => congrArg _ (frameReceived_deaf deaf), fun on noAttempt noAnswer quiet => ?_,
    fun a on ha won unjudged => ?_⟩
  · have row : exec (.frameReceived bytes bad) s = .next (runSearch (receiveHeard (timeFrame s bytes bad) bytes bad)) :=
      congrArg Host.Outcome.next (frameReceived_heard on noAttempt noAnswer)
    rw [row]
    refine ⟨fun whole room => ?_, fun whole full => ?_, fun broken few => ?_, fun broken many => ?_⟩
    · rw [receiveHeard, if_pos whole, receiveWhole_room room]
      exact congrArg _ (runSearch_quiet quiet)
    · rw [receiveHeard, if_pos whole, receiveWhole_full full]
      exact congrArg _ (runSearch_quiet quiet)
    · rw [receiveHeard, if_neg broken, receiveBroken_few few]
      exact congrArg _ (runSearch_quiet quiet)
    · rw [receiveHeard, if_neg broken, receiveBroken_eighth many]
      obtain ⟨rest, loop, gate, fault, withdrawn⟩ := eighthError s bytes bad
      generalize runSearch (raiseImmediate (refused s bytes bad 0) .rxErrors) = t at *
      exact ⟨_, rfl, congrArg (·.checkErrors) rest, congrArg (·.answer) rest, congrArg (·.stuckTimer) rest,
        congrArg (·.rx) rest, loop, gate, fault, withdrawn⟩
  · have row : exec (.frameReceived bytes bad) s = .next (judgeOwn (timeFrame s bytes bad) a
        (bad || bitErrorAfterKey a.sent.kind a.sent.bytes bytes)) :=
      congrArg Host.Outcome.next (frameReceived_own on ha won unjudged)
    refine row.trans (congrArg _ (judgeOwn_timeFrame a _ ?_))
    cases a.sent <;> rfl

end

section
/-! SUPPORT. The handling of a frame leaves the line apart from its transmit queue. -/

namespace Sys2Proof.Laws

open Sys2Proof Sys2Proof.Machine Sys2Proof.Safety

variable {s t : State}

@[simp] theorem lineRest_setViewEntry (s : State) (k : Nat) (e : ViewEntry) : lineRest (setViewEntry s k e) = lineRest s := rfl

@[simp] theorem lineRest_reportPlace (s : State) (e : CounterEvent) (p : PlaceId) : lineRest (reportPlace s e p) = lineRest s :=
  lineRest_congr (by simp)

@[simp] theorem lineRest_reportSender (s : State) (e : CounterEvent) (i : Station) :
    lineRest (reportSender s e i) = lineRest s := lineRest_congr (by simp)

@[simp] theorem lineRest_markSearch (s : State) : lineRest (markSearch s) = lineRest s := rfl

/-! ### Causes of loss and the own CLAIM -/

@[simp] theorem lineRest_lossCause (s : State) (k : Nat) : lineRest (lossCause s k) = lineRest s := lineRest_endAndTest s k _

@[simp] theorem lineRest_othersTaken (s : State) (k : Nat) : lineRest (othersTaken s k) = lineRest s := by
  unfold othersTaken
  split
  · rfl
  · split <;> simp

@[simp] theorem lineRest_disputeClaim (s : State) (k : Nat) : lineRest (disputeClaim s k) = lineRest s := by
  unfold disputeClaim
  split
  · rfl
  · split <;> simp

@[simp] theorem lineRest_orphanHandled (s : State) (k : Nat) (before : ViewEntry) :
    lineRest (orphanHandled s k before) = lineRest s := by
  unfold orphanHandled
  dsimp only
  split
  case h_1 | h_2 => exact (lineRest_offerFrame _ _).trans rfl
  all_goals rfl

@[simp] theorem lineRest_loseClaim (s : State) (c : Claim) : lineRest (loseClaim s c) = lineRest s := by
  unfold loseClaim
  split <;> simp

@[simp] theorem lineRest_winAndRelease (s : State) (c : Claim) (r : ReleaseReason) :
    lineRest (winAndRelease s c r) = lineRest s := by
  unfold winAndRelease
  simp

@[simp] theorem lineRest_armClaim (s : State) (c : Claim) : lineRest (armClaim s c) = lineRest s := by
  unfold armClaim
  simp

@[simp] theorem lineRest_winClaim (s : State) (c : Claim) (before : ViewEntry) :
    lineRest (winClaim s c before) = lineRest s := by
  unfold winClaim
  split
  case h_1 => split <;> simp
  case h_5 => split <;> simp
  all_goals simp

@[simp] theorem lineRest_winDecision (s : State) (c : Claim) (before : ViewEntry) :
    lineRest (winDecision s c before) = lineRest s := by
  unfold winDecision
  rw [lineRest_cancelTest, apply_ite lineRest, lineRest_loseClaim, lineRest_winClaim, ite_self]

@[simp] theorem lineRest_ownClaimHandled (s : State) (k : Nat) (before : ViewEntry) :
    lineRest (ownClaimHandled s k before) = lineRest s := by
  unfold ownClaimHandled
  split
  · simp
  · split
    · split <;> simp
    · rfl

/-! ### Application to the view and the contest -/

@[simp] theorem lineRest_retestAnnounces (s : State) (k : Nat) (before : ViewEntry) :
    lineRest (retestAnnounces s k before) = lineRest s := by
  unfold retestAnnounces
  split <;> simp

@[simp] theorem lineRest_markIfFreed (s : State) (k : Nat) (before : ViewEntry) :
    lineRest (markIfFreed s k before) = lineRest s := by
  unfold markIfFreed
  split <;> simp

@[simp] theorem lineRest_applyFrame (s : State) (own : Bool) (f : Frame) : lineRest (applyFrame s own f) = lineRest s := by
  cases f with
  | taken k i p =>
    unfold applyFrame applyTaken
    cases own <;> simp
  | missed k i | release k i r =>
    unfold applyFrame applyRelease
    simp
  | claim u d i k p =>
    unfold applyFrame applyClaim
    simp only [lineRest_retestAnnounces]
    cases own with
    | true => simp
    | false =>
      simp only [Bool.false_eq_true, if_false]
      split
      · split <;> simp
      · simp
  | announce k i a form =>
    unfold applyFrame applyAnnounce
    dsimp only
    split
    · simp only [lineRest_retestAnnounces, lineRest_markIfFreed]
      split <;> simp
    · rfl
  | join | withdraw | unknown => rfl

/-! ### The handling (R74 to R76) -/

@[simp] theorem lineRest_updateRoster (s : State) (f : Frame) : lineRest (updateRoster s f) = lineRest s :=
  lineRest_congr (by simp)

@[simp] theorem lineRest_reportAnnounce (s : State) (f : Frame) : lineRest (reportAnnounce s f) = lineRest s :=
  lineRest_congr (by simp)

@[simp] theorem lineRest_raiseCfgMismatch (s : State) : lineRest (raiseCfgMismatch s) = lineRest s := by
  unfold raiseCfgMismatch
  simp

@[simp] theorem lineRest_applyJoin (s : State) (before : RosterEntry) (d : Nat) :
    lineRest (applyJoin s before d) = lineRest s := by
  unfold applyJoin
  (repeat' split) <;> simp

@[simp] theorem lineRest_dispatchFrame (s : State) (own : Bool) (f : Frame) :
    lineRest (dispatchFrame s own f) = lineRest s := by
  unfold dispatchFrame
  dsimp only
  split
  · simp
  · split <;> simp

@[simp] theorem lineRest_handleFrame (s : State) (r : RxFrame) : lineRest (handleFrame s r) = lineRest s := by
  unfold handleFrame
  split
  · simp
  · (repeat' split) <;> simp

end Sys2Proof.Laws
end

section
/-! SUPPORT. The end of the REFUSE slot (R58, R66, R68, R77): a frame that leaves the queue, completed or abandoned, and the
held own frame. -/

namespace Sys2Proof.Laws

open Sys2Proof Sys2Proof.Machine Sys2Proof.Safety

variable {s t u : State} {timer : Option Nat} {a : Attempt} {x y : TxFrame} {f : OutFrame} {sent : Frame} {accept refuse r : Bool}

/-! ### A frame that ends -/

/-- R66, R68: the end of an own frame that has left the queue. -/
def sendEnded (u : State) (f : OutFrame) (sent : Frame) : State :=
  runSearch (afterFrame (freeFramePlace (enterOwnFrame (countSent u f) sent) f))

theorem lineRest_sendEnded (u : State) (f : OutFrame) (sent : Frame) : lineRest (sendEnded u f sent) =
    { lineRest (enterOwnFrame u sent) with state := .seeking, recessiveRun := 0, attempt := none, answer := none } := by
  have same : (freeFramePlace (enterOwnFrame (countSent u f) sent) f).line = (enterOwnFrame u sent).line := by
    have counted : (countSent u f).line = u.line := by simp
    have freed : ∀ v, (freeFramePlace v f).line = v.line := fun v => by simp
    unfold enterOwnFrame
    rw [freed, counted]
    split <;> rfl
  rw [sendEnded, lineRest_runSearch]
  unfold lineRest afterFrame
  rw [State.setLine_line, same]

theorem enterOwnFrame_room (room : u.line.rx.length < 8) :
    enterOwnFrame u sent = u.setLine { u.line with rx := u.line.rx ++ [⟨sent, true⟩] } := if_pos room

theorem enterOwnFrame_full (full : 8 ≤ u.line.rx.length) :
    enterOwnFrame u sent = u.setLine { u.line with held := some sent } := if_neg (Nat.not_lt.mpr full)

/-- The state in which the search at the end of an own frame is made. -/
theorem beforeEndSearch (u : State) (f : OutFrame) (sent : Frame) :
    let v := afterFrame (freeFramePlace (enterOwnFrame (countSent u f) sent) f)
    v.line.tx = u.line.tx ∧ v.part = u.part ∧ v.plans = u.plans ∧ v.counters = (countSent u f).counters ∧
      (f.isOutcome = false → v.contest = u.contest) := by
  have entered : ∀ v, (enterOwnFrame v sent).line.tx = v.line.tx := fun v => by unfold enterOwnFrame; split <;> rfl
  have tx : (afterFrame (freeFramePlace (enterOwnFrame (countSent u f) sent) f)).line.tx = u.line.tx := by
    have after : ∀ v, (afterFrame v).line.tx = v.line.tx := fun _ => rfl
    rw [after]
    simp [entered]
  refine ⟨tx, by simp, by simp, by simp, fun other => ?_⟩
  rw [freeFramePlace, if_neg (by rw [other]; nofun)]
  simp

/-- The state u in which the frame of the attempt of s has left the queue. -/
structure Retired (s u : State) (timer : Option Nat) : Prop where
  line : u.line = { s.line with stuckTimer := timer, tx := s.line.tx.eraseP (·.inAttempt), repeatCount := 0 }
  belt : BeltKept s u
  view : u.view = s.view
  staging : u.staging = s.staging
  divert : u.divert = s.divert
  plans : u.plans = s.plans
  contest : u.contest = s.contest
  counters : u.counters = s.counters
  state : u.part.state = s.part.state

/-- What the end of an own frame leaves of the line, of the queue and of the counters. -/
structure SendEnds (s t : State) (f : OutFrame) (sent : Frame) (timer : Option Nat) : Prop where
  rest : lineRest t = { lineRest s with
    state := .seeking, recessiveRun := 0, stuckTimer := timer, attempt := none, answer := none, repeatCount := 0
    rx := if s.line.rx.length < 8 then s.line.rx ++ [⟨sent, true⟩] else s.line.rx
    held := if s.line.rx.length < 8 then s.line.held else some sent }
  belt : BeltKept s t
  view : t.view = s.view
  staging : t.staging = s.staging
  divert : t.divert = s.divert
  still : s.part.state ≠ .active ∨ (s.contest.searchDue = false ∧ f.isOutcome = false) →
    t.line.tx = s.line.tx.eraseP (·.inAttempt) ∧ t.plans = s.plans ∧ t.counters = (countSent s f).counters
  new : ∀ y ∈ t.line.tx, y ∈ s.line.tx.eraseP (·.inAttempt) ∨ newClaimFrame y
  others : ∀ y ∈ s.line.tx.eraseP (·.inAttempt), y.frame.isAnnounce = false → y ∈ t.line.tx
  counted : ∀ i : Fin 4, s.counters[i].event ≠ some .announceDropped → t.counters[i] = (countSent s f).counters[i]

theorem SendEnds.entered (h : SendEnds s t f sent timer) :
    (s.line.rx.length < 8 → t.line.rx = s.line.rx ++ [⟨sent, true⟩] ∧ t.line.held = s.line.held) ∧
      (8 ≤ s.line.rx.length → t.line.rx = s.line.rx ∧ t.line.held = some sent) := by
  have rx : t.line.rx = _ := congrArg (·.rx) h.rest
  have held : t.line.held = _ := congrArg (·.held) h.rest
  rw [rx, held]
  exact ⟨fun room => ⟨if_pos room, if_pos room⟩, fun full => ⟨if_neg (Nat.not_lt.mpr full), if_neg (Nat.not_lt.mpr full)⟩⟩

theorem countSent_counters (h : u.counters = s.counters) (f : OutFrame) : (countSent u f).counters = (countSent s f).counters := by
  have same : ∀ e i p, (report u e i p).counters = (report s e i p).counters := fun e i p => by
    rw [report_counters, report_counters, h]
  cases f with
  | announce | claim | release => exact same _ _ _
  | taken | missed | join | withdraw => exact h

theorem countSent_event (s : State) (f : OutFrame) (i : Fin 4) : (countSent s f).counters[i].event = s.counters[i].event := by
  have same : ∀ e j p, (report s e j p).counters[i].event = s.counters[i].event := fun e j p => by
    rw [report_counter, take_event]
  cases f with
  | announce | claim | release => exact same _ _ _
  | taken | missed | join | withdraw => rfl

/-- A counter that counts none of the events reported stands. -/
theorem counted_other {E : List CounterEvent} {cs ds : Vector Counter 4} (h : Counted E cs ds) {i : Fin 4}
    (other : ∀ e ∈ E, cs[i].event ≠ some e) : ds[i] = cs[i] := by
  cases event : cs[i].event with
  | some e => exact h.silent event fun mem => other e mem event
  | none =>
    induction h with
    | none => rfl
    | one h he j p ih =>
      rw [← ih]
      simp only [Fin.getElem_fin, Vector.getElem_map] at ih event ⊢
      exact take_other (by rw [ih, event]; nofun) j p

theorem sendEnds_sendEnded (h : Retired s u timer) (f : OutFrame) (sent : Frame) :
    SendEnds s (sendEnded u f sent) f sent timer := by
  obtain ⟨tx, part, plans, counters, contest⟩ := beforeEndSearch u f sent
  have left : u.line.tx = s.line.tx.eraseP (·.inAttempt) := congrArg (·.tx) h.line
  rw [left] at tx
  rw [h.plans] at plans
  rw [countSent_counters h.counters] at counters
  have searched := counted_runSearch (afterFrame (freeFramePlace (enterOwnFrame (countSent u f) sent) f))
  refine ⟨?_, ?_, by simp [sendEnded, h.view], by simp [sendEnded, h.staging], by simp [sendEnded, h.divert], fun quiet => ?_,
    fun y hy => ?_, fun y hy other => ?_, fun i other => ?_⟩
  · have rx : u.line.rx = s.line.rx := congrArg (·.rx) h.line
    rw [lineRest_sendEnded]
    by_cases room : s.line.rx.length < 8
    · rw [enterOwnFrame_room (by rwa [rx]), if_pos room, if_pos room]
      simp [lineRest, h.line]
    · rw [enterOwnFrame_full (by rw [rx]; exact Nat.not_lt.mp room), if_neg room, if_neg room]
      simp [lineRest, h.line]
  · obtain ⟨config, pins, loop, gate, pending⟩ := h.belt
    constructor <;> simp [sendEnded, *]
  · obtain ⟨line, counters', -, plans'⟩ := runSearch_still
      (s := afterFrame (freeFramePlace (enterOwnFrame (countSent u f) sent) f)) (by
        rw [part, h.state]
        exact quiet.imp_right fun ⟨quiet, other⟩ => by rw [contest other, h.contest, quiet])
    exact ⟨(congrArg (·.tx) line).trans tx, plans'.trans plans, counters'.trans counters⟩
  · exact tx ▸ mem_tx_runSearch_new hy
  · exact mem_tx_runSearch_other (tx ▸ hy) other
  · rw [counters] at searched
    exact counted_other searched fun e he => by
      rw [List.mem_singleton.mp he, countSent_event]
      exact other

/-! ### FRAME_END by the state of the line and of the attempt -/

/-- The state with the stuck timer told the levels of the end slots (log 30). -/
def slotsTimed (s : State) (accept refuse : Bool) : State := timeLevels s [!accept, !refuse]

theorem timedBy_slots (timer : Option Nat) (accept refuse : Bool) : timedBy timer [!accept, !refuse] =
    if refuse = false then none else if accept = false then some 0 else some (timer.getD 0) := by
  cases accept <;> cases refuse <;> rfl

theorem frameEnd_idle (h : s.line.state ≠ .carrying) : frameEnd s accept refuse = s := by
  unfold frameEnd
  cases state : s.line.state with
  | carrying => exact absurd state h
  | off | seeking | free => rfl

theorem frameEnd_undecided (ha : s.line.attempt = some a) (undecided : a.won = false) : frameEnd s accept refuse = s := by
  by_cases carrying : s.line.state = .carrying
  · unfold frameEnd
    rw [carrying, ha]
    exact if_neg (by rw [undecided]; nofun)
  · exact frameEnd_idle carrying

theorem frameEnd_heard (carrying : s.line.state = .carrying) (none : s.line.attempt = none) :
    frameEnd s accept refuse = afterFrame (slotsTimed s accept refuse) := by
  unfold frameEnd
  rw [carrying, none]
  rfl

theorem frameEnd_own (carrying : s.line.state = .carrying) (ha : s.line.attempt = some a) (won : a.won = true)
    (judge : a.ownRefuse = some r) (hx : frameInAttempt s = some x) : frameEnd s accept refuse =
      runSearch (afterFrame (sendOutcome (slotsTimed s accept refuse) x a.sent (refuse || r))) := by
  have decided : judged (slotsTimed s accept refuse) a = slotsTimed s accept refuse := by
    rw [judged, judge]
    rfl
  have refuses : ownRefuses (slotsTimed s accept refuse) = r := by
    show (match s.line.attempt with | some a => a.ownRefuse.getD false | .none => false) = r
    rw [ha]
    exact congrArg (·.getD false) judge
  have frame : frameInAttempt (slotsTimed s accept refuse) = some x := hx
  unfold frameEnd
  rw [carrying, ha]
  dsimp only
  rw [if_pos won, endOwnSend, ← slotsTimed, decided, frame, refuses]

theorem retired_completed (s : State) (accept refuse : Bool) :
    Retired s (retireFrame (slotsTimed s accept refuse)) (timedBy s.line.stuckTimer [!accept, !refuse]) :=
  ⟨rfl, ⟨rfl, rfl, rfl, rfl, rfl⟩, rfl, rfl, rfl, rfl, rfl, rfl, rfl⟩

theorem retired_abandoned (h : Retired s u timer) (f : FaultId) (d : Nat) : Retired s (recordFault u f d) timer := by
  obtain ⟨config, pins, loop, gate, pending⟩ := h.belt
  refine ⟨by simp [h.line], ⟨?_, ?_, ?_, ?_, ?_⟩, ?_, ?_, ?_, ?_, ?_, ?_, ?_⟩
  all_goals simp [*, h.view, h.staging, h.divert, h.plans, h.contest, h.counters, h.state]

theorem sendOutcome_completed (h : r = false) : runSearch (afterFrame (sendOutcome (slotsTimed s accept refuse) x sent r)) =
    sendEnded (retireFrame (slotsTimed s accept refuse)) x.frame sent := by
  rw [sendOutcome, if_neg (by rw [h]; nofun)]
  rfl

theorem sendOutcome_abandoned (h : r = true) (last : 8 ≤ s.line.repeatCount) :
    runSearch (afterFrame (sendOutcome (slotsTimed s accept refuse) x sent r)) =
      sendEnded (recordFault (retireFrame (slotsTimed s accept refuse)) .frameAbandoned 0) x.frame sent := by
  rw [sendOutcome, if_pos h]
  exact congrArg (fun v => runSearch (afterFrame v)) (if_pos last)

theorem sendOutcome_again (h : r = true) (more : s.line.repeatCount < 8) :
    sendOutcome (slotsTimed s accept refuse) x sent r = modifyInAttempt (slotsTimed s accept refuse)
      (fun y => { y with inAttempt := false }) := by
  rw [sendOutcome, if_pos h]
  exact if_neg (Nat.not_le.mpr more)

theorem sendEnded_part (u : State) (f : OutFrame) (sent : Frame) : (sendEnded u f sent).part = u.part := by
  rw [sendEnded, runSearch_part]
  exact (beforeEndSearch u f sent).2.1

/-! ### The held own frame (R68) -/

theorem enterHeld_stays (h : s.line.held = none ∨ 8 ≤ s.line.rx.length) : enterHeld s = s := by
  unfold enterHeld
  split
  next some =>
    exact if_neg fun room => h.elim (by rw [some]; nofun) (Nat.not_le.mpr room)
  next => rfl

theorem enterHeld_enters {g : Frame} (held : s.line.held = some g) (room : s.line.rx.length < 8) :
    enterHeld s = s.setLine { s.line with rx := s.line.rx ++ [⟨g, true⟩], held := none } := by
  unfold enterHeld
  rw [held]
  exact if_pos room

theorem lineRest_frameHandled {q : RxFrame} {rest : List RxFrame} (head : s.line.rx = q :: rest) :
    lineRest (frameHandled s) = lineRest (enterHeld (s.setLine { s.line with rx := rest })) := by
  unfold frameHandled
  rw [head]
  simp

end Sys2Proof.Laws

open Sys2Proof Sys2Proof.Machine Sys2Proof.Safety Sys2Proof.Laws

/-- Settles O53: by the state of the line and of the attempt, with one account of a frame that leaves the queue, completed or
abandoned. -/
theorem frameEndsAndHeldFrame : Obligations.FrameEndsAndHeldFrame := by
  intro s accept refuse
  dsimp only
  rw [← timedBy_slots]
  refine ⟨fun other => congrArg _ (frameEnd_idle other), fun a ha undecided => congrArg _ (frameEnd_undecided ha undecided),
    fun carrying none => congrArg _ (frameEnd_heard carrying none), fun a r x carrying ha won judge hx => ?_,
    fun stays => congrArg _ (enterHeld_stays stays), fun g held room => congrArg _ (enterHeld_enters held room),
    fun g q rest held head => ⟨frameHandled s, rfl, fun room => ?_, fun full => ?_⟩⟩
  · have row : exec (.frameEnd accept refuse) s = .next (runSearch (afterFrame
        (sendOutcome (slotsTimed s accept refuse) x a.sent (refuse || r)))) :=
      congrArg Host.Outcome.next (frameEnd_own carrying ha won judge hx)
    rw [row]
    have completed := retired_completed s accept refuse
    refine ⟨fun kept => ?_, fun refused last => ?_, fun refused more quiet => ?_⟩
    · rw [sendOutcome_completed kept]
      have ends := sendEnds_sendEnded completed x.frame a.sent
      have part := sendEnded_part (retireFrame (slotsTimed s accept refuse)) x.frame a.sent
      generalize sendEnded _ x.frame a.sent = t at ends part
      refine ⟨t, rfl, ⟨congrArg (·.state) ends.rest, congrArg (·.recessiveRun) ends.rest, congrArg (·.attempt) ends.rest,
        congrArg (·.stuckTimer) ends.rest, congrArg (·.answer) ends.rest, congrArg (·.repeatCount) ends.rest, ends.belt, ends.view,
        ends.staging, ends.divert, fun quiet => ?_, ends.new, ends.others, fun i other => (ends.counted i other).trans ?_⟩,
        ends.entered, part⟩
      · obtain ⟨tx, plans, counters⟩ := ends.still quiet
        refine ⟨tx, plans, counters.trans ?_⟩
        cases x.frame <;> rfl
      · cases x.frame <;> rfl
    · rw [sendOutcome_abandoned refused last]
      have ends := sendEnds_sendEnded (retired_abandoned completed .frameAbandoned 0) x.frame a.sent
      have part := sendEnded_part (recordFault (retireFrame (slotsTimed s accept refuse)) .frameAbandoned 0) x.frame a.sent
      have fault := (fault_of_part part _).trans
        (recordFault_fault (retireFrame (slotsTimed s accept refuse)) (f := .frameAbandoned) (by decide) 0)
      have state := (congrArg (·.state) part).trans (retired_abandoned completed .frameAbandoned 0).state
      generalize sendEnded _ x.frame a.sent = t at ends fault state
      refine ⟨t, rfl, ⟨congrArg (·.state) ends.rest, congrArg (·.recessiveRun) ends.rest, congrArg (·.attempt) ends.rest,
        congrArg (·.stuckTimer) ends.rest, congrArg (·.answer) ends.rest, congrArg (·.repeatCount) ends.rest, ends.belt, ends.view,
        ends.staging, ends.divert, fun quiet => ?_, ends.new, ends.others, fun i other => (ends.counted i other).trans ?_⟩,
        ends.entered, fault, state⟩
      · obtain ⟨tx, plans, counters⟩ := ends.still quiet
        refine ⟨tx, plans, counters.trans ?_⟩
        cases x.frame <;> rfl
      · cases x.frame <;> rfl
    · rw [sendOutcome_again refused more]
      exact congrArg _ (runSearch_quiet quiet)
  · have line := lineRest_frameHandled head
    rw [enterHeld_enters (by exact held) (by exact room)] at line
    exact ⟨congrArg (·.rx) line, congrArg (·.held) line⟩
  · have line := lineRest_frameHandled head
    rw [enterHeld_stays (.inr (by exact full))] at line
    exact ⟨congrArg (·.rx) line, (congrArg (·.held) line).trans held⟩

end

section
/-! SUPPORT. The stuck line (R79): a frame in progress that is settled, the watches and the watchdog that stand by it, and the
millisecond that sticks the line. -/

namespace Sys2Proof.Laws

open Sys2Proof Sys2Proof.Machine Sys2Proof.Safety

variable {s t u : State} {a : Attempt} {x : TxFrame} {n : Nat}

/-! ### The watches and the watchdog -/

/-- The place watches and the state of the watchdog. -/
def guards (s : State) : Vector Watch 4 × WatchdogState := (s.part.watches, s.part.watchdog)

theorem guards_congr (h : t.part = s.part) : guards t = guards s := by
  unfold guards; rw [h]

@[simp] theorem guards_offerNotice (s : State) (x : Notice) : guards (offerNotice s x) = guards s := by
  unfold offerNotice
  split <;> rfl

@[simp] theorem guards_recordFault (s : State) (f : FaultId) (d : Nat) : guards (recordFault s f d) = guards s :=
  (guards_offerNotice _ _).trans rfl

@[simp] theorem guards_cancelTest (s : State) (p : PlaceId) : guards (cancelTest s p) = guards s := by
  unfold cancelTest
  split
  · exact (guards_offerNotice _ _).trans rfl
  · rfl

@[simp] theorem guards_moveTo (s : State) (st : Participation) : guards (moveTo s st) = guards s := by
  unfold moveTo
  split
  · rfl
  · exact (guards_offerNotice _ _).trans rfl

@[simp] theorem guards_faultClaim (s : State) (k : Nat) : guards (faultClaim s k) = guards s := by
  unfold faultClaim
  split
  · rfl
  · dsimp only
    rw [guards_cancelTest]
    split <;> exact guards_congr (by simp)

@[simp] theorem guards_faultClaims (s : State) : guards (faultClaims s) = guards s :=
  foldl_keeps guards guards_faultClaim _ s

@[simp] theorem guards_stopDivert (s : State) : guards (stopDivert s) = guards s := by
  unfold stopDivert
  dsimp only
  split
  · split
    · exact (guards_offerNotice _ _).trans (guards_congr (by simp))
    · rfl
  · rfl

@[simp] theorem guards_offerWithdraw (s : State) (r : Nat) : guards (offerWithdraw s r) = guards s := guards_congr (by simp)

@[simp] theorem guards_withdrawAnnounces (s : State) (p : OutFrame → Bool) : guards (withdrawAnnounces s p) = guards s :=
  guards_congr (by simp)

@[simp] theorem guards_emptyView (s : State) : guards (emptyView s) = guards s := rfl

@[simp] theorem guards_raiseImmediate (s : State) (f : FaultId) : guards (raiseImmediate s f) = guards s := by
  unfold raiseImmediate immediateWithdraw
  simp

@[simp] theorem guards_receiveBroken (s : State) : guards (receiveBroken s) = guards s := by
  unfold receiveBroken countCheckError
  dsimp only
  split
  · exact guards_congr (by simp)
  · exact (guards_raiseImmediate _ _).trans (guards_congr (by simp))

@[simp] theorem guards_settleHeard (s : State) : guards (settleHeard s) = guards s := by
  unfold settleHeard
  split <;> simp

@[simp] theorem guards_tellWithdrawn (s : State) (x : TxFrame) : guards (tellWithdrawn s x) = guards s := by
  unfold tellWithdrawn
  split
  · exact guards_congr (by simp)
  · split
    · rfl
    · split
      · exact (guards_cancelTest _ _).trans (guards_congr (by simp))
      · rfl
  · rfl

@[simp] theorem guards_loseAttempt (s : State) (x : TxFrame) : guards (loseAttempt s x) = guards s := by
  unfold loseAttempt
  split
  · exact (guards_tellWithdrawn _ _).trans rfl
  · rfl

@[simp] theorem guards_sendOutcome (s : State) (x : TxFrame) (sent : Frame) (r : Bool) :
    guards (sendOutcome s x sent r) = guards s := by
  unfold sendOutcome
  split
  · split
    · unfold abandonSend
      refine (guards_congr (s := recordFault (retireFrame s) .frameAbandoned 0) (by simp)).trans ?_
      exact (guards_recordFault _ _ _).trans rfl
    · rfl
  · exact guards_congr (by simp)

@[simp] theorem guards_judgeOwn (s : State) (a : Attempt) (e : Bool) : guards (judgeOwn s a e) = guards s := by
  exact guards_congr (by simp)

@[simp] theorem guards_afterFrame (s : State) : guards (afterFrame s) = guards s := rfl

theorem guards_settleFrame (s : State) : guards (settleFrame s) = guards s := by
  unfold settleFrame
  split
  case h_1 | h_2 => rfl
  all_goals
    split
    · dsimp only
      split
      · rw [guards_afterFrame, guards_sendOutcome]
        split <;> simp
      · rw [guards_afterFrame, guards_settleHeard, guards_loseAttempt]
        rfl
    · simp

theorem guards_stickLine (s : State) : guards (runSearch (stickLine s)) = guards s := by
  have kept : guards (stickLine s) = guards s := (guards_recordFault _ _ _).trans (guards_settleFrame s)
  rw [← kept]
  exact guards_congr (by simp)

/-! ### A frame in progress as the line sticks (log 14) -/

/-- The line sticks in the state u, the frame in progress settled. -/
def stuckAt (u : State) : State :=
  recordFault (u.setLine { u.line with recessiveRun := 0, stuck := true, stuckTimer := some 2 }) .lineStuck 0

theorem stuckAt_line (u : State) :
    (stuckAt u).line = { u.line with recessiveRun := 0, stuck := true, stuckTimer := some 2 } := by
  simp [stuckAt]

theorem stuckAt_fault (u : State) : (stuckAt u).fault .lineStuck = ⟨true, false, true⟩ := recordFault_fault _ (by decide) 0

theorem settleFrame_seeking (h : s.line.state = .seeking) : settleFrame s = s := by
  unfold settleFrame
  rw [h]

/-- A heard frame in progress ends with an error, fewer than eight in a row. -/
def heardBroken (s : State) : State := (s.setLine { s.line with
  state := .seeking
  recessiveRun := 0
  checkErrors := s.line.checkErrors + 1
  attempt := none
  answer := none }).setCounters (report s .frameRefusedByMe none none).counters

theorem settleFrame_heard (carrying : s.line.state = .carrying) (noAttempt : s.line.attempt = none)
    (noAnswer : s.line.answer = none) (few : s.line.checkErrors + 1 < 8) : settleFrame s = heardBroken s := by
  have unanswered : settleHeard s = receiveBroken s := if_pos (by rw [noAnswer]; rfl)
  unfold settleFrame
  rw [carrying, noAttempt]
  dsimp only
  rw [unanswered]
  exact congrArg afterFrame (if_pos few)

/-- An own send in progress ends by a bit error and stays in the queue. -/
theorem settleFrame_own (carrying : s.line.state = .carrying) (ha : s.line.attempt = some a) (won : a.won = true)
    (hx : frameInAttempt s = some x) (more : s.line.repeatCount < 8) :
    settleFrame s = afterFrame (modifyInAttempt (if a.ownRefuse.isNone then judgeOwn s a true else s)
      (fun y => { y with inAttempt := false })) := by
  have count : (if a.ownRefuse.isNone then judgeOwn s a true else s).line.repeatCount = s.line.repeatCount := by
    split
    · unfold judgeOwn
      dsimp only
      split <;> rfl
    · rfl
  unfold settleFrame
  rw [carrying, ha, hx]
  dsimp only
  rw [if_pos won, sendOutcome, if_pos rfl]
  exact congrArg afterFrame (if_neg (by rw [count]; exact Nat.not_le.mpr more))

theorem settleFrame_own_line (carrying : s.line.state = .carrying) (ha : s.line.attempt = some a) (won : a.won = true)
    (hx : frameInAttempt s = some x) (more : s.line.repeatCount < 8) :
    (settleFrame s).line = { s.line with
        state := .seeking
        recessiveRun := 0
        attempt := none
        answer := none
        tx := modifyFirst (·.inAttempt) (fun y => { y with inAttempt := false }) s.line.tx } ∧
      (settleFrame s).contest = s.contest := by
  rw [settleFrame_own carrying ha won hx more]
  split
  · unfold judgeOwn
    dsimp only
    split <;> exact ⟨rfl, rfl⟩
  · exact ⟨rfl, rfl⟩

/-! ### The row LINE_STUCK (log 2, log 30) -/

/-- The state once the rest of 2 ms has passed. -/
def laterStuck (s : State) : State := elapse s (2 - s.line.stuckTimer.getD 0)

theorem mayStick_iff : mayStick s = true ↔ s.line.state ≠ .off ∧ s.line.stuck = false := by simp [mayStick]

theorem lineStuck_stays (h : s.line.state = .off ∨ s.line.stuck = true) : lineStuck s = s :=
  if_neg fun may => by
    obtain ⟨on, sound⟩ := mayStick_iff.mp may
    exact h.elim on (by rw [sound]; nofun)

theorem lineStuck_sticks (on : s.line.state ≠ .off) (sound : s.line.stuck = false) :
    lineStuck s = runSearch (stuckAt (settleFrame (laterStuck s))) := if_pos (mayStick_iff.mpr ⟨on, sound⟩)

theorem laterStuck_line (s : State) : ∃ timer, (laterStuck s).line = { s.line with stuckTimer := timer } :=
  ⟨_, (elapse_frame s _).2.2.1⟩

/-- Nothing is searched where the settled frame leaves no reason. -/
theorem stuckAt_quiet (quiet : u.contest.searchDue = false) : runSearch (stuckAt u) = stuckAt u :=
  runSearch_quiet (by simpa [stuckAt] using quiet)

theorem lineStuck_seeking (seeking : s.line.state = .seeking) (sound : s.line.stuck = false)
    (quiet : s.contest.searchDue = false) : lineStuck s =
      recordFault ((laterStuck s).setLine { s.line with recessiveRun := 0, stuck := true, stuckTimer := some 2 }) .lineStuck 0 := by
  obtain ⟨timer, line⟩ := laterStuck_line s
  rw [lineStuck_sticks (by rw [seeking]; nofun) sound, settleFrame_seeking (by rw [line]; exact seeking),
    stuckAt_quiet (by simpa [laterStuck] using quiet), stuckAt, line]

/-! ### The millisecond that sticks the line -/

/-- With the stuck timer the one running interval, time moves that timer alone. -/
theorem elapse_stuckTimer_only (h : StopTimerOnly s) (stop : s.loop.stopTimer = none) (ms : Nat) :
    elapse s ms = s.setLine { s.line with stuckTimer := s.line.stuckTimer.map (advance Config.stuckLimit ms) } := by
  have loop : ({ s.loop with stopTimer := s.loop.stopTimer.map (advance s.timing.stopTime ms) } : LoopTracker) = s.loop := by
    rw [stop, Option.map_none, ← stop]
  have divert : ({ s.divert with jamTimer := s.divert.jamTimer.map (advance s.timing.jamTime ms) } : DivertUnit) =
      s.divert := by
    rw [h.jam, Option.map_none, ← h.jam]
  have watches : (#v[s.part.watches[0].elapse s.timing.placeDeglitch ms,
      s.part.watches[1].elapse s.timing.placeDeglitch ms, s.part.watches[2].elapse s.timing.placeDeglitch ms,
      s.part.watches[3].elapse s.timing.placeDeglitch ms] : Vector Watch 4) = s.part.watches := by
    ext1 i hi
    match i, hi with
    | 0, _ => exact watch_elapse_untimed (h.watches 0) _ _
    | 1, _ => exact watch_elapse_untimed (h.watches 1) _ _
    | 2, _ => exact watch_elapse_untimed (h.watches 2) _ _
    | 3, _ => exact watch_elapse_untimed (h.watches 3) _ _
  unfold elapse
  dsimp only
  rw [if_pos h.report, if_neg h.watchdog, loop, divert, watches]
  rfl

/-- No place timer and no watchdog runs. -/
def Unguarded (s : State) : Prop :=
  (∀ p : Fin 4, s.part.watches[p].state ≠ .dropping ∧ s.part.watches[p].state ≠ .rising) ∧ s.part.watchdog ≠ .running

theorem unguarded_congr (h : guards t = guards s) (hs : Unguarded s) : Unguarded t := by
  obtain ⟨watches, watchdog⟩ := Prod.ext_iff.mp h
  unfold Unguarded
  rw [show t.part.watches = s.part.watches from watches, show t.part.watchdog = s.part.watchdog from watchdog]
  exact hs

/-- The last steps of a millisecond, with no place timer and no watchdog running. -/
theorem lastSteps_unguarded (h : Unguarded s) : whenDue watchdogDue watchdogViolation
    (allPlaces.foldl (fun s p => whenDue (fun s => placeDue s p) (fun s => placeTimerEnd s p) s) s) = s := by
  obtain ⟨watches, watchdog⟩ := h
  have place : ∀ p, placeDue s p = false := fun p => by
    have untimed : (s.watch p).timed = false := by
      simp only [Watch.timed, Bool.or_eq_false_iff, decide_eq_false_iff_not]
      exact watches p
    simp [placeDue, untimed]
  have watchdog : watchdogDue s = false := by simp [watchdogDue, watchdog]
  simp [whenDue, place, watchdog, allPlaces]

/-- An idle millisecond in which the stuck timer alone runs. -/
theorem tick_stuckTimer_only (h : StopTimerOnly s) (stop : s.loop.stopTimer = none) :
    tick s = whenDue (fun _ => stuckNext s) stickLine (elapse s 1) := by
  have passed := elapse_stuckTimer_only h stop 1
  have stopped : stopDue (elapse s 1) = false := by simp [stopDue, passed, stop]
  have gap : gapDue (elapse s 1) = false := by simp [gapDue, passed, h.report]
  have jam : jamDue (elapse s 1) = false := by simp [jamDue, passed, h.jam]
  have unguarded : Unguarded (whenDue (fun _ => stuckNext s) stickLine (elapse s 1)) := by
    refine unguarded_congr (s := elapse s 1) ?_ (by rw [passed]; exact ⟨h.watches, h.watchdog⟩)
    unfold whenDue
    split
    · exact guards_stickLine _
    · rfl
  have first : whenDue jamDue jamDivert (whenDue gapDue endReport (whenDue stopDue stopLoop (elapse s 1))) = elapse s 1 := by
    simp [whenDue, stopped, gap, jam]
  unfold tick
  dsimp only
  rw [first, lastSteps_unguarded unguarded]

end Sys2Proof.Laws

open Sys2Proof Sys2Proof.Machine Sys2Proof.Safety Sys2Proof.Laws

/-- Settles O54: by the state of the line and the frame in progress, and the millisecond in which the stuck timer alone runs. -/
theorem stuckLine : Obligations.StuckLine := by
  intro s
  dsimp only
  obtain ⟨timer, line⟩ := laterStuck_line s
  rw [← laterStuck]
  refine ⟨fun stays => congrArg _ (lineStuck_stays stays), fun seeking sound quiet =>
    congrArg _ (lineStuck_seeking seeking sound quiet), fun carrying sound noAttempt noAnswer few quiet => ?_,
    fun a x carrying sound ha won more hx quiet => ?_, fun n idle hn sound stop report jam watchdog quiet watches => ?_,
    fun stuck => congrArg _ (if_pos stuck), fun sound => congrArg _ (if_neg (by rw [sound]; nofun))⟩
  · have settled := settleFrame_heard (s := laterStuck s) (by rw [line]; exact carrying) (by rw [line]; exact noAttempt)
      (by rw [line]; exact noAnswer) (by rw [line]; exact few)
    refine ⟨_, congrArg Host.Outcome.next (lineStuck_sticks (by rw [carrying]; nofun) sound), ?_⟩
    rw [settled, stuckAt_quiet (by simpa [heardBroken, laterStuck] using quiet)]
    refine ⟨?_, stuckAt_fault _, ?_⟩
    · rw [stuckAt_line, heardBroken, State.setCounters_line, State.setLine_line, line]
      simp [noAttempt, noAnswer]
    · simp [stuckAt, heardBroken, laterStuck]
  · obtain ⟨settled, contest⟩ := settleFrame_own_line (s := laterStuck s) (a := a) (x := x) (by rw [line]; exact carrying)
      (by rw [line]; exact ha) won (by unfold frameInAttempt; rw [line]; exact hx) (by rw [line]; exact more)
    refine ⟨_, congrArg Host.Outcome.next (lineStuck_sticks (by rw [carrying]; nofun) sound), ?_⟩
    rw [stuckAt_quiet (by rw [contest]; simpa [laterStuck] using quiet), stuckAt_line, settled, line]
    exact ⟨rfl, rfl, rfl, rfl, rfl, stuckAt_fault _⟩
  · have only : StopTimerOnly s := ⟨report, jam, watches, watchdog⟩
    have row : step s = .next (tick s) := by unfold step; rw [idle]
    have passed := elapse_stuckTimer_only only stop
    rw [hn] at passed
    rw [row, tick_stuckTimer_only only stop]
    refine ⟨fun below => congrArg _ ?_, fun atLimit on => congrArg _ ?_⟩
    · have next : advance Config.stuckLimit 1 n = n + 1 := by unfold advance Config.stuckLimit; omega
      have before : stuckNext s = false := by simp [stuckNext, hn, Config.stuckLimit, Nat.not_le.mpr below]
      rw [whenDue, before, if_neg nofun, passed, Option.map_some, next]
    · have full : ∀ ms, elapse s ms = s := fun ms => by
        have stays : advance Config.stuckLimit ms n = n := by unfold advance Config.stuckLimit; omega
        rw [passed, Option.map_some, stays, ← hn]
        rfl
      have due : stuckNext s = true := by simp [stuckNext, mayStick, hn, atLimit, on, sound, Config.stuckLimit]
      rw [whenDue, due, if_pos rfl, full, lineStuck_sticks on sound, laterStuck, full]
      rfl

end

section
/-! SUPPORT. The handling of a frame by its tests, the roster, and a JOIN with another digest (R74 to R76, R164, R165). -/

namespace Sys2Proof.Laws

open Sys2Proof Sys2Proof.Machine Sys2Proof.Safety

variable {s t u : State} {f : Frame} {own : Bool} {rest : List RxFrame} {i j : Station} {d : Nat}

/-! ### The tests (R75) -/

/-- The state once the head of the receive queue has left it, and a held own frame has taken its room. -/
def taken (s : State) (rest : List RxFrame) : State := enterHeld (s.setLine { s.line with rx := rest })

/-- The sender is in the hall table, and the frame is not another station's with the own ID. -/
def Genuine (s : State) (f : Frame) (own : Bool) : Prop :=
  (s.config.hall[f.sender]).isSome = true ∧ (own = true ∨ f.sender ≠ s.ownId)

theorem frameHandled_empty (h : s.line.rx = []) : frameHandled s = s := by
  unfold frameHandled
  rw [h]

theorem frameHandled_head (h : s.line.rx = ⟨f, own⟩ :: rest) :
    frameHandled s = runSearch (handleFrame (taken s rest) ⟨f, own⟩) := by
  unfold frameHandled
  rw [h]
  rfl

theorem taken_eq (s : State) (rest : List RxFrame) : taken s rest = s.setLine (taken s rest).line := by
  unfold taken enterHeld
  split
  · split <;> rfl
  · rfl

theorem taken_unheld (h : s.line.held = none) (rest : List RxFrame) : taken s rest = s.setLine { s.line with rx := rest } :=
  enterHeld_stays (.inl h)

theorem tx_taken (s : State) (rest : List RxFrame) : (taken s rest).line.tx = s.line.tx := by
  unfold taken enterHeld
  split
  · split <;> rfl
  · rfl

theorem handleFrame_unknown (s : State) (data : List Byte) (own : Bool) :
    handleFrame s ⟨.unknown data, own⟩ = report s .unknownKind (some (Config.unknownKindSender data)) none := rfl

theorem handleFrame_known (known : ∀ data, f ≠ .unknown data) (s : State) (own : Bool) : handleFrame s ⟨f, own⟩ =
    if s.config.hall[f.sender].isNone then reportSender s .stranger f.sender
    else if own = false ∧ f.sender = s.ownId then reportSender s .stranger f.sender
    else if f.inRange s.slots = false then s
    else dispatchFrame s own f := by
  cases f with
  | unknown data => exact absurd rfl (known data)
  | taken | missed | release | claim | announce | join | withdraw => rfl

theorem handleFrame_stranger (known : ∀ data, f ≠ .unknown data) (h : ¬Genuine s f own) :
    handleFrame s ⟨f, own⟩ = report s .stranger (some f.sender) none := by
  rw [handleFrame_known known]
  split
  · rfl
  next present =>
    rw [if_pos]
    · rfl
    · have here : (s.config.hall[f.sender]).isSome = true := by simpa [Option.isSome_iff_ne_none] using present
      obtain ⟨heard, same⟩ := not_or.mp fun genuine => h ⟨here, genuine⟩
      exact ⟨Bool.eq_false_of_not_eq_true heard, not_not.mp same⟩

theorem handleFrame_genuine (known : ∀ data, f ≠ .unknown data) (h : Genuine s f own) :
    handleFrame s ⟨f, own⟩ = if f.inRange s.slots = false then s else dispatchFrame s own f := by
  obtain ⟨present, genuine⟩ := h
  rw [handleFrame_known known, if_neg (by simpa [Option.isSome_iff_ne_none] using present), if_neg]
  rintro ⟨heard, same⟩
  exact genuine.elim (by rw [heard]; nofun) (· same)

/-! ### The roster (R164) -/

theorem rosterEntry_congr (h : t.part.roster = s.part.roster) (i : Station) : t.rosterEntry i = s.rosterEntry i := by
  unfold State.rosterEntry
  rw [h]

theorem rosterEntry_setRoster (s : State) (i j : Station) (e : RosterEntry) :
    (setRoster s i e).rosterEntry j = if i = j then e else s.rosterEntry j := by
  simp [State.rosterEntry, setRoster, Vector.getElem_set, Fin.ext_iff]

theorem rosterEntry_updateRoster (s : State) (f : Frame) (j : Station) : (updateRoster s f).rosterEntry j =
    if f.sender = j then rosterAfter s.part.digest (s.rosterEntry f.sender) f else s.rosterEntry j :=
  rosterEntry_setRoster _ _ _ _

/-- R164: the roster after a frame that passed the tests. -/
theorem rosterEntry_dispatchFrame (s : State) (own : Bool) (f : Frame) (j : Station) : (dispatchFrame s own f).rosterEntry j =
    if f.sender = j then rosterAfter s.part.digest (s.rosterEntry f.sender) f else s.rosterEntry j := by
  have heard : (reportAnnounce s f).part = s.part := by simp
  have roster : (dispatchFrame s own f).part.roster = (updateRoster (reportAnnounce s f) f).part.roster := by
    unfold dispatchFrame
    dsimp only
    split
    · simp
    · split <;> simp
  rw [rosterEntry_congr roster, rosterEntry_updateRoster]
  unfold State.rosterEntry
  rw [heard]

/-! ### A JOIN (R165) -/

theorem dispatchFrame_join (s : State) (own : Bool) (i : Station) (d : Nat) : dispatchFrame s own (.join i d) =
    applyJoin (updateRoster s (.join i d)) (s.rosterEntry i) d := rfl

theorem applyJoin_mismatch {before : RosterEntry} (other : s.part.digest ≠ some d) (listening : s.part.state = .listening) :
    applyJoin s before d = raiseCfgMismatch s := by
  rw [applyJoin, if_neg other, if_pos listening]

theorem raiseCfgMismatch_effects (s : State) : (raiseCfgMismatch s).part.state = .withdrawn ∧
    (raiseCfgMismatch s).fault .cfgMismatch = ⟨true, false, true⟩ ∧ HasFrame (.withdraw 1) (raiseCfgMismatch s) :=
  ⟨orderlyWithdraw_state _ _,
    ((noted_orderlyWithdraw (noted_refl _) _).fault .cfgMismatch (by decide)).trans (recordFault_fault s (by decide) 0),
    hasFrame_orderlyWithdraw _ _⟩

/-- A JOIN that the station does not answer. -/
def Silent (s : State) (before : RosterEntry) (d : Nat) : Prop :=
  s.part.digest = some d ∨ (s.fault .cfgMismatch).indication = true ∨ before = ⟨.mismatched, some d⟩ ∨
    ∃ y ∈ s.line.tx, y.frame.isParticipation = true

theorem applyJoin_silent {before : RosterEntry} (h : s.part.digest = some d ∨ s.part.state ≠ .listening)
    (silent : Silent s before d) : applyJoin s before d = s := by
  unfold applyJoin
  split
  · rfl
  next other =>
    rw [if_neg (h.resolve_left other)]
    split
    · rfl
    next clear =>
      split
      · rfl
      next first =>
        rcases silent with same | set | before | queued
        · exact absurd same other
        · exact absurd set clear
        · exact absurd ⟨by rw [before], by rw [before]⟩ first
        · exact if_pos (List.any_eq_true.mpr queued)

theorem applyJoin_answered {before : RosterEntry} (h : s.part.digest = some d ∨ s.part.state ≠ .listening)
    (spoken : ¬Silent s before d) : applyJoin s before d = offerFrame s (.join (s.part.digest.getD 0)) := by
  obtain ⟨other, clear, first, none⟩ : s.part.digest ≠ some d ∧ (s.fault .cfgMismatch).indication ≠ true ∧
      before ≠ ⟨.mismatched, some d⟩ ∧ ¬∃ y ∈ s.line.tx, y.frame.isParticipation = true := by
    simpa only [Silent, not_or] using spoken
  have fresh : ¬(before.state = .mismatched ∧ before.digest = some d) := fun ⟨state, digest⟩ =>
    first (by obtain ⟨_, _⟩ := before; cases state; cases digest; rfl)
  rw [applyJoin, if_neg other, if_neg (h.resolve_left other), if_neg clear, if_neg fresh]
  exact if_neg fun any => none (List.any_eq_true.mp any)

/-! ### The state in which a frame is dispatched -/

/-- A frame that passes the tests is dispatched, with the search after it. -/
theorem exec_frameHandled (head : s.line.rx = ⟨f, own⟩ :: rest) (known : ∀ data, f ≠ .unknown data) (genuine : Genuine s f own)
    (range : f.inRange s.slots = true) :
    exec .frameHandled s = .next (runSearch (dispatchFrame (taken s rest) own f)) := by
  have same : (taken s rest).config = s.config := by rw [taken_eq]; rfl
  have passes : Genuine (taken s rest) f own := by
    unfold Genuine State.ownId
    rw [same]
    exact genuine
  have within : f.inRange (taken s rest).slots = true := by
    unfold State.slots
    rw [same]
    exact range
  refine congrArg Host.Outcome.next ((frameHandled_head head).trans ?_)
  rw [handleFrame_genuine known passes, if_neg (by rw [within]; nofun)]

theorem beltKept_taken (s : State) (rest : List RxFrame) : BeltKept s (taken s rest) := by
  rw [taken_eq]
  constructor <;> rfl

/-- What the station's roster takes of a JOIN leaves the rest of the state. -/
theorem beforeJoin (s : State) (rest : List RxFrame) (i : Station) (d : Nat) :
    let v := updateRoster (taken s rest) (.join i d)
    v.part.digest = s.part.digest ∧ v.part.state = s.part.state ∧ v.part.faults = s.part.faults ∧ v.line.tx = s.line.tx ∧
      v.contest = s.contest ∧ (taken s rest).rosterEntry i = s.rosterEntry i ∧ v.fault .cfgMismatch = s.fault .cfgMismatch := by
  have part : (taken s rest).part = s.part := by rw [taken_eq]; rfl
  have contest : (taken s rest).contest = s.contest := by rw [taken_eq]; rfl
  have roster : (taken s rest).rosterEntry i = s.rosterEntry i := rosterEntry_congr (by rw [part]) i
  have faults : (updateRoster (taken s rest) (.join i d)).part.faults = s.part.faults :=
    (rfl : _ = (taken s rest).part.faults).trans (by rw [part])
  refine ⟨by simp [part], by simp [part], faults, by simp [tx_taken], by simp [contest], roster, ?_⟩
  unfold State.fault
  rw [faults]

/-- The range of a frame's contents, kind by kind (R75). -/
theorem inRange_iff (slots : Nat) (f : Frame) : f.inRange slots = true ↔ (match f with
    | .taken k _ _ => k < slots
    | .missed k _ => k < slots
    | .release k _ _ => k < slots
    | .claim _ _ _ k _ => k < slots
    | .announce k _ _ form => k < slots ∧ form < 6
    | .join _ _ => True
    | .withdraw _ _ => True
    | .unknown _ => True) := by
  cases f with
  | announce k i a form =>
    have form : (Form.ofCode form).isSome = true ↔ form < 6 := by
      refine ⟨fun h => Nat.lt_succ_of_le (formOfCode_isSome h), fun h => ?_⟩
      interval_cases form <;> rfl
    simp [Frame.inRange, Frame.slot?, form]
  | taken | missed | release | claim | join | withdraw | unknown => simp [Frame.inRange, Frame.slot?]

end Sys2Proof.Laws

open Sys2Proof Sys2Proof.Machine Sys2Proof.Safety Sys2Proof.Laws

/-- Settles O55: by the tests in order, the roster entry of the sender, and what a JOIN with another digest meets. -/
theorem handledFramesTestedAndRostered : Obligations.HandledFramesTestedAndRostered := by
  intro s
  refine ⟨fun empty => congrArg _ (frameHandled_empty empty), fun f own rest head => ?_⟩
  dsimp only
  refine ⟨fun noHeld quiet => ?_, fun known present genuine range => ?_⟩
  · have row : exec .frameHandled s = .next (runSearch (handleFrame (s.setLine { s.line with rx := rest }) ⟨f, own⟩)) :=
      congrArg Host.Outcome.next (by rw [frameHandled_head head, taken_unheld noHeld])
    rw [row]
    refine ⟨?_, fun known => ⟨fun stranger => ?_, fun present genuine range => ?_⟩⟩
    · rintro d rfl
      exact congrArg _ (runSearch_quiet quiet)
    · have reported := handleFrame_stranger (s := s.setLine { s.line with rx := rest }) known stranger
      exact congrArg Host.Outcome.next ((congrArg runSearch reported).trans (runSearch_quiet quiet))
    · have discarded := (handleFrame_genuine (s := s.setLine { s.line with rx := rest }) known ⟨present, genuine⟩).trans
        (if_pos (Bool.eq_false_of_not_eq_true (mt (inRange_iff s.slots f).mp range)))
      exact congrArg Host.Outcome.next ((congrArg runSearch discarded).trans (runSearch_quiet quiet))
  · have part : (taken s rest).part = s.part := by rw [taken_eq]; rfl
    have entry : ∀ i, (runSearch (dispatchFrame (taken s rest) own f)).rosterEntry i =
        if f.sender = i then rosterAfter s.part.digest (s.rosterEntry f.sender) f else s.rosterEntry i := fun i => by
      rw [rosterEntry_congr (congrArg (·.roster) (runSearch_part _)), rosterEntry_dispatchFrame]
      unfold State.rosterEntry
      rw [part]
    refine ⟨_, exec_frameHandled head known ⟨present, genuine⟩ ((inRange_iff s.slots f).mpr range),
      fun noHeld => ?_, ?_, fun i other => ?_, ?_, ?_, ?_,
      ?_, ?_⟩
    · have handled : lineRest (runSearch (dispatchFrame (taken s rest) own f)) = lineRest (taken s rest) := by simp
      rw [taken_unheld noHeld] at handled ⊢
      exact congrArg (·.rx) handled
    · rw [entry, if_pos rfl]
      cases f <;> cases state : (s.rosterEntry _).state <;> simp [rosterAfter, state]
    · rw [entry, if_neg (Ne.symm other)]
    · obtain ⟨config, pins, loop, gate, pending⟩ := beltKept_taken s rest
      constructor <;> simp [*]
    · rw [taken_eq]
      simp
    · rw [taken_eq]
      simp
    · rintro i d rfl other listening
      obtain ⟨digest, state, -, -, -, -, -⟩ := beforeJoin s rest i d
      rw [dispatchFrame_join, applyJoin_mismatch (by rwa [digest]) (by rwa [state])]
      obtain ⟨withdrawn, fault, frame⟩ := raiseCfgMismatch_effects (updateRoster (taken s rest) (.join i d))
      exact ⟨by simpa using withdrawn, (fault_of_part (runSearch_part _) _).trans fault, hasFrame_runSearch rfl frame⟩
    · rintro i d rfl met quiet
      obtain ⟨digest, state, faults, tx, contest, before, fault⟩ := beforeJoin s rest i d
      have metThen : (updateRoster (taken s rest) (.join i d)).part.digest = some d ∨
          (updateRoster (taken s rest) (.join i d)).part.state ≠ .listening := by rwa [digest, state]
      have silent_iff : Silent (updateRoster (taken s rest) (.join i d)) ((taken s rest).rosterEntry i) d ↔
          Silent s (s.rosterEntry i) d := by
        unfold Silent
        rw [digest, fault, before, tx]
      have still : ∀ v : State, v.contest = s.contest → runSearch v = v := fun v hv => runSearch_quiet (by rw [hv, quiet])
      rw [dispatchFrame_join]
      by_cases silent : Silent s (s.rosterEntry i) d
      · rw [applyJoin_silent metThen (silent_iff.mpr silent), still _ contest]
        exact ⟨state, faults, fun _ => tx, fun spoken => absurd silent spoken⟩
      · rw [applyJoin_answered metThen (mt silent_iff.mp silent), still _ (by rw [← contest]; simp)]
        exact ⟨by simpa using state, by simpa using faults, fun quiet => absurd quiet silent,
          fun _ => digest ▸ mem_tx_offerFrame_self rfl _⟩

end

section
/-! SUPPORT. What the handling of a frame does to the ANNOUNCE frames and to the counters before it tests them again: claims that
end, and at most one offer (R70, R112 to R119, R123). -/

namespace Sys2Proof.Laws

open Sys2Proof Sys2Proof.Machine Sys2Proof.Safety

variable {s t u v : State} {f : OutFrame} {k m : Nat} {c : Claim} {e : PendingEnd} {j : Fin 4}

/-! ### Claims that end leave the ANNOUNCE frames -/

/-- The queued ANNOUNCE frames. -/
def announces (s : State) : List TxFrame := framesBy OutFrame.isAnnounce s

/-- The events that a claim reports as it ends or is won (R115, R124). -/
def endEvents : List CounterEvent := [.claimWon, .claimLost, .claimExpired]

/-- The ANNOUNCE frames stand in a queue that has not grown, and claims alone were counted. -/
structure Calm (s t : State) : Prop where
  announces : announces t = announces s
  length : t.line.tx.length ≤ s.line.tx.length
  counted : Counted endEvents s.counters t.counters
  view : t.view = s.view
  state : t.part.state = s.part.state

theorem calm_trans (h : Calm s t) (h' : Calm t u) : Calm s u :=
  ⟨h'.announces.trans h.announces, h'.length.trans h.length, h.counted.trans h'.counted, h'.view.trans h.view,
    h'.state.trans h.state⟩

theorem calm_counted (line : t.line = s.line) (counted : Counted endEvents s.counters t.counters) (view : t.view = s.view)
    (state : t.part.state = s.part.state) : Calm s t :=
  ⟨framesBy_congr (by rw [line]), by rw [line], counted, view, state⟩

theorem calm_frame (same : t.line = s.line ∧ t.counters = s.counters ∧ t.view = s.view ∧ t.part.state = s.part.state) :
    Calm s t :=
  have ⟨line, counters, view, state⟩ := same
  calm_counted line (counters ▸ .none) view state

theorem calm_refl (s : State) : Calm s s := calm_frame ⟨rfl, rfl, rfl, rfl⟩

theorem calm_reportEnd (s : State) (c : Claim) (e : PendingEnd) : Calm s (reportEnd s c e) := by
  have counted : ∀ ev ∈ endEvents, Counted endEvents s.counters (reportPlace s ev c.target.place).counters := fun ev hev =>
    (kept_reportPlace (kept_refl endEvents s) hev _).counted
  refine calm_counted (by simp) ?_ (by simp) (by simp)
  cases e with
  | lost => exact counted .claimLost (by decide)
  | expired => exact counted .claimExpired (by decide)
  | cancelled | withdrawn => exact .none

theorem calm_reportWon (s : State) (p : PlaceId) : Calm s (reportPlace s .claimWon p) :=
  calm_counted (by simp) (kept_reportPlace (kept_refl endEvents s) (by decide) p).counted (by simp) (by simp)

theorem calm_leaveClaim (s : State) (c : Claim) : Calm s (leaveClaim s c) := calm_frame (by simp)
theorem calm_modifyClaim (s : State) (k : Nat) (g : Claim → Claim) : Calm s (modifyClaim s k g) := calm_frame (by simp)
theorem calm_cancelTest (s : State) (p : PlaceId) : Calm s (cancelTest s p) := calm_frame (by simp)
theorem calm_markIfFreed (s : State) (k : Nat) (before : ViewEntry) : Calm s (markIfFreed s k before) := calm_frame (by simp)

theorem calm_leaveWithEnd (s : State) (c : Claim) (e : PendingEnd) : Calm s (leaveWithEnd s c e) :=
  calm_trans (calm_reportEnd s c e) (calm_leaveClaim _ c)

theorem claimFor_not_announce {g : OutFrame} (h : g.isClaimFor k = true) : g.isAnnounce = false := by
  cases g with
  | claim => rfl
  | _ => cases h

theorem calm_askWithdrawal (s : State) (k : Nat) :
    Calm s (setTx s (askWithdrawal (OutFrame.isClaimFor k) s.line.tx)) :=
  ⟨framesBy_askWithdrawal (fun _ => claimFor_not_announce) s, by
    rw [tx_setTx, askWithdrawal, List.length_map]
    exact List.length_filter_le _ _, .none, rfl, rfl⟩

theorem calm_endUncommitted (s : State) (k : Nat) (e : PendingEnd) : Calm s (endUncommitted s k e) := by
  unfold endUncommitted
  split
  · exact calm_refl s
  next c _ =>
    have marked := calm_modifyClaim s k fun d => { d with pendingEnd := some (c.pendingEnd.getD e) }
    dsimp only
    split
    · have asked := calm_trans marked (calm_askWithdrawal _ k)
      split
      · exact calm_trans asked (calm_leaveWithEnd _ _ _)
      · exact asked
    · exact marked
    all_goals exact calm_refl s

theorem calm_lossCause (s : State) (k : Nat) : Calm s (lossCause s k) := by
  unfold lossCause endAndTest
  split
  · exact calm_refl s
  · exact calm_trans (calm_endUncommitted s k _) (calm_cancelTest _ _)

theorem calm_othersTaken (s : State) (k : Nat) : Calm s (othersTaken s k) := by
  unfold othersTaken
  split
  · exact calm_refl s
  · split
    · exact calm_lossCause s k
    · exact calm_lossCause s k
    · exact calm_trans (calm_leaveWithEnd _ _ _) (calm_cancelTest _ _)
    all_goals exact calm_refl s

theorem calm_disputeClaim (s : State) (k : Nat) : Calm s (disputeClaim s k) := by
  unfold disputeClaim
  split
  · exact calm_refl s
  · split
    · exact calm_lossCause s k
    · exact calm_lossCause s k
    · exact calm_trans (calm_leaveClaim _ _) (calm_cancelTest _ _)
    all_goals exact calm_modifyClaim _ _ _

theorem calm_loseClaim (s : State) (c : Claim) : Calm s (loseClaim s c) := by
  unfold loseClaim
  split <;> exact calm_leaveWithEnd _ _ _

/-! ### At most one offer -/

/-- Claims end, and at most one frame that is no ANNOUNCE is offered. -/
def Spends (s t : State) : Prop := Calm s t ∨ ∃ u f, f.isAnnounce = false ∧ Calm s u ∧ Calm (offerFrame u f) t

theorem spends_then (h : Spends s t) (h' : Calm t u) : Spends s u :=
  h.imp (fun calm => calm_trans calm h') fun ⟨w, f, other, before, after⟩ => ⟨w, f, other, before, calm_trans after h'⟩

theorem spends_offer (h : Calm s t) (other : f.isAnnounce = false) : Spends s (offerFrame t f) :=
  .inr ⟨t, f, other, h, calm_refl _⟩

theorem spends_view (h : Spends s t) : t.view = s.view := by
  rcases h with calm | ⟨u, f, -, before, after⟩
  · exact calm.view
  · exact after.view.trans ((by simp : (offerFrame u f).view = u.view).trans before.view)

theorem spends_state (h : Spends s t) : t.part.state = s.part.state := by
  rcases h with calm | ⟨u, f, -, before, after⟩
  · exact calm.state
  · exact after.state.trans ((by simp : (offerFrame u f).part.state = u.part.state).trans before.state)

theorem spends_winAndRelease (s : State) (c : Claim) (r : ReleaseReason) : Spends s (winAndRelease s c r) :=
  spends_offer (calm_trans (calm_reportWon s _) (calm_leaveClaim _ c)) rfl

theorem spends_winClaim (s : State) (c : Claim) (before : ViewEntry) : Spends s (winClaim s c before) := by
  unfold winClaim
  split
  case h_1 =>
    split
    · exact .inl (calm_leaveWithEnd s c _)
    all_goals exact spends_offer (calm_leaveWithEnd s c _) rfl
  case h_5 =>
    split
    · exact spends_winAndRelease s c _
    · exact .inl (calm_trans (calm_reportWon s _) (calm_modifyClaim _ _ _))
  all_goals exact spends_winAndRelease s c _

theorem spends_ite {p : Prop} [Decidable p] (yes : Spends s t) (no : Spends s u) : Spends s (if p then t else u) := by
  split
  · exact yes
  · exact no

theorem spends_winDecision (s : State) (c : Claim) (before : ViewEntry) : Spends s (winDecision s c before) := by
  unfold winDecision
  refine spends_then ?_ (calm_cancelTest _ _)
  exact spends_ite (.inl (calm_loseClaim s c)) (spends_winClaim s c before)

theorem spends_ownClaimHandled (s : State) (k : Nat) (before : ViewEntry) : Spends s (ownClaimHandled s k before) := by
  unfold ownClaimHandled
  split
  · unfold orphanHandled
    have erased : Calm s (s.setContest { s.contest with orphans := s.contest.orphans.erase k }) :=
      calm_frame ⟨rfl, rfl, rfl, rfl⟩
    cases before with
    | empty | free => exact spends_offer erased rfl
    | claimed | disputed => exact .inl erased
  · split
    · split
      · exact spends_winDecision s _ before
      · exact .inl (calm_refl s)
    · exact .inl (calm_refl s)

/-! ### The ANNOUNCE frames after an offer -/

/-- With room for the offer no ANNOUNCE is dropped (R70). -/
theorem spends_announces (h : Spends s t) (room : s.line.tx.length < 12) : announces t = announces s := by
  rcases h with calm | ⟨u, f, other, before, after⟩
  · exact calm.announces
  · have fits : u.line.tx.length < 12 := before.length.trans_lt room
    have joined : announces (offerFrame u f) = announces u := by
      rw [offerFrame_other other, offerOther_room (.inl (Nat.not_le.mpr fits)), announces, framesBy, tx_setTx]
      simp [announces, framesBy, List.filter_append, TxFrame.waiting, other]
    exact after.announces.trans (joined.trans before.announces)

theorem spends_counted (h : Spends s t) : Counted (.announceDropped :: endEvents) s.counters t.counters := by
  have ends : ∀ {a b : State}, Calm a b → Counted (.announceDropped :: endEvents) a.counters b.counters :=
    fun calm => calm.counted.mono (List.subset_cons_self _ _)
  rcases h with calm | ⟨u, f, -, before, after⟩
  · exact ends calm
  · exact (ends before).trans (((counted_offerFrame u f).mono (by simp)).trans (ends after))

/-! ### ANNOUNCE frames dropped are counted (R70) -/

/-- A counter of ANNOUNCE_DROPPED without a filter. -/
def CountsDropped (s : State) (j : Fin 4) : Prop := s.counters[j].event = some .announceDropped ∧ s.counters[j].filter = .none

theorem countsDropped_of_counted {E : List CounterEvent} (h : CountsDropped s j) (counted : Counted E s.counters t.counters) :
    CountsDropped t j := ⟨(counted.event j).trans h.1, (counted.filter j).trans h.2⟩

/-- The count m is reached by the counter and the ANNOUNCE frames, among those that q picks, still queued. -/
def Owed (q : TxFrame → Bool) (j : Fin 4) (m : Nat) (s : State) : Prop :=
  min m 4294967295 ≤ s.counters[j].value + (announces s).countP q

variable {q : TxFrame → Bool}

theorem owed_calm (h : Owed q j m s) (counts : CountsDropped s j) (calm : Calm s t) : Owed q j m t := by
  unfold Owed
  rw [calm.announces, calm.counted.silent counts.1 (by decide)]
  exact h

theorem countP_eraseLast (y : TxFrame) (l : List TxFrame) : l.countP q ≤ (eraseLast y l).countP q + 1 := by
  rw [eraseLast, List.countP_reverse, List.countP_erase, List.countP_reverse]
  split <;> omega

theorem announces_dropped (y : TxFrame) (other : f.isAnnounce = false) :
    announces (setTx t (eraseLast y s.line.tx ++ [TxFrame.waiting f])) = (eraseLast y s.line.tx).filter (·.frame.isAnnounce) := by
  rw [announces, framesBy, tx_setTx]
  simp [List.filter_append, TxFrame.waiting, other]

/-- R70: the ANNOUNCE that makes room is counted. -/
theorem owed_offerFrame (h : Owed q j m s) (counts : CountsDropped s j) (other : f.isAnnounce = false) :
    Owed q j m (offerFrame s f) := by
  have joined : announces (setTx s (s.line.tx ++ [TxFrame.waiting f])) = announces s := by
    rw [announces, framesBy, tx_setTx]
    simp [announces, framesBy, List.filter_append, TxFrame.waiting, other]
  rw [offerFrame_other other]
  by_cases full : 12 ≤ s.line.tx.length
  · cases last : lastWaitingAnnounce s with
    | none =>
      rw [offerOther_room (.inr (lastWaitingAnnounce_none.mp last)), Owed, joined]
      exact h
    | some y =>
      have value : (reportPlain s .announceDropped).counters[j].value = min (s.counters[j].value + 1) 4294967295 := by
        rw [reportPlain, report_counter, take_admitted counts.1 (by rw [counts.2]; rfl)]
      have left := countP_eraseLast (q := fun x => q x && x.frame.isAnnounce) y s.line.tx
      rw [offerOther_full full last, Owed, announces_dropped y other, List.countP_filter]
      unfold Owed announces framesBy at h
      rw [List.countP_filter] at h
      show _ ≤ (reportPlain s .announceDropped).counters[j].value + _
      rw [value]
      omega
  · rw [offerOther_room (.inl full), Owed, joined]
    exact h

theorem owed_spends (h : Owed q j m s) (counts : CountsDropped s j) (spends : Spends s t) : Owed q j m t := by
  rcases spends with calm | ⟨u, f, other, before, after⟩
  · exact owed_calm h counts calm
  · have counts := countsDropped_of_counted counts before.counted
    exact owed_calm (owed_offerFrame (owed_calm h ‹_› before) counts other)
      (countsDropped_of_counted counts (counted_offerFrame u f)) after

end Sys2Proof.Laws
end

section
/-! SUPPORT. The view after a handled frame, and the ANNOUNCE frames tested again (R73, R76, R84 to R94). -/

namespace Sys2Proof.Laws

open Sys2Proof Sys2Proof.Machine Sys2Proof.Safety

variable {s t u v w : State} {f : Frame} {own : Bool} {rest : List RxFrame} {k m : Nat} {j : Fin 4} {e b : ViewEntry}
  {y : TxFrame}

/-! ### The entry that a frame makes (R84 to R94) -/

/-- The entry of the slot of a frame after it. -/
def viewAfter (e : ViewEntry) : Frame → ViewEntry
  | .taken .. => .empty
  | .missed _ i => viewRelease e i
  | .release _ i _ => viewRelease e i
  | .claim _ _ i _ p => viewClaim e i p
  | .announce _ i a form =>
    match Form.ofCode form with
    | some fm => viewAnnounce e ⟨a, fm⟩ i
    | none => e
  | .join .. | .withdraw .. | .unknown _ => e

theorem viewAnnounce_cases (e : ViewEntry) (x : CaseId) (i : Station) : viewAnnounce e x i = (match e with
    | .empty => .free (some x) (some i)
    | .free none _ => .free (some x) (some i)
    | .free (some c) b => if c = x then .free (some c) b else .disputed c b
    | .claimed none _ cl p => .claimed (some x) (some i) cl p
    | .claimed (some c) b cl p => if c = x then .claimed (some c) b cl p else .disputed c b
    | .disputed c b => .disputed c b) := by
  cases e with
  | free d | claimed d => cases d <;> rfl
  | empty | disputed => rfl

theorem viewClaim_cases (e : ViewEntry) (i : Station) (p : PlaceId) : viewClaim e i p = (match e with
    | .empty => .claimed none none i p
    | .free c a => .claimed c a i p
    | .claimed c a cl q => .claimed c a cl q
    | .disputed c a => .disputed c a) := by
  cases e <;> rfl

theorem viewRelease_cases (e : ViewEntry) (i : Station) : viewRelease e i = (match e with
    | .claimed c a cl p => if cl = i then .free c a else .claimed c a cl p
    | .empty => .empty
    | .free c a => .free c a
    | .disputed c a => .disputed c a) := by
  cases e <;> rfl

theorem announceWanted_eq_false_iff (e : ViewEntry) (x : CaseId) : announceWanted e x = false ↔ match e with
    | .empty => False
    | .free d _ => d = some x
    | .claimed d _ _ _ => d = some x
    | .disputed _ _ => True := by
  cases e with
  | empty | disputed => simp [announceWanted]
  | free d | claimed d => cases d <;> simp [announceWanted]

/-! ### The second test of the ANNOUNCE frames (R73) -/

/-- An ANNOUNCE of slot k that the entry e does not ask for. -/
def staleAnnounce (e : ViewEntry) (k : Nat) : OutFrame → Bool
  | .announce i c => decide (i = k) && !announceWanted e c
  | _ => false

theorem staleAnnounce_isAnnounce {g : OutFrame} (h : staleAnnounce e k g = true) : g.isAnnounce = true := by
  cases g with
  | announce => rfl
  | _ => cases h

theorem retestAnnounces_same (h : w.viewAt k = b) : retestAnnounces w k b = w := if_pos h

theorem retestAnnounces_changed (h : w.viewAt k ≠ b) :
    retestAnnounces w k b = withdrawAnnounces w (staleAnnounce (w.viewAt k) k) := by
  refine (if_neg h).trans (congrArg (withdrawAnnounces w) (funext fun g => ?_))
  cases g <;> rfl

/-- Frames that the second test picks, waiting outside an attempt. -/
def stale (e : ViewEntry) (k : Nat) (y : TxFrame) : Bool := staleAnnounce e k y.frame && y.idle

theorem counted_retestAnnounces (w : State) (k : Nat) (b : ViewEntry) :
    Counted [.announceDropped] w.counters (retestAnnounces w k b).counters := by
  by_cases h : w.viewAt k = b
  · rw [retestAnnounces_same h]
    exact .none
  · rw [retestAnnounces_changed h]
    exact (kept_reportTimes (kept_setTx (kept_refl _ w) _) (List.mem_singleton_self _) _).counted

/-- R73: the frames that the second test withdraws are gone. -/
theorem retestAnnounces_gone (h : w.viewAt k ≠ b) (hy : y ∈ (retestAnnounces w k b).line.tx) : stale (w.viewAt k) k y = false := by
  rw [retestAnnounces_changed h, tx_withdrawAnnounces] at hy
  cases picked : staleAnnounce (w.viewAt k) k y.frame with
  | false => simp [stale, picked]
  | true => simp [stale, idle_askWithdrawal hy picked]

/-- R73: every other frame stays, its mark aside. -/
theorem retestAnnounces_stays (hy : y ∈ w.line.tx) (fresh : w.viewAt k ≠ b → stale (w.viewAt k) k y = false) :
    ∃ z ∈ (retestAnnounces w k b).line.tx, z.frame = y.frame ∧ z.sending = y.sending ∧ z.inAttempt = y.inAttempt := by
  by_cases h : w.viewAt k = b
  · rw [retestAnnounces_same h]
    exact ⟨y, hy, rfl, rfl, rfl⟩
  · rw [retestAnnounces_changed h, tx_withdrawAnnounces]
    refine ⟨asked _ y, mem_askWithdrawal.mpr ⟨y, hy, fun ⟨picked, idle⟩ => ?_, rfl⟩, by simp, by simp, by simp⟩
    have := fresh h
    rw [stale, picked, idle] at this
    cases this

/-- R73: each frame withdrawn is counted. -/
theorem retestAnnounces_counts (counts : CountsDropped w j) (h : w.viewAt k ≠ b) (owed : Owed (stale (w.viewAt k) k) j m w) :
    min m 4294967295 ≤ (retestAnnounces w k b).counters[j].value := by
  have number : (w.line.tx.filter (fun x => staleAnnounce (w.viewAt k) k x.frame && x.idle)).length =
      (announces w).countP (stale (w.viewAt k) k) := by
    rw [announces, framesBy, List.countP_filter, ← List.countP_eq_length_filter]
    refine List.countP_congr fun x _ => ?_
    simp only [stale, Bool.and_eq_true]
    exact ⟨fun ⟨picked, idle⟩ => ⟨⟨picked, idle⟩, staleAnnounce_isAnnounce picked⟩, And.left⟩
  rw [retestAnnounces_changed h]
  unfold withdrawAnnounces
  dsimp only
  rw [number]
  unfold Owed at owed
  have events : CountsDropped (setTx w (askWithdrawal (staleAnnounce (w.viewAt k) k) w.line.tx)) j := counts
  rcases Nat.eq_zero_or_pos ((announces w).countP (stale (w.viewAt k) k)) with none | some
  · rw [none] at owed ⊢
    exact owed
  · rw [reportTimes_value events.1 events.2 some]
    show _ ≤ min (w.counters[j].value + _) _
    omega

/-! ### A frame applied -/

/-- R76: a frame of a slot changes its entry, ends claims with at most one offer, and has the ANNOUNCE frames tested again. -/
theorem applyFrame_retest (slot : f.slot? = some k) (range : f.inRange v.slots = true) : ∃ w,
    applyFrame v own f = retestAnnounces w k (v.viewAt k) ∧
      Spends (setViewEntry v k (viewAfter (v.viewAt k) f)) w := by
  cases f with
  | join | withdraw | unknown => cases slot
  | taken k' i p =>
    cases slot
    refine ⟨_, rfl, ?_⟩
    cases own with
    | true => exact .inl (calm_refl _)
    | false => exact .inl (calm_othersTaken _ _)
  | missed k' i =>
    cases slot
    exact ⟨_, rfl, .inl (calm_markIfFreed _ _ _)⟩
  | release k' i r =>
    cases slot
    exact ⟨_, rfl, .inl (calm_markIfFreed _ _ _)⟩
  | claim d n i k' p =>
    cases slot
    refine ⟨_, rfl, ?_⟩
    cases own with
    | true => exact spends_ownClaimHandled _ _ _
    | false =>
      simp only [Bool.false_eq_true, if_false]
      split
      · exact spends_ite (.inl (calm_lossCause _ _)) (.inl (calm_refl _))
      · exact .inl (calm_refl _)
  | announce k' i a form =>
    cases slot
    cases code : Form.ofCode form with
    | none => simp [Frame.inRange, code] at range
    | some fm =>
      have entry : viewAfter (v.viewAt k) (.announce k i a form) = viewAnnounce (v.viewAt k) ⟨a, fm⟩ i := by
        simp [viewAfter, code]
      rw [entry]
      refine ⟨_, by simp only [applyFrame, code]; rfl, spends_then ?_ (calm_markIfFreed _ _ _)⟩
      exact spends_ite (.inl (calm_disputeClaim _ _)) (.inl (calm_refl _))

/-! ### The frame handled -/

/-- The state once the sender's roster entry has taken the frame. -/
def heard (s : State) (rest : List RxFrame) (f : Frame) : State := updateRoster (reportAnnounce (taken s rest) f) f

theorem heard_frame (s : State) (rest : List RxFrame) (f : Frame) : (heard s rest f).config = s.config ∧
    (heard s rest f).line.tx = s.line.tx ∧ (heard s rest f).view = s.view ∧ (heard s rest f).part.state = s.part.state := by
  refine ⟨?_, by simp [heard, tx_taken], ?_, ?_⟩
  all_goals
    unfold heard
    rw [taken_eq]
    simp

theorem heard_counters (s : State) (rest : List RxFrame) (f : Frame) :
    (heard s rest f).counters = (reportAnnounce s f).counters := by
  have before : (taken s rest).counters = s.counters := by rw [taken_eq]; rfl
  have same : (heard s rest f).counters = (reportAnnounce (taken s rest) f).counters := by simp [heard]
  rw [same]
  cases f with
  | announce k i a form => exact (report_counters _ _ _ _).trans (before ▸ (report_counters s _ _ _).symm)
  | taken | missed | release | claim | join | withdraw | unknown => exact before

theorem counted_heard (s : State) (rest : List RxFrame) (f : Frame) :
    Counted [.announceHeard] s.counters (heard s rest f).counters := by
  rw [heard_counters]
  cases f with
  | announce k i a form => exact (kept_report (kept_refl _ s) (List.mem_singleton_self _) _ _).counted
  | taken | missed | release | claim | join | withdraw | unknown => exact .none

/-- R164: only a JOIN makes a sender MISMATCHED, or ends it. -/
theorem rosterAfter_mismatched (noJoin : ∀ i d, f ≠ .join i d) (digest : Option Nat) (r : RosterEntry) :
    (rosterAfter digest r f).state = .mismatched ↔ r.state = .mismatched := by
  cases f with
  | join i d => exact absurd rfl (noJoin i d)
  | taken | missed | release | claim | announce | withdraw | unknown => cases state : r.state <;> simp [rosterAfter, state]

theorem heard_mismatched (noJoin : ∀ i d, f ≠ .join i d) : ((heard s rest f).rosterEntry f.sender).state = .mismatched ↔
    (s.rosterEntry f.sender).state = .mismatched := by
  have part : (reportAnnounce (taken s rest) f).part = s.part := by
    rw [taken_eq]
    simp
  rw [heard, rosterEntry_updateRoster, if_pos rfl, rosterAfter_mismatched noJoin]
  unfold State.rosterEntry
  rw [part]

theorem dispatchFrame_other (noJoin : ∀ i d, f ≠ .join i d) : dispatchFrame (taken s rest) own f =
    if (s.rosterEntry f.sender).state = .mismatched then heard s rest f else applyFrame (heard s rest f) own f := by
  have dispatched : dispatchFrame (taken s rest) own f =
      if ((heard s rest f).rosterEntry f.sender).state = .mismatched then heard s rest f
      else applyFrame (heard s rest f) own f := by
    cases f with
    | join i d => exact absurd rfl (noJoin i d)
    | taken | missed | release | claim | announce | withdraw | unknown => rfl
  rw [dispatched]
  by_cases h : (s.rosterEntry f.sender).state = .mismatched
  · rw [if_pos h, if_pos ((heard_mismatched noJoin).mpr h)]
  · rw [if_neg h, if_neg (mt (heard_mismatched noJoin).mp h)]

/-- What a frame that passes the tests, of a sender not MISMATCHED, leads to. -/
theorem frameHandled_applied (head : s.line.rx = ⟨f, own⟩ :: rest) (known : ∀ data, f ≠ .unknown data)
    (noJoin : ∀ i d, f ≠ .join i d) (genuine : Genuine s f own) (range : f.inRange s.slots = true)
    (agreed : (s.rosterEntry f.sender).state ≠ .mismatched) :
    frameHandled s = runSearch (applyFrame (heard s rest f) own f) := by
  have row := Host.Outcome.next.inj (exec_frameHandled head known genuine range)
  rw [row, dispatchFrame_other noJoin, if_neg agreed]

/-- The same for a frame of a slot: the second test of the ANNOUNCE frames comes last, before the search. -/
theorem frameHandled_slot (head : s.line.rx = ⟨f, own⟩ :: rest) (genuine : Genuine s f own) (slot : f.slot? = some k)
    (range : f.inRange s.slots = true) (agreed : (s.rosterEntry f.sender).state ≠ .mismatched) : ∃ w,
    frameHandled s = runSearch (retestAnnounces w k (s.viewAt k)) ∧
      Spends (setViewEntry (heard s rest f) k (viewAfter (s.viewAt k) f)) w := by
  have known : ∀ data, f ≠ .unknown data := by rintro data rfl; cases slot
  have noJoin : ∀ i d, f ≠ .join i d := by rintro i d rfl; cases slot
  obtain ⟨config, -, view, -⟩ := heard_frame s rest f
  have entry : (heard s rest f).viewAt k = s.viewAt k := viewAt_congr view k
  have slots : (heard s rest f).slots = s.slots := by unfold State.slots; rw [config]
  obtain ⟨w, applied, spends⟩ := applyFrame_retest (own := own) slot (slots ▸ range : f.inRange (heard s rest f).slots = true)
  rw [entry] at applied spends
  exact ⟨w, by rw [frameHandled_applied head known noJoin genuine range agreed, applied], spends⟩

theorem view_retestAnnounces (w : State) (k : Nat) (b : ViewEntry) : (runSearch (retestAnnounces w k b)).view = w.view := by
  simp

/-- R84: the frame changes the entry of its slot, and no other. -/
theorem frameHandled_view (head : s.line.rx = ⟨f, own⟩ :: rest) (genuine : Genuine s f own) (slot : f.slot? = some k)
    (range : f.inRange s.slots = true) (agreed : (s.rosterEntry f.sender).state ≠ .mismatched) :
    (frameHandled s).view = s.view.set k (viewAfter (s.viewAt k) f) := by
  obtain ⟨w, row, spends⟩ := frameHandled_slot head genuine slot range agreed
  obtain ⟨-, -, view, -⟩ := heard_frame s rest f
  rw [row, view_retestAnnounces, spends_view spends, ← view]
  rfl

/-- A frame that is discarded, or of a MISMATCHED sender, changes no entry. -/
theorem frameHandled_view_mismatched (head : s.line.rx = ⟨f, own⟩ :: rest) (noJoin : ∀ i d, f ≠ .join i d)
    (genuine : Genuine s f own) (mismatched : (s.rosterEntry f.sender).state = .mismatched) :
    (frameHandled s).view = s.view := by
  have before : (taken s rest).view = s.view := by rw [taken_eq]; rfl
  have same : (taken s rest).config = s.config := by rw [taken_eq]; rfl
  have passes : Genuine (taken s rest) f own := by
    unfold Genuine State.ownId
    rw [same]
    exact genuine
  have search : ∀ v, (runSearch v).view = v.view := fun v => by simp
  rw [frameHandled_head head, search]
  by_cases known : ∀ data, f ≠ .unknown data
  · rw [handleFrame_genuine known passes]
    split
    · exact before
    · rw [dispatchFrame_other noJoin, if_pos mismatched]
      exact (heard_frame s rest f).2.2.1
  · obtain ⟨data, rfl⟩ := not_forall_not.mp known
    rw [handleFrame_unknown]
    exact before

/-- A JOIN or a WITHDRAW changes no entry. -/
theorem frameHandled_view_other (head : s.line.rx = ⟨f, own⟩ :: rest) (genuine : Genuine s f own)
    (other : (∃ i d, f = .join i d) ∨ ∃ i r, f = .withdraw i r) : (frameHandled s).view = s.view := by
  have before : (taken s rest).view = s.view := by rw [taken_eq]; rfl
  have row : frameHandled s = runSearch (dispatchFrame (taken s rest) own f) := Host.Outcome.next.inj
    (exec_frameHandled head (by rcases other with ⟨i, d, rfl⟩ | ⟨i, r, rfl⟩ <;> nofun) genuine
      (by rcases other with ⟨i, d, rfl⟩ | ⟨i, r, rfl⟩ <;> rfl))
  have search : ∀ v, (runSearch v).view = v.view := fun v => by simp
  rw [row, search]
  rcases other with ⟨i, d, rfl⟩ | ⟨i, r, rfl⟩
  · rw [dispatchFrame_join]
    simpa using before
  · rw [dispatchFrame_other (by simp)]
    split <;> exact (heard_frame s rest _).2.2.1

/-- R76, R188: an ANNOUNCE that passes the tests is counted once. -/
theorem frameHandled_announceHeard {i : Station} {a form : Nat} (head : s.line.rx = ⟨.announce k i a form, own⟩ :: rest)
    (genuine : Genuine s (.announce k i a form) own) (range : (Frame.announce k i a form).inRange s.slots = true)
    (event : s.counters[j].event = some .announceHeard) (filter : s.counters[j].filter = .none ∨ s.counters[j].filter = .station i) :
    (frameHandled s).counters[j].value = min (s.counters[j].value + 1) 4294967295 := by
  have row : frameHandled s = _ := Host.Outcome.next.inj (exec_frameHandled head (by simp) genuine range)
  have told : (heard s rest (.announce k i a form)).counters[j] = s.counters[j].take .announceHeard (some i) none := by
    rw [heard_counters]
    exact report_counter _ _ _ _ _
  have value : (heard s rest (.announce k i a form)).counters[j].value = min (s.counters[j].value + 1) 4294967295 := by
    rw [told]
    refine take_admitted event ?_
    rcases filter with filter | filter
    · rw [filter]; rfl
    · rw [filter]; exact decide_eq_true rfl
  have silent : ∀ {u : State}, Counted (.announceDropped :: endEvents) (heard s rest (.announce k i a form)).counters u.counters →
      (runSearch u).counters[j] = (heard s rest (.announce k i a form)).counters[j] := fun {u} counted =>
    (counted.trans ((counted_runSearch u).mono (by simp))).silent (e := .announceHeard) (by rw [told, take_event, event]) (by decide)
  rw [row, dispatchFrame_other (by simp)]
  split
  · rw [silent .none, value]
  · obtain ⟨config, -, -, -⟩ := heard_frame s rest (.announce k i a form)
    have slots : (heard s rest (.announce k i a form)).slots = s.slots := by unfold State.slots; rw [config]
    obtain ⟨w, applied, spends⟩ := applyFrame_retest (own := own) (f := .announce k i a form) rfl (by rw [slots]; exact range)
    have retested := (counted_retestAnnounces w k ((heard s rest (.announce k i a form)).viewAt k)).mono
      (by simp : _ ⊆ .announceDropped :: endEvents)
    rw [applied, silent ((spends_counted spends).trans retested), value]

/-! ### The ANNOUNCE frames of the slot after the frame (R73) -/

/-- An ANNOUNCE of slot k that the entry e does not ask for, waiting outside an attempt. -/
theorem stale_iff : stale e k y = true ↔ (∃ c, y.frame = .announce k c ∧ (match e with
      | .empty => False
      | .free d _ => d = some c
      | .claimed d _ _ _ => d = some c
      | .disputed _ _ => True)) ∧ y.sending = false ∧ y.inAttempt = false := by
  have picked : staleAnnounce e k y.frame = true ↔ ∃ c, y.frame = .announce k c ∧ announceWanted e c = false := by
    cases y.frame with
    | announce i c =>
      simp only [staleAnnounce, Bool.and_eq_true, decide_eq_true_eq, Bool.not_eq_true', OutFrame.announce.injEq]
      exact ⟨fun ⟨slot, unasked⟩ => ⟨c, ⟨slot, rfl⟩, unasked⟩,
        fun ⟨_, ⟨slot, same⟩, unasked⟩ => ⟨slot, same ▸ unasked⟩⟩
    | taken | missed | release | claim | join | withdraw => simp [staleAnnounce]
  simp only [stale, Bool.and_eq_true, picked, announceWanted_eq_false_iff]
  simp [TxFrame.idle]

theorem tx_length_heard (s : State) (rest : List RxFrame) (f : Frame) (k : Nat) (e : ViewEntry) :
    (setViewEntry (heard s rest f) k e).line.tx = s.line.tx := (heard_frame s rest f).2.1

section
variable (spends : Spends (setViewEntry (heard s rest f) k (viewAfter (s.viewAt k) f)) w)
include spends

/-- Every other ANNOUNCE stays, the queue having room and no search being made. -/
theorem announce_stays (room : s.line.tx.length < 12) (inactive : s.part.state ≠ .active) (hy : y ∈ s.line.tx)
    (announce : y.frame.isAnnounce = true) (fresh : w.viewAt k ≠ s.viewAt k → stale (w.viewAt k) k y = false) :
    ∃ z ∈ (runSearch (retestAnnounces w k (s.viewAt k))).line.tx,
      z.frame = y.frame ∧ z.sending = y.sending ∧ z.inAttempt = y.inAttempt := by
  have tx := tx_length_heard s rest f k (viewAfter (s.viewAt k) f)
  have state : (retestAnnounces w k (s.viewAt k)).part.state ≠ .active := by
    have same : (retestAnnounces w k (s.viewAt k)).part.state = s.part.state := by
      simp [spends_state spends, (heard_frame s rest f).2.2.2]
    rwa [same]
  have kept : y ∈ announces w := by
    rw [spends_announces spends (by rwa [tx])]
    exact mem_framesBy.mpr ⟨tx ▸ hy, announce⟩
  rw [line_runSearch_inactive state]
  exact retestAnnounces_stays (mem_framesBy.mp kept).1 fresh

/-- Each ANNOUNCE that goes is counted, by the second test or where it made room. -/
theorem announce_counted (counts : CountsDropped s j) (changed : w.viewAt k ≠ s.viewAt k) :
    min (s.counters[j].value + s.line.tx.countP (stale (w.viewAt k) k)) 4294967295 ≤
      (runSearch (retestAnnounces w k (s.viewAt k))).counters[j].value := by
  have tx := tx_length_heard s rest f k (viewAfter (s.viewAt k) f)
  have heardCounted : Counted [.announceHeard] s.counters (setViewEntry (heard s rest f) k (viewAfter (s.viewAt k) f)).counters :=
    counted_heard s rest f
  have same := heardCounted.silent counts.1 (by decide)
  have countsHeard := countsDropped_of_counted counts heardCounted
  have picks : (announces (setViewEntry (heard s rest f) k (viewAfter (s.viewAt k) f))).countP (stale (w.viewAt k) k) =
      s.line.tx.countP (stale (w.viewAt k) k) := by
    rw [announces, framesBy, tx, List.countP_filter]
    refine List.countP_congr fun x _ => ?_
    simp only [stale, Bool.and_eq_true]
    exact ⟨And.left, fun ⟨picked, idle⟩ => ⟨⟨picked, idle⟩, staleAnnounce_isAnnounce picked⟩⟩
  have owed : Owed (stale (w.viewAt k) k) j (s.counters[j].value + s.line.tx.countP (stale (w.viewAt k) k))
      (setViewEntry (heard s rest f) k (viewAfter (s.viewAt k) f)) := by
    unfold Owed
    rw [same, picks]
    exact Nat.min_le_left _ _
  have retested := retestAnnounces_counts (countsDropped_of_counted countsHeard (spends_counted spends)) changed
    (owed_spends owed countsHeard spends)
  have searched := (counted_runSearch (retestAnnounces w k (s.viewAt k))).value_ge j
  omega

/-- The counters only gain reports (R188). -/
theorem handled_counted : Counted rowEvents s.counters (runSearch (retestAnnounces w k (s.viewAt k))).counters := by
  have heardCounted := (counted_heard s rest f).mono (by decide : _ ⊆ rowEvents)
  have spent := (spends_counted spends).mono (by decide : _ ⊆ rowEvents)
  have retested := (counted_retestAnnounces w k (s.viewAt k)).mono (by decide : _ ⊆ rowEvents)
  have searched := (counted_runSearch (retestAnnounces w k (s.viewAt k))).mono (by decide : _ ⊆ rowEvents)
  exact heardCounted.trans (spent.trans (retested.trans searched))

end

end Sys2Proof.Laws

open Sys2Proof Sys2Proof.Machine Sys2Proof.Safety Sys2Proof.Laws

/-- Settles O56: the entry by the kind of the frame, and the second test of the ANNOUNCE frames as the last step before the
search. -/
theorem handledFramesChangeTheView : Obligations.HandledFramesChangeTheView := by
  intro s f own rest head length present genuine
  have passes : Genuine s f own := ⟨present, genuine⟩
  refine ⟨frameHandled s, rfl, fun noJoin mismatched => frameHandled_view_mismatched head noJoin passes mismatched,
    fun agreed => ⟨?_, ?_, ?_, ?_, ?_, ?_⟩, ?_, fun agreed k slot range => ?_⟩
  · rintro k i p rfl hk
    exact frameHandled_view head passes rfl ((inRange_iff _ _).mpr hk) agreed
  · rintro k i (rfl | ⟨r, rfl⟩) hk
    · exact (frameHandled_view head passes rfl ((inRange_iff _ _).mpr hk) agreed).trans
        (congrArg (s.view.set k) (viewRelease_cases _ _))
    · exact (frameHandled_view head passes rfl ((inRange_iff _ _).mpr hk) agreed).trans
        (congrArg (s.view.set k) (viewRelease_cases _ _))
  · rintro u d i k p rfl hk
    exact (frameHandled_view head passes rfl ((inRange_iff _ _).mpr hk) agreed).trans
      (congrArg (s.view.set k) (viewClaim_cases _ _ _))
  · rintro k i a form fm rfl code hk
    have entry : viewAfter (s.viewAt k) (.announce k i a form) = viewAnnounce (s.viewAt k) ⟨a, fm⟩ i := by
      simp [viewAfter, formOfCode_eq_some_iff.mpr code]
    have form_lt : form < 6 := code ▸ Nat.lt_succ_of_le (form_code_le fm)
    rw [frameHandled_view head passes rfl ((inRange_iff _ _).mpr ⟨hk, form_lt⟩) agreed, entry]
    exact congrArg (s.view.set k) (viewAnnounce_cases _ _ _)
  · exact fun i d hf => frameHandled_view_other head passes (.inl ⟨i, d, hf⟩)
  · exact fun i r hf => frameHandled_view_other head passes (.inr ⟨i, r, hf⟩)
  · rintro k i a form rfl hk hform j event filter
    exact frameHandled_announceHeard head passes ((inRange_iff _ _).mpr ⟨hk, hform⟩) event filter
  · obtain ⟨w, row, spends⟩ := frameHandled_slot head passes slot range agreed
    have entry : (frameHandled s).viewAt k = w.viewAt k := viewAt_congr (by rw [row, view_retestAnnounces]) k
    dsimp only
    rw [entry]
    refine ⟨fun y hy ⟨changed, unwanted, idle⟩ => ?_, fun room inactive y hy announce stays => ?_,
      fun j gone sub goes event filter => ?_⟩
    · obtain ⟨c, frame, -⟩ := id unwanted
      have picked := stale_iff.mpr ⟨unwanted, idle⟩
      rw [row] at hy
      have before := mem_tx_runSearch hy (by rw [frame]; rfl)
      rw [retestAnnounces_gone changed before] at picked
      cases picked
    · rw [row]
      refine announce_stays spends room inactive hy announce fun changed => Bool.eq_false_of_not_eq_true fun picked => ?_
      exact stays ⟨changed, stale_iff.mp picked⟩
    · rw [row]
      by_cases changed : w.viewAt k = s.viewAt k
      · cases gone with
        | nil => exact (handled_counted spends).value_ge j
        | cons y gone => exact absurd changed (goes y List.mem_cons_self).1
      · have all : gone.countP (stale (w.viewAt k) k) = gone.length :=
          List.countP_eq_length.mpr fun y hy => stale_iff.mpr (goes y hy).2
        have few := sub.countP_le (p := stale (w.viewAt k) k)
        have counted := announce_counted spends ⟨event, filter⟩ changed
        omega

end
